-- ==== Sys2Proof/Word.lean ====
section
/-! DEFINITION. The word types of the module and the plainest tables: what every other file speaks of. -/
namespace Sys2Proof

/-- A binary32 value as its 32 bits (10 R309). -/
abbrev F32 := BitVec 32
/-- A binary64 value as its 64 bits (03 R116). -/
abbrev F64 := BitVec 64
/-- A 64-bit register or counter (00 R16). -/
abbrev U64 := BitVec 64
/-- The 16 result bytes of a completion, byte 0 least significant (02 R66, 00 R12). -/
abbrev Result := BitVec 128
/-- A string of bytes, such as a VisibleString (06 R189). -/
abbrev Bytes := List Nat
/-- A sparse table: what is listed, each key once. -/
abbrev Tbl (κ : Type) (α : Type) := List (κ × α)

/-- MTIME: seconds, nanoseconds and a 32-bit fraction of a nanosecond (00 R10). -/
structure MTime where
  sec : Nat
  ns : Nat
  frac : Nat
  deriving DecidableEq, Repr, Inhabited

/-- A location die:region:cluster:unit (00 R18). -/
structure Loc where
  die : Nat
  region : Nat
  cluster : Nat
  deriving DecidableEq, Repr, Inhabited

end Sys2Proof
end

