-- ==== Sys2Proof/Config.lean ====
section
/-! DEFINITION. What a module's making fixes: the variant with its figures, the factory values, and the free values
that the spec leaves open (opaque: no proof can see them). -/
namespace Sys2Proof

/-- The three variants (00 R1, Table SCP-1). -/
inductive Variant where
  | zv2 | zv4 | zv8
  deriving DecidableEq, Repr, Inhabited

namespace Config

/-- Dies of a variant (00 R3, R7). -/
def dies : Variant → Nat
  | .zv2 => 2
  | .zv4 => 4
  | .zv8 => 8

/-- Signals per die (Table SCP-1). -/
def signalsPerDie : Nat := 4194304
/-- Nodes per die (Table SCP-1). -/
def nodesPerDie : Nat := 4096
/-- Virtual functions of a variant: 64, 128, 256 (Table SCP-1). -/
def vfs (v : Variant) : Nat := 32 * dies v
/-- First VF Offset and VF Stride of the SR-IOV capability (15 R457). -/
def firstVfOffset : Nat := 1
def vfStride : Nat := 1
/-- The requester ID of a function, counted from the PF's (15 R457, R461). -/
def requester : Nat → Nat
  | 0 => 0
  | v + 1 => firstVfOffset + v * vfStride
/-- Ports of a variant (Table SCP-1). -/
def ports (v : Variant) : Nat := 4 * dies v
/-- Signal space of a variant (Table SCP-1). -/
def signals (v : Variant) : Nat := signalsPerDie * dies v
/-- Graph nodes of a variant (Table SCP-1). -/
def nodes (v : Variant) : Nat := nodesPerDie * dies v
/-- LEASH lanes of a variant, two per die (14 R427). -/
def lanes (v : Variant) : Nat := 2 * dies v

/-- BEHAVIOUR_REV of the running firmware, "Factory" (20 R596, R598). -/
opaque behaviourRev : Nat
/-- Hardware revision letter, ASCII, "Factory" (20 R598). -/
opaque revLetter : Nat
/-- Module serial number, "Factory" (20 R598). -/
opaque serial : U64
/-- The module's own MAC address (04 R148, 08 R268). -/
opaque factoryMac : Nat
/-- The highest LIB_VER that the firmware serves; LIB_VER 1 is served by every firmware (10 R306, R307). -/
opaque libVerMax : Nat
/-- Which of two grandmasters wins the IEEE 1588 dataset comparison, a standard the spec cites (03 R113). -/
opaque bmcaBetter : List Nat → List Nat → Bool
/-- The bytes of a published frame from its destination address to the end of its APDU, whose encoding is the cited
standards' (08 R259, R264, 14 R441). -/
opaque frameBytes : List Int → List Nat
/-- The length of those bytes, with the FCS. -/
opaque frameLen : List Int → Nat
/-- A free value: what the spec leaves open after an operation that goes on. -/
opaque freeValue : Nat → Nat
/-- The SHA-384 hash of a text, a cited standard (12 R394, 17 R520). -/
opaque sha384 : Bytes → Bytes
/-- HMAC-SHA256 of a text under a key, truncated to 128 bits, a cited standard (14 R421). -/
opaque hmac : Bytes → Bytes → Bytes
/-- HMAC-SHA384 of a text under a key, 48 bytes, a cited standard (17 R505, Table KEY-2). -/
opaque hmac384 : Bytes → Bytes → Bytes
/-- A 96-byte ECDSA P-384 signature by a private key over the SHA-384 hash of a text, a cited standard (17 R506, R520). -/
opaque sign : Bytes → Bytes → Bytes
/-- The AES-256-GCM ciphertext and tag of a text under a key, with its authenticated data, of which bytes 48 to 59 are the nonce,
a cited standard (17 R511). -/
opaque wrapKey : Bytes → Bytes → Bytes → Bytes
/-- The x-coordinate that a P-384 private key shares with a public point, a cited standard (17 R512). -/
opaque ecdh : Bytes → Bytes → Bytes
/-- The uncompressed public point of a P-384 key, 97 bytes, a cited standard (17 R507, R513). -/
opaque publicPoint : Bytes → Bytes
/-- The bytes of the device root secret; nothing returns them (17 R504). -/
opaque rootSecret : Bytes
/-- The vendor's public keys for firmware and for service, whose SHA-384 hashes are fused (17 R504, R521, R530). -/
opaque vendorFwKey : Bytes
opaque vendorServiceKey : Bytes
/-- The factory endorsement, a vendor signature over the hash of the identity public key (17 R506). -/
opaque endorsement : Bytes
/-- The fused SHA-384 hashes of the vendor firmware and vendor service public keys (17 R504). -/
def vendorFwHash : Bytes := sha384 vendorFwKey
def vendorServiceHash : Bytes := sha384 vendorServiceKey
/-- The code and the three parameters of the event that records a parity error of a storage kind, which no table gives (01 R44). -/
opaque parityEvent : Nat → Nat → Nat
/-- Random bytes of the DRBG of KENNEL: the n-th draw (17 R509). -/
opaque drbg : Nat → Bytes

end Config
end Sys2Proof
end

