-- ==== Sys2Proof/Machine/Data.lean ====
section
/-! DEFINITION. The data that the objects of the module hold and that the mirror carries between the two modules of a pair:
enable-able objects, signal records, carried values, operator states, logic tables, subscriptions, publications, graphs,
booked actions and the plant loop. -/
namespace Sys2Proof

/-- A GOOSE dataset member as received (08 R253). -/
inductive GooseValue where
  | boolean (b : Bool)
  | integer (bits : Nat) (v : Int)
  | unsigned (bits : Nat) (v : Nat)
  | dbpos (v : Nat)
  | enumerated (v : Int)
  | float32 (v : F32)
  | utcTime (sec ns : Nat)
  | quality (q : Nat)
  | other
  deriving DecidableEq, Repr, Inhabited

namespace Machine

/-- OBJ of an enable-able object: 0 OFF, 1 STARTING, 2 ON, 3 DRAINING. -/
inductive Obj where
  | off | starting | on | draining
  deriving DecidableEq, Repr, Inhabited

/-- The state of an enable-able object with what is booked or pending (Table GRF-6). -/
structure ObjSt where
  obj : Obj := .off
  drainBooked : Bool := false
  enPending : Bool := false
  deriving DecidableEq, Repr, Inhabited

/-- A signal record: value, QUAL and stamp (08 R240, Table SIG-3). -/
structure SigRec where
  value : BitVec 128
  qual : Nat
  stamp : MTime
  deriving DecidableEq, Repr, Inhabited

/-- An operand or output value: its type (S, F, B, I, INT64 signal, MTIME signal), raw value, QUAL and stamp (10). -/
inductive VType where
  | s | f | b | i | i64 | mtime
  deriving DecidableEq, Repr, Inhabited

/-- A carried value (09 R281): `bits` is the s32, the binary32 bits, 0 or 1, or the signal's value. -/
structure Val where
  type : VType
  bits : Int
  qual : Nat
  deriving DecidableEq, Repr, Inhabited

/-- The state of a node's operator (10): registers, rings, fill count and fallback mark. All empty or zero at cold start. -/
structure OpSt where
  regs : List Int := []
  ring : List (List Int × Nat) := []
  ring2 : List Int := []
  fill : Nat := 0
  mark : Bool := false
  deriving DecidableEq, Repr, Inhabited

/-- A timer (12 R371, Table LGC-4). -/
structure LTimer where
  pt : Nat
  evcomp : Bool
  /-- START in LT; none where ET is 0. -/
  start : Option Int := none
  running : Bool := false
  q : Bool := false
  prev : Bool := false
  primed : Bool := true
  deriving DecidableEq, Repr, Inhabited

/-- A counter (12 R373). -/
structure LCounter where
  pv : Int
  retain : Bool
  cv : Int := 0
  prev : Bool := false
  primed : Bool := true
  deriving DecidableEq, Repr, Inhabited

/-- An edge memory (12 R368). -/
structure LEdge where
  m : Bool := false
  primed : Bool := true
  deriving DecidableEq, Repr, Inhabited

/-- A mode of a task: 0 RUN, 1 STOP, 2 HOLD (12 R380). -/
inductive LMode where
  | run | stop | hold
  deriving DecidableEq, Repr, Inhabited

/-- The tables of a task: logic time with its remainder, timers, counters, edges (12 R368 to R373). -/
structure LTables where
  lt : Nat := 0
  /-- Remainders carried: RAW ticks of 1/500 µs (R369), and 1/144 µs of nominal periods (R382). -/
  rem : Nat := 0
  nomRem : Nat := 0
  timers : List LTimer := []
  counters : List LCounter := []
  edges : List LEdge := []
  deriving DecidableEq, Repr, Inhabited

/-- A task (12 R375 to R398). -/
structure TaskSt where
  o : ObjSt := {}
  mode : LMode := .run
  pendMode : Option (LMode × Nat) := none
  step : Bool := false
  /-- The journal sequence of the step (14 R434). -/
  stepSeq : Nat := 0
  fromHold : Bool := false
  lastRaw : Option Nat := none
  t : LTables := {}
  /-- Overrides of constants, PTs and PVs: what, index, value (R389). -/
  overrides : Tbl (Nat × Nat) (BitVec 128) := []
  pendRestart : Option Nat := none
  offDue : Bool := false
  deriving DecidableEq, Repr, Inhabited

/-- Live state of a GOOSE subscription (Table SIG-7). -/
inductive Live where
  | notOn | waiting | live | expired
  deriving DecidableEq, Repr, Inhabited

/-- A GOOSE subscription (08 R252 to R258). -/
structure GsSt where
  o : ObjSt := {}
  live : Live := .notOn
  stNum : Nat := 0
  sqNum : Nat := 0
  stPrev : Option Nat := none
  deadline : Option MTime := none
  held : List (BitVec 128 × Nat) := []
  members : List GooseValue := []
  inconsist : Bool := false
  /-- Bit 15 of the members' records, taken at the receive stamp of the last message written (Table SIG-3, R257). -/
  hold : Bool := false
  deriving DecidableEq, Repr, Inhabited

/-- A GOOSE publication (08 R259 to R263). -/
structure GpSt where
  o : ObjSt := {}
  stNum : Nat := 0
  sqNum : Nat := 0
  t0 : MTime := ⟨0, 0, 0⟩
  /-- The nominal time of the next frame, ns from t0, and the index k. -/
  nextNs : Nat := 0
  k : Nat := 0
  last : List (BitVec 128 × Nat) := []
  direct : List (BitVec 128 × Nat) := []
  echo : Nat := 0
  echoRaw : Option Nat := none
  deriving DecidableEq, Repr, Inhabited

/-- A sampled-value publication (08 R264 to R266). -/
structure SvpSt where
  o : ObjSt := {}
  nextInst : Nat := 0
  last : List (Int × Nat) := []
  /-- Values ready for a frame: source index, instant, value and QUAL. -/
  ready : List (Nat × Nat × Int × Nat) := []
  deriving DecidableEq, Repr, Inhabited

/-- A graph (09 R276, R294, R295, R297). -/
structure GraphSt where
  o : ObjSt := {}
  /-- A change booked for the next boundary: enable or disable. -/
  atBoundary : Option Bool := none
  /-- The boundaries that bound its instants, in cycle units from the epoch. -/
  fromTime : Nat := 0
  drainTime : Nat := 0
  /-- OFF reached; its signals commit at the next boundary. -/
  offDue : Bool := false
  /-- Groups that have reached OFF; their signals commit at the next boundary (R295). -/
  groupsDue : List Nat := []
  setGroup : Nat := 0
  pendGroup : Option Nat := none
  /-- Changes of setting group, newest first: boundary in cycle units, new and old group (R297). -/
  groupLog : List (Nat × Nat × Nat) := []
  groups : Tbl Nat ObjSt := []
  groupAt : Tbl Nat Bool := []
  groupFrom : Tbl Nat Nat := []
  groupDrain : Tbl Nat Nat := []
  lateSkip : Nat := 0
  custody : Bool := false
  deriving DecidableEq, Repr, Inhabited

/-- A booked action (09 R298). -/
structure SchedEntry where
  sec : Nat
  ns : Nat
  action : Nat
  target : Nat
  arg0 : Nat
  arg1 : F32
  strict : Bool
  jseq : Nat
  func : Nat
  /-- AT was past at acceptance: it takes effect at the first effect point (R300). -/
  late : Bool := false
  /-- Module time of the acceptance, where a late action is due (R300). -/
  accepted : MTime := ⟨0, 0, 0⟩
  deriving DecidableEq, Repr, Inhabited

/-- A coefficient write waiting for its sample (13 R414). -/
structure PendCoef where
  index : Nat
  value : F32
  effect : Nat
  late : Bool
  /-- The journal sequence of the command that made it. -/
  jseq : Nat
  deriving DecidableEq, Repr, Inhabited

/-- The plant loop engine (13). -/
structure LopSt where
  o : ObjSt
  /-- A disable waits for the next sample (R412). -/
  drainNext : Bool
  startAt : Option Nat
  coef : List F32
  pend : List PendCoef
  s11 : F32
  s21 : F32
  s12 : F32
  s22 : F32
  i : F32
  yp : F32
  outPrev : List Int
  outs : List (Int × Nat)
  invRun : Nat
  drainRun : Nat
  last : Nat
  nextSample : Nat
  /-- Node outputs that may serve as inputs: instant time, value, QUAL; newest first (R403). -/
  inputs : List (Nat × Val)
  /-- The first sample since the loop is ON (R410, R411). -/
  firstOn : Nat
  /-- Changes of coefficients made at the latest samples, for samples that are computed again (14 R436). -/
  applied : List PendCoef
  /-- The last change of L: its second, and L before it (01 R55). -/
  lenWas : Option (Nat × Nat)
  deriving DecidableEq, Repr, Inhabited

/-- What a page of the mirror holds, by the kind of its object (14 R435). The spec fixes no byte layout of a page; here one
page holds one object (log entry 41). -/
inductive PageData where
  | node (op : OpSt)
  | signal (r : SigRec) (under : Option SigRec)
  | force (f : Option (BitVec 128 × Nat))
  | task (t : LTables) (mode : LMode) (overrides : Tbl (Nat × Nat) (BitVec 128))
  | loop (x : LopSt)
  | gs (x : GsSt)
  | gp (x : GpSt)
  | svp (x : SvpSt)
  | graph (x : GraphSt)
  | sched (e : Option SchedEntry)
  /-- A booked logic bank switch: its cycle, and the SHA-384 hash of each switched task's image (12 R394). -/
  | lgcSwitch (cycle : Nat) (hashes : List (Nat × List Nat))
  /-- The cycle length in force, and the one committed for a whole second, 0 where none is (01 R55). -/
  | cycle (len next sec : Nat)
  /-- The PRP sequence number of a pair's shared frames (08 R267). -/
  | prp (seq : Nat)
  deriving DecidableEq, Repr, Inhabited

end Machine
end Sys2Proof
end

