-- ==== Sys2Proof/Syntax.lean ====
section
/-! DEFINITION. The commands of the block: one constructor of Instr for each row of the opcode table, with its operands,
and the data that the operands carry (packet headers, parameter blocks, images, frames, messages). -/
namespace Sys2Proof

/-! ### Command packets (02 R71, Tables CMD-3 and CMD-4) -/

/-- The header of a command packet, with the function and the queue pair that it stands in. -/
structure Hdr where
  /-- 0 for the PF, v + 1 for VF v (Table CMD-10). -/
  func : Nat
  qp : Nat
  tag : Nat
  strict : Bool
  genchk : Bool
  nojournal : Bool
  /-- Parameter-block length in bytes; 0 when PBLK is 0 (02 R72). -/
  pblkLen : Nat
  expGen : Nat
  /-- Host address of the parameter block, bytes 16 to 23 (02 R71, R72). -/
  pblkAddr : Nat := 0
  deriving DecidableEq, Repr, Inhabited

/-- QUEUE_CREATE parameters (Table CMD-9). -/
structure QueueParams where
  qp : Nat
  sqLog2 : Nat
  cqLog2 : Nat
  vector : Nat
  coalCount : Nat
  coalTime : Nat
  sqBase : Nat
  cqBase : Nat
  deriving DecidableEq, Repr, Inhabited

/-- TIM_PTP_CONFIG parameters (Table TIM-9). -/
structure PtpParams where
  profile : Nat
  domain : Nat
  portA : Nat
  portB : Nat
  annTimeout : Nat
  deriving DecidableEq, Repr, Inhabited

/-- TIM_ASYM_SET parameters (Table TIM-9). -/
structure AsymParams where
  port : Nat
  mode : Nat
  ingress : Nat
  egress : Nat
  cableAsym : Int
  deriving DecidableEq, Repr, Inhabited

/-- TIM_THRESH_SET parameters (Table TIM-9). -/
structure ThreshParams where
  pathStepThresh : Nat
  pathStepHold : Nat
  lockThresh : Nat
  slewMax : Nat
  stepLimit : Nat
  holdT1 : Nat
  holdTemp : Nat
  holdK1 : F32
  holdK2 : F32
  deriving DecidableEq, Repr, Inhabited

/-- NET_PORT_CONFIG parameters but for the port (Table NET-6). -/
structure PortParams where
  speed : Nat
  fec : Nat
  partner : Nat
  lan : Nat
  express : Nat
  /-- PREEMPT: bit 0 PREEMPT_EN, bit 1 VERIFY_DIS, the others zero. -/
  preempt : Nat
  addFrag : Nat
  verifyTime : Nat
  maxFrame : Nat
  pauseWdLimit : Nat
  pauseWdHold : Nat
  linkHold : Nat
  deriving DecidableEq, Repr, Inhabited

/-- NET_MGMT_CONFIG parameters but for the port (Table NET-6). -/
structure MgmtParams where
  enable : Nat
  maxFrame : Nat
  linkHold : Nat
  deriving DecidableEq, Repr, Inhabited

/-- SWC_QUEUE_CONFIG parameters (Table SWC-6). -/
structure SwcQueueParams where
  die : Nat
  dest : Nat
  classes : Nat
  min : Nat
  cap : Nat
  deriving DecidableEq, Repr, Inhabited

/-- One static multicast entry (05 R174, Table SWC-6). -/
structure McastEntry where
  valid : Nat
  mac : Nat
  vid : Nat
  ports : Nat
  consumers : Nat
  deriving DecidableEq, Repr, Inhabited

/-- SWC_PORT_FWD parameters but for the port (Table SWC-6). -/
structure PortFwd where
  defClass : Nat
  pvid : Nat
  learn : Nat
  flood : Nat
  deriving DecidableEq, Repr, Inhabited

/-- A stream context, SV_SUBSCRIBE's parameter block but for STREAM (Table SVI-1). -/
structure SvContext where
  port : Nat
  synchReq : Nat
  da : Nat
  appid : Nat
  confRev : Nat
  rate : Nat
  noch : Nat
  subst : Nat
  sim : Nat
  missQuest : Nat
  missInvalid : Nat
  keySlot : Nat
  maxLat : Nat
  futureTol : Nat
  svid : Bytes
  deriving DecidableEq, Repr, Inhabited

/-- FLT_CHAIN_SET parameters but for CHAIN and VALID (Table FLT-8). -/
structure ChainParams where
  stream : Nat
  pos : Nat
  kind : Nat
  fa : Nat
  fb : Nat
  priv : Nat
  det : Nat
  detN : Nat
  attackSh : Nat
  decaySh : Nat
  deriving DecidableEq, Repr, Inhabited

/-- One SIG_DEFINE entry but for ID and VALID (Table SIG-1); INIT is the 128-bit little-endian image. -/
structure SigDef where
  type : Nat
  source : Nat
  retain : Bool
  owner : Nat
  init : BitVec 128
  deriving DecidableEq, Repr, Inhabited

/-- One entry of SIG_DEFINE's block (Table SIG-1). -/
structure SigEntry where
  id : Nat
  valid : Bool
  sig : SigDef
  deriving DecidableEq, Repr, Inhabited

/-- One subscription map entry (Table SIG-5). -/
structure GsMap where
  member : Nat
  qmember : Nat
  type : Nat
  signal : Nat
  deriving DecidableEq, Repr, Inhabited

/-- A GOOSE subscription context but for CTX (Table SIG-4). -/
structure GsContext where
  port : Nat
  sim : Nat
  da : Nat
  appid : Nat
  confRev : Nat
  statusSig : Nat
  talMax : Nat
  keySlot : Nat
  nentries : Nat
  gocbref : Bytes
  datset : Bytes
  map : List GsMap
  deriving DecidableEq, Repr, Inhabited

/-- One publication member entry (Table SIG-9). -/
structure GpMember where
  src : Nat
  type : Nat
  qualf : Nat
  ref : Nat
  deriving DecidableEq, Repr, Inhabited

/-- A GOOSE publication context but for CTX (Table SIG-8). -/
structure GpContext where
  port : Nat
  identity : Nat
  da : Nat
  appid : Nat
  vid : Nat
  pcp : Nat
  sim : Nat
  confRev : Nat
  t1 : Nat
  t0 : Nat
  talMult : Nat
  echoCtx : Nat
  echoMember : Nat
  echoTimeout : Nat
  statusSig : Nat
  gocbref : Bytes
  datset : Bytes
  goid : Bytes
  members : List GpMember
  deriving DecidableEq, Repr, Inhabited

/-- A source of a sampled-value publication (Table SIG-16). -/
structure SvpSource where
  kind : Nat
  ref : Nat
  deriving DecidableEq, Repr, Inhabited

/-- A sampled-value publication but for STREAM (Table SIG-15). -/
structure SvpContext where
  port : Nat
  identity : Nat
  da : Nat
  appid : Nat
  vid : Nat
  pcp : Nat
  confRev : Nat
  rate : Nat
  noasdu : Nat
  pubDelay : Nat
  svid : Bytes
  sources : List SvpSource
  deriving DecidableEq, Repr, Inhabited

/-- SIG_WRITE and SIG_FORCE parameters (Table SIG-13). -/
structure SigWriteParams where
  id : Nat
  op : Nat
  qual : Nat
  value : BitVec 128
  deriving DecidableEq, Repr, Inhabited

/-- A slot entry of a node (Table GRF-3). -/
structure Slot where
  kind : Nat
  out : Nat
  ref : Nat
  deriving DecidableEq, Repr, Inhabited

/-- A node record (Table GRF-2); `params` holds, for each setting group, the node's 32-bit parameter words (10 R323). -/
structure NodeRec where
  operator : Nat
  group : Nat
  mustRun : Bool
  prot : Bool
  cycle : Bool
  budget : Nat
  nout : Nat
  cycleDiv : Nat
  stateLen : Nat
  paramRel : Nat
  initRel : Nat
  slotOfs : Nat
  cost : Nat
  slots : List Slot
  /-- The bytes of its parameters in each setting group, at PARAM_OFS + g × PARAM_STRIDE + PARAM_REL. -/
  paramBytes : List (List Nat)
  /-- The initial-state region is all zero bytes (10 R306). -/
  initZero : Bool
  deriving DecidableEq, Repr, Inhabited

/-- A public key whose private half can have made a signature: the vendor's two factory keys, or an uncompressed P-384 point. -/
inductive PubKey where
  | vendorFirmware
  | vendorService
  | point (b : Bytes)
  deriving DecidableEq, Repr, Inhabited
/-- An ECDSA P-384 signature as the host holds it: its 96 bytes, r followed by s, with the key and the text that it was made
over. The algorithm is a standard the spec cites; a signature verifies under the key and over the text that made it (17 R524). -/
structure Signature where
  bytes : Bytes
  signer : PubKey
  text : Bytes
  deriving DecidableEq, Repr, Inhabited
/-- An AES-256-GCM ciphertext with its tag, by what it was made from; the algorithm is a standard the spec cites (17 R511). -/
structure Sealed where
  key : Bytes
  nonce : Bytes
  aad : Bytes
  text : Bytes
  deriving DecidableEq, Repr, Inhabited
/-- What meets an operation of KENNEL while it runs (17 R515, R528, R531): a tamper source trips, a share of the slot's key fails
parity, or its engine gives a wrong result. -/
structure KeyRun where
  trip : Option Nat := none
  parity : Bool := false
  engineOk : Bool := true
  deriving DecidableEq, Repr, Inhabited
/-- The public key that a firmware image carries, with the image's signature (17 R521). -/
structure FwSign where
  key : PubKey
  sign : Signature
  deriving DecidableEq, Repr, Inhabited

/-- A graph image as the host's memory holds it (09 R274), with the signature of its last 96 bytes. -/
structure GraphImage where
  magic : Nat
  format : Nat
  minBrev : Nat
  libVer : Nat
  graph : Nat
  ngroups : Nat
  nsets : Nat
  nodeBase : Nat
  imageLen : Nat
  nodeOfs : Nat
  paramOfs : Nat
  paramStride : Nat
  initOfs : Nat
  nodes : List NodeRec
  /-- The bytes from 64 on before the signature, where no node record, slot entry or parameter lies over them. -/
  rest : Bytes
  sign : Signature
  deriving DecidableEq, Repr, Inhabited

/-- SCHEDULE parameters (Table GRF-11). -/
structure SchedParams where
  atSec : Nat
  atNs : Nat
  action : Nat
  target : Nat
  arg0 : Nat
  arg1 : F32
  deriving DecidableEq, Repr, Inhabited

/-- One member entry of a placement group (Table PLM-7). -/
structure GroupEntry where
  type : Nat
  set : Nat
  count : Nat
  first : Nat
  deriving DecidableEq, Repr, Inhabited

/-- PLM_GROUP_SET block but for GROUP and VALID (Table PLM-7). -/
structure GroupParams where
  kind : Nat
  entries : List GroupEntry
  deriving DecidableEq, Repr, Inhabited

/-- A logic constant: its value and its type, 0 BOOL, 1 INT32, 2 INT64, 3 FLOAT32 (12 R386). -/
structure LgcConst where
  value : BitVec 64
  type : Nat
  deriving DecidableEq, Repr, Inhabited

/-- A logic timer's table entry (12 R386). -/
structure LgcTimerDef where
  pt : Nat
  evcomp : Bool
  deriving DecidableEq, Repr, Inhabited

/-- A logic counter's table entry (12 R386). -/
structure LgcCounterDef where
  pv : Int
  retain : Bool
  deriving DecidableEq, Repr, Inhabited

/-- A logic image as the host's memory holds it (12 R386, Table LGC-8). -/
structure LogicImage where
  magic : Nat
  format : Nat
  minBrev : Nat
  task : Nat
  div : Nat
  instr : List (BitVec 32)
  consts : List LgcConst
  timers : List LgcTimerDef
  counters : List LgcCounterDef
  nedge : Nat
  decls : List SigEntry
  instrOfs : Nat
  constOfs : Nat
  timerOfs : Nat
  countOfs : Nat
  declOfs : Nat
  imageLen : Nat
  /-- The bytes from 64 on before the signature, where no table lies over them. -/
  rest : Bytes
  sign : Signature
  /-- The reserved bytes of the header and of the entries, and their unused FLAGS bits, are zero. -/
  padZero : Bool
  deriving DecidableEq, Repr, Inhabited

/-- LGC_VALUE_WRITE parameters (Table LGC-11). -/
structure LgcValueParams where
  task : Nat
  what : Nat
  index : Nat
  value : BitVec 128
  deriving DecidableEq, Repr, Inhabited

/-- LOOP_CONFIG block (Table LOP-6); `coef` holds the 37 coefficients. -/
structure LoopParams where
  rate : Nat
  inputKind : Nat
  out : Nat
  inputRef : Nat
  inLag : Nat
  loopWait : Nat
  invHold : Nat
  drainMax : Nat
  coef : List F32
  deriving DecidableEq, Repr, Inhabited

/-- Where a mirrored coefficient write takes effect: its sample, and the journal sequence of the command that made it (13 R414,
R415). -/
structure CoefAt where
  sample : Nat
  jseq : Nat
  deriving DecidableEq, Repr, Inhabited

/-- PAIR_CONFIG parameters (Table PAIR-12). -/
structure PairParams where
  mode : Nat
  lag : Nat
  leashSlot : Nat
  arbSlot : Nat
  m0Addr : Nat
  m1Addr : Nat
  prefixLen : Nat
  udpPort : Nat
  arbAddr0 : Nat
  arbAddr1 : Nat
  syncTimeout : Nat
  deriving DecidableEq, Repr, Inhabited

/-- The header of a key blob, bytes 0 to 47 (17 Table KEY-4). -/
structure BlobHead where
  magic : Nat
  format : Nat
  type : Nat
  engine : Nat
  persist : Bool
  generated : Bool
  wrapper : Nat
  keyLen : Nat
  context : Bytes
  deriving DecidableEq, Repr, Inhabited
/-- A key blob as the host's memory holds it, and what meets its load (17 R511, R514). -/
structure KeyBlob where
  head : BlobHead
  nonce : Bytes
  box : Sealed
  run : KeyRun
  deriving DecidableEq, Repr, Inhabited
/-- The key of an import block: a TYPE 3 key in the clear, with ephemeral point, nonce and tag all zero, or a key encrypted to the
module's import key (17 R512). -/
inductive ImportKey where
  | clear (key : Bytes)
  | sealed (ephemeral nonce : Bytes) (box : Sealed)
  deriving DecidableEq, Repr, Inhabited
/-- An import block as the host's memory holds it, and what meets the import (17 R512). -/
structure KeyImport where
  head : BlobHead
  key : ImportKey
  run : KeyRun
  deriving DecidableEq, Repr, Inhabited
/-- The challenge of KEY_ATTEST, and what meets the operation (17 R520). -/
structure AttestParams where
  challenge : Bytes
  run : KeyRun
  deriving DecidableEq, Repr, Inhabited

/-- KEY_GENERATE parameters (Table KEY-12). -/
structure KeyGenParams where
  slot : Nat
  type : Nat
  engine : Nat
  persist : Bool
  context : Bytes
  buf : Nat
  run : KeyRun
  deriving DecidableEq, Repr, Inhabited

/-- The calendar fields as BKD_RTC_WRITE and BKD_ALARM_SET give them (Tables BKD-1 and BKD-5). -/
structure Calendar where
  year : Nat
  month : Nat
  day : Nat
  hour : Nat
  min : Nat
  sec : Nat
  subsec : Nat
  deriving DecidableEq, Repr, Inhabited

/-! ### Frames -/

/-- The redundancy control trailer of a frame (04 R148). -/
structure PrpTrailer where
  lan : Nat
  seq : Nat
  deriving DecidableEq, Repr, Inhabited

/-- One ASDU of a sampled-value frame (06 Table SVI-2). -/
structure Asdu where
  svid : Bytes
  confRev : Nat
  smpSynch : Nat
  smpCnt : Nat
  seqLen : Nat
  values : List Int
  quals : List Nat
  deriving DecidableEq, Repr, Inhabited

/-- A sampled-value APDU; `decodable` and `authOk` are outcomes of the cited standards (06 R191, R192). -/
structure SvFrame where
  decodable : Bool
  da : Nat
  appid : Nat
  simulate : Nat
  authOk : Bool
  /-- Verifies under the key that a rolling commit replaced (17 R519). -/
  authOldOk : Bool
  len : Nat
  asdus : List Asdu
  deriving DecidableEq, Repr, Inhabited

/-- A GOOSE APDU as received (08 R254). -/
structure GooseFrame where
  decodable : Bool
  da : Nat
  appid : Nat
  gocbref : Bytes
  datset : Bytes
  confRev : Nat
  simulation : Nat
  ndsCom : Bool
  authOk : Bool
  authOldOk : Bool
  stNum : Nat
  sqNum : Nat
  tal : Nat
  tSec : Nat
  tNs : Nat
  members : List GooseValue
  len : Nat
  deriving DecidableEq, Repr, Inhabited

/-- The kinds of PTP messages that the switch tells apart (03 R115): Sync, its Follow_Up, the peer-delay messages, other event
messages, and general messages. -/
inductive PtpKind where
  | sync | followUp | pdelayReq | pdelayResp | otherEvent | general
  deriving DecidableEq, Repr, Inhabited

/-- A PTP message on its way through the module (03 R115): `id` names a Sync and its Follow_Up alike (source port identity,
domain and sequence), and `corr` is the correctionField in ps. -/
structure PtpMsg where
  kind : PtpKind
  twoStep : Bool
  id : Nat
  corr : Int
  deriving DecidableEq, Repr, Inhabited

/-- What a frame carries. -/
inductive Body where
  | sv (f : SvFrame)
  | goose (f : GooseFrame)
  | ptp (m : PtpMsg)
  | other
  deriving DecidableEq, Repr, Inhabited

/-- What spoiled a frame below the frame check: nothing, a PCS decode error or the loss of block lock, a reassembly error or a
wrong SMD of the MAC merge sublayer (04 R138, Table NET-4). -/
inductive RxFault where
  | none | pcs | assembly | smd
  deriving DecidableEq, Repr, Inhabited

/-- A frame received on an external port (05 R165, R172): length from the destination address to the FCS, and the number of
continuation fragments that it came in. -/
structure Frame where
  da : Nat
  sa : Nat
  tag : Option (Nat × Nat)
  len : Nat
  fcsOk : Bool
  prp : Option PrpTrailer
  body : Body
  frags : Nat := 0
  fault : RxFault := .none
  deriving DecidableEq, Repr, Inhabited

/-- A Sync of one LAN: receive stamp, origin timestamp and correction (03 R113, R121); for a two-step master the last two
come with the Follow_Up. -/
structure SyncMsg where
  lan : Nat
  domain : Nat
  twoStep : Bool
  stampRaw : Nat
  stampSub : Nat
  origin : MTime
  /-- correctionField, ps. -/
  corr : Int
  deriving DecidableEq, Repr, Inhabited

/-- An Announce of one LAN (03 R113, Table TIM-1). -/
structure AnnounceMsg where
  lan : Nat
  domain : Nat
  gm : Nat
  /-- The dataset compared by the IEEE 1588 algorithm. -/
  dataset : List Nat
  utcOffset : Int
  utcValid : Bool
  leap61 : Bool
  leap59 : Bool
  timeTraceable : Bool
  freqTraceable : Bool
  /-- grandmasterTimeInaccuracy and networkTimeInaccuracy of the IEEE C37.238 TLV, ns; 0 when absent. -/
  gmInacc : Nat
  netInacc : Nat
  deriving DecidableEq, Repr, Inhabited

/-- An arbiter token message (14 R422, Table PAIR-3); `macOk` and `macOldOk` are the HMAC outcomes under the current key
and under the key that a commit replaced (17 R516). -/
structure TokenMsg where
  crcOk : Bool
  viaArb : Bool
  macOk : Bool
  macOldOk : Bool
  holder : Nat
  grant : Bool
  epoch : Nat
  seq : Nat
  answers : Nat
  partnerAge : Nat
  partnerState : Nat
  partnerFailed : Bool
  deriving DecidableEq, Repr, Inhabited

/-- Outcomes that the start-up meets (19 R570): whether the flush at the last power fail outran its energy, and whether the
known-answer tests of KENNEL pass (14 R450). -/
structure StartTests where
  outran : Bool
  katOk : Bool
  deriving DecidableEq, Repr, Inhabited
/-- What happens in the loopback test of a lane (14 R450): the pattern is due, the partner's pattern arrives and is echoed, or an
echo arrives. -/
inductive LoopRow where
  | due
  | request (pattern : Bytes)
  | echo (pattern : Bytes)
  deriving DecidableEq, Repr, Inhabited
/-- The page key of the mirror: object kind, object ID, page index (14 R435). -/
structure PageKey where
  kind : Nat
  obj : Nat
  index : Nat
  deriving DecidableEq, Repr, Inhabited

/-- Where the image of a load command stands in host memory: ADDR and LEN (09 Table GRF-8, 12 Table LGC-11). -/
structure ImageAt where
  addr : Nat
  len : Nat
  deriving DecidableEq, Repr, Inhabited

/-- The other fields of LGC_ONLINE_LOAD (12 Table LGC-11). -/
structure OnlineFields where
  keySlot : Nat
  valid : Nat
  task : Nat
  deriving DecidableEq, Repr, Inhabited

/-- A write of CMD_SQ_TAIL: TAIL, and the packets placed in the ring whose opcode no row names, in their order, each as the 64
bytes of Table CMD-3 (02 R68, R71). A packet that a row names is a command of its own. -/
structure TailWrite where
  tail : Nat
  packets : List Bytes
  deriving DecidableEq, Repr, Inhabited

/-- The four times of a two-way exchange with a die, in ps of RAW: die 0 sends, the die takes, the die answers, die 0 takes
(03 R110). -/
structure TwoWay where
  t1 : Int
  t2 : Int
  t3 : Int
  t4 : Int
  deriving DecidableEq, Repr, Inhabited

/-- A Follow_Up: its domain and the origin time it carries (03 R112, R121). -/
structure FollowUp where
  domain : Nat
  origin : MTime
  deriving DecidableEq, Repr, Inhabited

/-- The air inlet and the OCXO zone, °C (03 R104, 19 R558). -/
structure AirTemps where
  inlet : Int
  ocxo : Int
  deriving DecidableEq, Repr, Inhabited

/-- The link header of a LEASH frame: lane, lane sequence, epoch, and whether its tag verifies (14 R428, R430). A frame that was
sent before on a lane that went down names that lane and its sequence there (log entry 157). -/
structure LeashHdr where
  lane : Nat
  seq : Nat
  epoch : Nat
  tagOk : Bool
  moved : Option (Nat × Nat) := none
  deriving DecidableEq, Repr, Inhabited

/-- One decided instant of the admission record (14 R434). -/
structure AdmitInstant where
  stream : Nat
  instant : Nat
  admitted : Bool
  values : List Int
  quals : List Nat
  deriving DecidableEq, Repr, Inhabited

/-- One item of the admission record (14 R434): a decided instant; a chain's ENV or RMS state at its last output of the cycle,
with that output's instant; a GOOSE message accepted, with its receive stamp and the cycle whose opening boundary commits it; a
command that took effect at the boundary that closes the cycle, by journal sequence and opcode. -/
inductive AdmitItem where
  | decided (a : AdmitInstant)
  | detector (chain instant : Nat) (env sqSum : Int)
  | goose (ctx stNum sqNum : Nat) (stamp : MTime) (cycle : Nat)
  | command (jseq opcode : Nat)
  deriving DecidableEq, Repr, Inhabited

/-- A shared frame's key: kind 0 GOOSE (context, stNum, sqNum), kind 1 sampled values (stream, instant, 0) (14 R441). -/
structure ShadowKey where
  kind : Nat
  ctx : Nat
  a : Nat
  b : Nat
  deriving DecidableEq, Repr, Inhabited

/-- Names of the RC counters and peaks that RC_COUNTER_READ reads, with their indexes. -/
inductive Ctr where
  -- ports (04 Table NET-4): k is the counter's place in the table, 0 for offset 0x0100
  | net (port : Nat) (k : Nat)
  -- switch (05 Table SWC-4)
  | swcTailDrop (die q : Nat) | swcParityDrop (die dest : Nat) | swcBadCut (die dest : Nat) | swcUnknownDrop (die : Nat)
  | swcDdDiscard (die : Nat) | swcDdForgot (die : Nat) | swcLearnFull (die : Nat) | swcCutThrough (die : Nat)
  | swcTableParity (die : Nat) | swcPoolPeak (die : Nat)
  -- ingest (06 Table SVI-7): k is the place from 0x0100 (stream) or 0x0800 (die)
  | svi (stream : Nat) (k : Nat) | sviDie (die : Nat) (k : Nat)
  -- filters (07 Table FLT-6)
  | fltSat (array : Nat) | fltStall (array : Nat) | fltParity (array : Nat) | fltGoldenFail (array : Nat)
  | fltHeelCount | fltHeelIgnored
  -- signals (08 Table SIG-11): k is the place from 0x0100 (context) or 0x0800 (die)
  | gs (ctx : Nat) (k : Nat) | gsDie (die : Nat) (k : Nat) | gpTx (ctx : Nat) | sigLateWrite (die : Nat) | sigSvpLate (die : Nat)
  -- dispatch (09 Table GRF-9)
  | grfWaitHist (region k : Nat) | grf (region : Nat) (k : Nat) | grfNodeLate (node : Nat) | grfNodeSkip (node : Nat)
  | grfRdyPeak (region : Nat) | grfMsPeak (region : Nat)
  -- placement (11 Table PLM-5)
  | plmMigrate (die : Nat) | plmDefer (die : Nat) | plmBistSkip (die : Nat)
  -- logic (12 Table LGC-9)
  | lgcScanMax (proc : Nat) | lgcOverrun (proc : Nat) | lgcTaskScans (task : Nat)
  -- loop (13 Table LOP-4): k is the place from 0x0200
  | lop (k : Nat)
  -- pair (14 Table PAIR-10): k is the place from 0x0100; LEASH k 0 TX, 1 RX, 2 RETX, 3 AUTH_FAIL
  | pair (k : Nat) | leash (lane : Nat) (k : Nat)
  -- VFs (15 Table VFN-6): k is the place from 0x0200
  | vfn (vf : Nat) (k : Nat)
  -- recorder (16 Table EVR-4)
  | evrStagePeak | evrLost | evrWritten
  -- keys (17 Table KEY-10)
  | keyOps | keyRemask | keyTamperAbort | keyUnwrapFail
  -- power (19 Table PWR-7)
  | pwrResid (die dom state : Nat) | pwrWake (die dom : Nat) | pwrLateWake (die dom : Nat) | pwrRetainLag
  -- hardware (20 Table HWI-10)
  | hwiTjPeak (die : Nat) | hwiArbRx | hwiArbCrc
  -- parity errors per storage kind and die (01 R44)
  | parity (kind die : Nat)
  deriving DecidableEq, Repr, Inhabited

/-- How RC_COUNTER_READ accesses a 64-bit counter (00 R16). -/
inductive RcAccess where
  | whole | lowWord | highWord
  deriving DecidableEq, Repr, Inhabited

/-- The registers that a plain write sets: the RW fields without behaviour of their own, and any other offset, where a
write is ignored (00 R13, R14). -/
inductive PlainReg where
  | aqSqBase (func : Nat) | aqCqBase (func : Nat) | aqDepths (func : Nat)
  | sviCtxSel (die : Nat) | fltChainSel (die : Nat) | sigGsSel (die : Nat) | sigGpSel (die : Nat)
  | grfNodeSel | lgcTaskSel | vfnSel | keySlotSel | pwrDomSel (die : Nat)
  /-- A 4-byte write of one half of a 64-bit register (02 R60). -/
  | aqSqBaseHalf (func : Nat) (high : Bool) | aqCqBaseHalf (func : Nat) (high : Bool)
  | jnlCursorHalf (func : Nat) (high : Bool) | evrCursorHalf (high : Bool)
  | readOnly (offset : Nat)
  deriving DecidableEq, Repr, Inhabited

/-- An event to record: its code, parameters, level and place, and its stamp where the happening has one of its own
(16 R480 to R483). -/
structure Event where
  code : Nat
  p1 : Nat
  p2 : Nat
  p3 : Nat
  level : Nat
  loc : Loc
  unit : Nat
  object : Nat
  stamp : Option MTime
  deriving DecidableEq, Repr, Inhabited

/-- Where a parity error was found (01 Table ARC-3). -/
inductive ParityPlace where
  | signalRecord (id : Nat)
  | filterHistory (chain : Nat)
  | nodeState (node : Nat)
  | keyShare (slot : Nat)
  | packetBuffer (chain : Nat)
  | instant (stream inst : Nat)
  | journalEntry (jseq : Nat)
  | eventRecord (seq : Nat)
  | other (kind : Nat)
  deriving DecidableEq, Repr, Inhabited

/-- What failed parity during a firing (01 R23, Table ARC-3): nothing, the kernel cache or operand buffer, the node's state
in the cluster state store, or that state and its local checkpoint. -/
inductive FiringParity where
  | good | buffer | state | stateAndCheckpoint
  deriving DecidableEq, Repr, Inhabited

/-- The commands of the block, one constructor per row of the opcode table. Rows that are opcodes carry their packet's
header; the others carry what the happening brings. -/
inductive Instr where
  -- general (02, 01)
  | sysCycleSet (h : Hdr) (len : Nat)
  | configCommit (h : Hdr)
  | configAbort (h : Hdr)
  | queueCreate (h : Hdr) (p : QueueParams)
  | queueDelete (h : Hdr) (qp : Nat)
  | nop (h : Hdr)
  | identify (h : Hdr)
  -- time (03)
  | timPtpConfig (h : Hdr) (p : PtpParams)
  | timAsymSet (h : Hdr) (p : AsymParams)
  | timThreshSet (h : Hdr) (p : ThreshParams)
  | acceptPath (h : Hdr) (lan : Nat)
  | timStep (h : Hdr) (atSec : Nat)
  | timStepApply
  | timStatus (h : Hdr)
  -- ports (04)
  | netPortConfig (h : Hdr) (port : Nat) (p : PortParams)
  | netMgmtConfig (h : Hdr) (mport : Nat) (p : MgmtParams)
  | netPortEnable (h : Hdr) (port enable : Nat)
  | netPortStatus (h : Hdr) (port : Nat)
  -- switch (05)
  | swcQueueConfig (h : Hdr) (p : SwcQueueParams)
  | swcMcastSet (h : Hdr) (die index : Nat) (e : McastEntry)
  | swcPortFwd (h : Hdr) (port : Nat) (p : PortFwd)
  | swcAging (h : Hdr) (age ddAge : Nat)
  | swcLearnFlush (h : Hdr) (port : Nat)
  | swcMcastRead (h : Hdr) (die index : Nat)
  | swcLookup (h : Hdr) (die port mac vid : Nat)
  -- sampled-value ingest (06)
  | svSubscribe (h : Hdr) (stream : Nat) (c : SvContext)
  | svUnsubscribe (h : Hdr) (stream : Nat)
  | svStreamEnable (h : Hdr) (stream enable : Nat)
  | svResync (h : Hdr) (stream : Nat)
  | svStreamRead (h : Hdr) (stream : Nat)
  -- filters (07)
  | fltChainSet (h : Hdr) (chain : Nat) (valid : Nat) (p : ChainParams)
  | fltHeelPin (h : Hdr) (pinEn pinClear : Nat)
  | fltHeel (h : Hdr) (atSec atNs clear : Nat)
  | fltChainRead (h : Hdr) (chain : Nat)
  -- signals and GOOSE (08)
  | sigDefine (h : Hdr) (entries : List SigEntry)
  | sigGsSubscribe (h : Hdr) (ctx : Nat) (c : GsContext)
  | sigGpDefine (h : Hdr) (ctx : Nat) (c : GpContext)
  | sigSvpDefine (h : Hdr) (stream : Nat) (c : SvpContext)
  | sigSharedId (h : Hdr) (mac : Nat)
  | sigWrite (h : Hdr) (p : SigWriteParams)
  | sigForce (h : Hdr) (p : SigWriteParams)
  | sigGsEnable (h : Hdr) (ctx enable : Nat)
  | sigGpEnable (h : Hdr) (ctx enable : Nat)
  | sigRead (h : Hdr) (id count : Nat) (under : Bool) (buf : Nat)
  -- graphs and dispatch (09)
  | grfGraphLoad (h : Hdr) (image : ImageAt) (keySlot : Nat) (img : GraphImage)
  | grfGraphUnload (h : Hdr) (graph : Nat)
  | grfEnable (h : Hdr) (type enable id : Nat)
  | schedule (h : Hdr) (p : SchedParams)
  | scheduleCancel (h : Hdr) (handle : Nat)
  | grfSettingGroup (h : Hdr) (graph group : Nat)
  | grfGraphRead (h : Hdr) (graph : Nat)
  | scheduleRead (h : Hdr) (handle : Nat)
  | grfShareRead (h : Hdr) (func : Nat)
  -- placement (11)
  | plmGroupSet (h : Hdr) (group : Nat) (valid : Nat) (p : GroupParams)
  | plmOwnerDies (h : Hdr) (func dies : Nat)
  | plmPolicy (h : Hdr) (placeLimit consolidate deferWarn : Nat)
  | plmFreeze (h : Hdr) (enable : Nat)
  | plmMapRead (h : Hdr) (type first count buf : Nat)
  -- logic (12)
  | lgcTaskDefine (h : Hdr) (image : ImageAt) (keySlot valid task : Nat) (img : LogicImage)
  | lgcConfig (h : Hdr) (modeSrc restartMode : Nat)
  | lgcEnable (h : Hdr) (task enable : Nat)
  | lgcMode (h : Hdr) (task mode : Nat)
  | lgcStep (h : Hdr) (task : Nat)
  | lgcValueWrite (h : Hdr) (p : LgcValueParams)
  | lgcOnlineLoad (h : Hdr) (image : ImageAt) (p : OnlineFields) (img : LogicImage)
  | lgcOnlineSwitch (h : Hdr) (cancel : Nat)
  | lgcRestart (h : Hdr) (task kind : Nat)
  | lgcTaskRead (h : Hdr) (task : Nat)
  -- loop (13)
  | loopConfig (h : Hdr) (p : LoopParams)
  | loopEnable (h : Hdr) (enable : Nat)
  | loopCoefWrite (h : Hdr) (index : Nat) (value : F32)
  | loopRead (h : Hdr)
  -- pair (14)
  | pairConfig (h : Hdr) (p : PairParams)
  | pairRelinquish (h : Hdr)
  | pairLeashRekey (h : Hdr) (slot atCycle : Nat)
  | pairStatus (h : Hdr)
  | pairHealthRead (h : Hdr) (buf : Nat)
  -- VFs (15)
  | vfnPolicy (h : Hdr) (fraction : Nat)
  | vfnVfConfig (h : Hdr) (vf prot : Nat)
  | vfEnable (h : Hdr) (vf enable : Nat)
  | vfQuiesce (h : Hdr) (vf : Nat)
  | vfResume (h : Hdr) (vf : Nat)
  | vfShareSet (h : Hdr) (vf res grant : Nat)
  | vfCustodyReturn (h : Hdr) (vf : Nat)
  | vfLatencySet (h : Hdr) (func tol : Nat)
  | vfStatus (h : Hdr) (vf buf : Nat)
  -- recorder (16)
  | evrClear (h : Hdr) (upto : Nat)
  | evrMark (h : Hdr) (p1 p2 p3 : Nat)
  | evrRead (h : Hdr) (first count buf : Nat)
  -- keys (17)
  | keyConfig (h : Hdr) (extEn rollMs : Nat)
  | keyImport (h : Hdr) (slot buf : Nat) (imp : KeyImport)
  | keyLoad (h : Hdr) (slot : Nat) (blob : KeyBlob)
  | keyGenerate (h : Hdr) (p : KeyGenParams)
  | keyVerify (h : Hdr) (slot mode : Nat) (kcv : U64) (run : KeyRun)
  | keyCommit (h : Hdr) (slot atCycle : Nat)
  | keyDiscard (h : Hdr) (slot which : Nat)
  | keyAttest (h : Hdr) (slot signer : Nat) (p : AttestParams) (buf : Nat)
  | keyFwWrite (h : Hdr) (offset : Nat) (data : Bytes)
  | keyFwActivate (h : Hdr)
  | keyRollbackAdvance (h : Hdr) (level : Nat)
  | keyTamperClear (h : Hdr) (kind : Nat) (sign : Signature)
  | keyRecoverySet (h : Hdr) (point : Bytes)
  | keySlotRead (h : Hdr) (slot : Nat)
  | keyIdentityRead (h : Hdr) (buf : Nat)
  -- backup and RTC (18)
  | bkdConfig (h : Hdr) (trimEn alignEn : Nat)
  | bkdRtcHalt (h : Hdr)
  | bkdRtcHaltRelease (h : Hdr)
  | bkdRtcWrite (h : Hdr) (c : Calendar)
  | bkdAlarmSet (h : Hdr) (c : Calendar) (enable : Nat)
  | bkdPwrOnReq (h : Hdr) (delay : Nat)
  | bkdRtcRead (h : Hdr)
  -- power (19)
  | pwrPolicy (h : Hdr) (maxState : List Nat)
  | pwrRestart (h : Hdr) (confirm : Nat)
  | pwrRestoreNow (h : Hdr)
  | pwrStatus (h : Hdr)
  -- register accesses
  | timCapture (func go : Nat)
  | bkdCapture (go : Nat)
  | cmdSqTail (func qp : Nat) (w : TailWrite)
  | cmdCqHead (func qp head : Nat)
  | queuePair0Enable (func sqLog2 cqLog2 : Nat)
  | queuePair0Disable (func : Nat)
  | queueReleaseDone (func : Nat)
  | cmdJnlCursor (func : Nat) (seq : U64)
  | evrCursor (seq : U64)
  | rcCounterRead (c : Ctr) (acc : RcAccess)
  | registerWrite (r : PlainReg) (value : U64)
  -- command interface
  | coalesceTimeout (func qp : Nat)
  | controllerTakeover (die0Answers : Bool)
  -- time
  | parameterSetActivate
  | dieSkewExchange (die : Nat) (x : TwoWay)
  | ptpSync (m : SyncMsg)
  | ptpFollowUp (lan : Nat) (m : FollowUp) (corr : Int)
  | ptpAnnounce (m : AnnounceMsg)
  | announceReceiptTimeout (lan : Nat)
  | ptpPdelayReq (port : Nat)
  | ptpPdelayResp (port : Nat) (delay : Int)
  | pdelayReqSend (port : Nat)
  | pathStepHoldExpiry
  | holdT1Expiry
  | ppsInEdge (raw sub : Nat)
  | ppsOutPulse
  -- switch and ports
  | frameReceive (port raw sub : Nat) (f : Frame) (staticParity : Bool)
  | staticEntryRewrite (die index : Nat)
  | fabricFrameArrive (die src : Nat) (ports : Nat) (cls : Nat) (f : Frame)
  | egressTransmit (port : Nat) (parityBad : Bool) (beginOnly : Bool)
  | learnedEntryAge (die mac vid : Nat)
  | ddEntryAge (die sa seq : Nat)
  | prpSupervisionSend (port : Nat)
  | portStarted (port : Nat)
  | linkFault (port : Nat) (cause : Nat)
  | linkClear (port : Nat)
  | linkHoldExpiry (port : Nat)
  | portDrainEnd (port : Nat)
  | preemptRespond (port : Nat)
  | preemptVerifyTimeout (port : Nat)
  | pauseFrame (port : Nat) (pfc : Bool) (classes : Nat) (quanta : List Nat)
  | pauseExpiry (port cls : Nat)
  | pauseWdTrip (port : Nat)
  | pauseWdHoldEnd (port : Nat)
  | cageInsert (cage : Nat) (fourLanes : Bool) (speeds : List Nat) (powerClass : Nat)
  | cageRemove (cage : Nat)
  | mgmtLinkChange (mport : Nat) (up : Bool)
  -- ingest and filters
  | svFrameIngest (die port raw sub : Nat) (f : SvFrame)
  | instantDue (stream : Nat)
  | streamOn (stream : Nat)
  | filterOutput (stream : Nat)
  | goldenVectorRun (array vector : Nat) (ok : Bool)
  | heelApply
  | heelNFall (raw sub : Nat)
  | heelNQualify
  -- GOOSE and publication
  | gooseFrameCheck (die port raw sub : Nat) (f : GooseFrame)
  | gsStarted (ctx : Nat)
  | gsDeadline (ctx : Nat)
  | gpRetransmit (ctx : Nat)
  | gpEchoTimeout (ctx : Nat)
  | svpFrameSend (stream : Nat)
  -- boundaries
  | systemCycleBoundary
  | configTakeForce
  -- dispatch
  | matchOperand (stream : Nat)
  | graceFill (node inst : Nat)
  | dispatch (region cluster : Nat) (parityBad : Bool)
  | firingCommit (node : Nat) (parity : FiringParity)
  | scheduleExec (handle : Nat)
  -- operator firings (10)
  | dftFull (node : Nat) | dftHalf (node : Nat) | cosine (node : Nat)
  | seq (node : Nat) | mag (node : Nat) | magang (node : Nat) | pqs3 (node : Nat) | pqs1 (node : Nat) | freq (node : Nat)
  | angdiff (node : Nat) | phSum (node : Nat)
  | impPe (node : Nat) | impPp (node : Nat) | mho (node : Nat) | quad (node : Nat) | dir (node : Nat)
  | diffBias (node : Nat) | harmRatio (node : Nat)
  | idmt (node : Nat) | deft (node : Nat) | uv (node : Nat) | ov (node : Nat) | bfCheck (node : Nat) | freqProt (node : Nat)
  | dcDidt (node : Nat) | dcOc (node : Nat) | stringImb (node : Nat)
  | timerPd (node : Nat) | pulse (node : Nat) | cmpHyst (node : Nat) | boolComb (node : Nat) | latch (node : Nat)
  | edge (node : Nat) | count (node : Nat)
  | scale (node : Nat) | arith (node : Nat) | sumw (node : Nat) | minmax (node : Nat) | limit (node : Nat) | absf (node : Nat)
  | select (node : Nat) | movavg (node : Nat) | delayk (node : Nat)
  | sigReadNode (node : Nat) | sigWriteNode (node : Nat)
  -- placement movement
  | migrationStart (region : Nat)
  | migrationComplete (node : Nat)
  | deferWarnExpiry (node : Nat)
  | rebalanceCheck (die region cluster : Nat)
  | consolidation (die : Nat)
  | clusterBist (die : Nat)
  | evPlmBistSkip (die : Nat)
  | dieEvacuation (die : Nat) (readable : Bool)
  -- logic
  | logicScan (proc : Nat) (steps : Nat) (parityBad : Bool)
  | lgcNop (proc : Nat)
  | lgcEnd (proc : Nat)
  | lgcLd (proc sig : Nat) | lgcLdn (proc sig : Nat) | lgcAnd (proc sig : Nat) | lgcAndn (proc sig : Nat)
  | lgcOr (proc sig : Nat) | lgcOrn (proc sig : Nat) | lgcXor (proc sig : Nat) | lgcXorn (proc sig : Nat)
  | lgcLdk (proc k : Nat) | lgcNot (proc : Nat)
  | lgcSt (proc sig : Nat) | lgcStn (proc sig : Nat) | lgcSet (proc sig : Nat) | lgcRst (proc sig : Nat)
  | lgcAndParen (proc sig : Nat) | lgcAndnParen (proc sig : Nat) | lgcOrParen (proc sig : Nat) | lgcOrnParen (proc sig : Nat)
  | lgcXorParen (proc sig : Nat) | lgcCloseParen (proc : Nat)
  | lgcRtrig (proc e : Nat) | lgcFtrig (proc e : Nat)
  | lgcTon (proc t : Nat) | lgcTof (proc t : Nat) | lgcTp (proc t : Nat) | lgcTrst (proc t : Nat)
  | lgcCtu (proc c : Nat) | lgcCtd (proc c : Nat) | lgcCrst (proc c : Nat) | lgcCld (proc c : Nat)
  | lgcJmp (proc i : Nat) | lgcJmpc (proc i : Nat) | lgcJmpcn (proc i : Nat)
  | lgcQgood (proc sig : Nat) | lgcQinv (proc sig : Nat) | lgcQquest (proc sig : Nat) | lgcQold (proc sig : Nat)
  | lgcQtest (proc sig : Nat) | lgcQsubst (proc sig : Nat)
  | lgcLdw (proc sig : Nat) | lgcLdwk (proc k : Nat) | lgcLdwc (proc c : Nat) | lgcLdwt (proc t : Nat)
  | lgcCmpeq (proc sig : Nat) | lgcCmpne (proc sig : Nat) | lgcCmpgt (proc sig : Nat) | lgcCmpge (proc sig : Nat)
  | lgcCmplt (proc sig : Nat) | lgcCmple (proc sig : Nat)
  | lgcCmpeqk (proc k : Nat) | lgcCmpnek (proc k : Nat) | lgcCmpgtk (proc k : Nat) | lgcCmpgek (proc k : Nat)
  | lgcCmpltk (proc k : Nat) | lgcCmplek (proc k : Nat)
  | lgcStw (proc sig : Nat) | lgcStwc (proc sig : Nat)
  | keyPositionChange (runN stopN : Bool)
  -- loop
  | loopSample
  | loopWaitExpiry
  -- pair
  | healthReportSend
  | tokenMessage (m : TokenMsg)
  | leaseExpiry
  | leashLaneState (lane : Nat) (up : Bool)
  | leashHead (l : LeashHdr) (cycle gen : Nat) (dts : List (Nat × Nat))
  | leashAdmit (l : LeashHdr) (cycle : Nat) (items : List AdmitItem)
  | leashPage (l : LeashHdr) (cycle : Nat) (page : PageKey) (data : Machine.PageData)
  | leashCdigest (l : LeashHdr) (cycle : Nat) (digests : List U64)
  | leashEnd (l : LeashHdr) (cycle admits pages cdigests : Nat) (crc : U64)
  | mirrorApply
  | leashFdigest (l : LeashHdr) (key : ShadowKey) (prpSeq : Nat) (crc : U64)
  | shadowLagExpiry (key : ShadowKey)
  | leashCoef (l : LeashHdr) (index : Nat) (value : F32) (effect : CoefAt)
  | leashPageReq (l : LeashHdr) (page : PageKey)
  | leashPageResp (l : LeashHdr) (page : PageKey) (pages : List Machine.PageData)
  | leashSync (l : LeashHdr) (code : Nat) (partNumber brev : Nat)
  | leashLoopback (l : LeashHdr) (x : LoopRow)
  | leashAck (l : LeashHdr) (seq : Nat)
  | leashNak (l : LeashHdr) (seq : Nat)
  | ackSend (lane : Nat)
  | leashHeartbeat (l : LeashHdr) (state epoch : Nat)
  | heartbeatSend (lane : Nat)
  | heartbeatTimeout
  | syncTimeoutExpiry
  | relinquishTimeout
  | dramScrub (die : Nat) (bad : Option ParityPlace)
  | eyeMonitor (isLane : Bool) (index : Nat) (opening : Nat)
  | katRun (ok : Bool)
  -- VFs and host link
  | vfQuiesceComplete (vf : Nat)
  | vfFlr (vf : Nat)
  | vfFlrComplete (vf : Nat)
  | sriovChange (vfEnable : Bool) (numVfs : Nat)
  | pfReset
  | busMasterEnable (func : Nat) (on : Bool)
  -- recorder
  | eventRecord (e : Event)
  | eventWrite
  | eventWindowClose (code obj : Nat)
  -- keys and tamper
  | keyRemask (slot : Nat) (entropyOk : Bool)
  | rollMsExpiry (slot : Nat)
  | tamperTrip (cause : Nat)
  | tamperTripUnpowered (cause : Nat)
  -- backup domain
  | bkdSupplySwitch (vmainMv vcellMv : Nat)
  | cellMeasure (mv : Nat)
  | backupDomainReset
  | rtcHaltTimeout
  | rtcOverrange
  | evBkdLeap
  | trimIntervalEnd (ticks : Nat)
  | alarmFire
  | pwrOnReqExpiry
  -- power and hardware
  | powerFail (source : Nat)
  | ejectLever
  | powerGood (aOk bOk : Bool) (failedDies failedClusters : List Nat) (tests : StartTests)
  | configRestore (storeOk : Bool)
  | domainFree (die dom : Nat) (untilEvent : Option Nat)
  | domainWake (die dom : Nat) (waited : Nat)
  | tempMeasure (air : AirTemps) (tj : List Int)
  | pwrInputSample (vin iin : Nat)
  | clusterTestEnd (die : Nat) (ok : Bool)
  | vfStarted (vf : Nat)
  | gpStarted (ctx : Nat)
  | holdTempExceeded (temp : Int)
  | fwActivateComplete (sign : FwSign) (svn release : Nat)
  | bkdCaptureLatch
  deriving DecidableEq, Repr, Inhabited

end Sys2Proof
end

