-- ==== Sys2Proof/Decode.lean ====
section
/-! DEFINITION. The opcode table gives its rows no bits, so no word spells a command. The words that the spec does encode
are those of the scheme logic processors (12 R362, Table LGC-3): their decoder and, after it, their encoder. -/
namespace Sys2Proof

/-- The command that a word spells by the table's bits: none, for the table gives no row any bits. -/
def decodeTableWord (_nbits _w : Nat) : Option Instr := none

/-- What the OPERAND of a logic instruction is (12 R362). -/
inductive LKind where
  | none | signal | const | timer | counter | edge | index
  deriving DecidableEq, Repr, Inhabited

/-- The logic instructions by name (12 Table LGC-3). -/
inductive LogicOp where
  | nop | end_ | ld | ldn | and_ | andn | or_ | orn | xor_ | xorn | ldk | not_ | st | stn | set | rst | andParen
  | andnParen | orParen | ornParen | xorParen | close | rtrig | ftrig | ton | tof | tp | trst | ctu | ctd | crst
  | cld | jmp | jmpc | jmpcn | qgood | qinv | qquest | qold | qtest | qsubst | ldw | ldwk | ldwc | ldwt | cmpeq
  | cmpne | cmpgt | cmpge | cmplt | cmple | cmpeqk | cmpnek | cmpgtk | cmpgek | cmpltk | cmplek | stw | stwc
  deriving DecidableEq, Repr, Inhabited

/-- OPCODE, bits [31:25]. -/
def logicCode : LogicOp → Nat
  | .nop => 0x00
  | .end_ => 0x01
  | .ld => 0x02
  | .ldn => 0x03
  | .and_ => 0x04
  | .andn => 0x05
  | .or_ => 0x06
  | .orn => 0x07
  | .xor_ => 0x08
  | .xorn => 0x09
  | .ldk => 0x0A
  | .not_ => 0x0B
  | .st => 0x10
  | .stn => 0x11
  | .set => 0x12
  | .rst => 0x13
  | .andParen => 0x18
  | .andnParen => 0x19
  | .orParen => 0x1A
  | .ornParen => 0x1B
  | .xorParen => 0x1C
  | .close => 0x1D
  | .rtrig => 0x20
  | .ftrig => 0x21
  | .ton => 0x28
  | .tof => 0x29
  | .tp => 0x2A
  | .trst => 0x2B
  | .ctu => 0x30
  | .ctd => 0x31
  | .crst => 0x32
  | .cld => 0x33
  | .jmp => 0x38
  | .jmpc => 0x39
  | .jmpcn => 0x3A
  | .qgood => 0x40
  | .qinv => 0x41
  | .qquest => 0x42
  | .qold => 0x43
  | .qtest => 0x44
  | .qsubst => 0x45
  | .ldw => 0x50
  | .ldwk => 0x51
  | .ldwc => 0x52
  | .ldwt => 0x53
  | .cmpeq => 0x54
  | .cmpne => 0x55
  | .cmpgt => 0x56
  | .cmpge => 0x57
  | .cmplt => 0x58
  | .cmple => 0x59
  | .cmpeqk => 0x5A
  | .cmpnek => 0x5B
  | .cmpgtk => 0x5C
  | .cmpgek => 0x5D
  | .cmpltk => 0x5E
  | .cmplek => 0x5F
  | .stw => 0x60
  | .stwc => 0x61

/-- The kind of OPERAND. -/
def logicKind : LogicOp → LKind
  | .nop | .end_ | .not_ | .close => .none
  | .ldk | .ldwk | .cmpeqk | .cmpnek | .cmpgtk | .cmpgek | .cmpltk | .cmplek => .const
  | .ton | .tof | .tp | .trst | .ldwt => .timer
  | .ctu | .ctd | .crst | .cld | .ldwc => .counter
  | .rtrig | .ftrig => .edge
  | .jmp | .jmpc | .jmpcn => .index
  | _ => .signal

/-- The instruction of an OPCODE. -/
def logicOp : Nat → Option LogicOp
  | 0x00 => some .nop
  | 0x01 => some .end_
  | 0x02 => some .ld
  | 0x03 => some .ldn
  | 0x04 => some .and_
  | 0x05 => some .andn
  | 0x06 => some .or_
  | 0x07 => some .orn
  | 0x08 => some .xor_
  | 0x09 => some .xorn
  | 0x0A => some .ldk
  | 0x0B => some .not_
  | 0x10 => some .st
  | 0x11 => some .stn
  | 0x12 => some .set
  | 0x13 => some .rst
  | 0x18 => some .andParen
  | 0x19 => some .andnParen
  | 0x1A => some .orParen
  | 0x1B => some .ornParen
  | 0x1C => some .xorParen
  | 0x1D => some .close
  | 0x20 => some .rtrig
  | 0x21 => some .ftrig
  | 0x28 => some .ton
  | 0x29 => some .tof
  | 0x2A => some .tp
  | 0x2B => some .trst
  | 0x30 => some .ctu
  | 0x31 => some .ctd
  | 0x32 => some .crst
  | 0x33 => some .cld
  | 0x38 => some .jmp
  | 0x39 => some .jmpc
  | 0x3A => some .jmpcn
  | 0x40 => some .qgood
  | 0x41 => some .qinv
  | 0x42 => some .qquest
  | 0x43 => some .qold
  | 0x44 => some .qtest
  | 0x45 => some .qsubst
  | 0x50 => some .ldw
  | 0x51 => some .ldwk
  | 0x52 => some .ldwc
  | 0x53 => some .ldwt
  | 0x54 => some .cmpeq
  | 0x55 => some .cmpne
  | 0x56 => some .cmpgt
  | 0x57 => some .cmpge
  | 0x58 => some .cmplt
  | 0x59 => some .cmple
  | 0x5A => some .cmpeqk
  | 0x5B => some .cmpnek
  | 0x5C => some .cmpgtk
  | 0x5D => some .cmpgek
  | 0x5E => some .cmpltk
  | 0x5F => some .cmplek
  | 0x60 => some .stw
  | 0x61 => some .stwc
  | _ => Option.none

/-- Decode a logic word: its instruction and OPERAND, which is zero where the table gives none. -/
def decodeLogic (w : BitVec 32) : Option (LogicOp × Nat) :=
  match logicOp (w.toNat / 33554432) with
  | some op => if logicKind op = .none ∧ w.toNat % 33554432 ≠ 0 then Option.none else some (op, w.toNat % 33554432)
  | Option.none => Option.none

/-- The word of a logic instruction with its OPERAND. -/
def encodeLogic (op : LogicOp) (x : Nat) : BitVec 32 := BitVec.ofNat 32 (logicCode op * 33554432 + x)

end Sys2Proof
end

