-- ==== Sys2Proof/Machine/Table.lean ====
section
/-! DEFINITION. Sparse tables and lists: reading, writing and removing an entry by its key, and small list helpers. -/
namespace Sys2Proof.Machine

variable {κ α : Type}

/-- The entry of a key. -/
def tget [DecidableEq κ] : Tbl κ α → κ → Option α
  | [], _ => none
  | (k', a) :: t, k => if k' = k then some a else tget t k

/-- The entry of a key, or a default. -/
def tgetD [DecidableEq κ] (t : Tbl κ α) (k : κ) (d : α) : α := (tget t k).getD d

/-- Write an entry, in its place when the key is listed and at the end otherwise. -/
def tset [DecidableEq κ] : Tbl κ α → κ → α → Tbl κ α
  | [], k, a => [(k, a)]
  | (k', a') :: t, k, a => if k' = k then (k, a) :: t else (k', a') :: tset t k a

/-- Remove an entry. -/
def tdel [DecidableEq κ] : Tbl κ α → κ → Tbl κ α
  | [], _ => []
  | (k', a) :: t, k => if k' = k then tdel t k else (k', a) :: tdel t k

/-- Change an entry, starting from a default when it is not listed. -/
def tmod [DecidableEq κ] (t : Tbl κ α) (k : κ) (d : α) (f : α → α) : Tbl κ α := tset t k (f (tgetD t k d))

/-- The key is listed. -/
def thas [DecidableEq κ] (t : Tbl κ α) (k : κ) : Bool := (tget t k).isSome

/-- An element of a list, or a default. -/
def nth (l : List α) (n : Nat) (d : α) : α := l.getD n d

/-- The first natural number below `fuel` from `n` on that meets a test. -/
def firstFrom (p : Nat → Bool) : Nat → Nat → Option Nat
  | 0, _ => none
  | fuel + 1, n => if p n then some n else firstFrom p fuel (n + 1)

/-- Insert into a list sorted by a Boolean order, after its equals. -/
def insertBy (le : α → α → Bool) (a : α) : List α → List α
  | [] => [a]
  | b :: l => if le b a then b :: insertBy le a l else a :: b :: l

/-- Sort a list stably by a Boolean order. -/
def sortBy (le : α → α → Bool) (l : List α) : List α := l.foldr (insertBy' le) []
where
  /-- Insert before its equals, as a fold from the right needs. -/
  insertBy' (le : α → α → Bool) (a : α) : List α → List α
    | [] => [a]
    | b :: l => if le a b then a :: b :: l else b :: insertBy' le a l

/-- The median of five or any odd number of integers (03 R121). -/
def median (l : List Int) : Int := (sortBy (fun x y => decide (x ≤ y)) l).getD (l.length / 2) 0

/-- Fold a change of state over a list. -/
def foldSt {σ : Type} (f : α → σ → σ) (l : List α) (s : σ) : σ := l.foldl (fun s a => f a s) s

/-- Bit `i` of a natural number. -/
def bitN (n i : Nat) : Bool := n.testBit i

/-- A Boolean as a bit at a place. -/
def bbit (b : Bool) (i : Nat) : Nat := if b then 1 <<< i else 0

/-- Two's complement of an integer over `w` bits. -/
def twos (w : Nat) (i : Int) : Nat := (i % (2 ^ w : Nat)).toNat

/-- The signed value of the low `w` bits. -/
def sgn (w n : Nat) : Int := if n % 2 ^ w < 2 ^ (w - 1) then (n % 2 ^ w : Nat) else (n % 2 ^ w : Nat) - (2 ^ w : Nat)

/-- An integer limited to a range. -/
def clampI (lo hi i : Int) : Int := if i < lo then lo else if hi < i then hi else i

/-- A natural number saturated at a maximum. -/
def satN (hi n : Nat) : Nat := if hi < n then hi else n

/-- Rounding division toward zero. -/
def divZ (a b : Int) : Int := Int.tdiv a b

/-- The sum of a list of natural numbers. -/
def sumN (l : List Nat) : Nat := l.foldl (· + ·) 0

/-- How many of a list meet a test. -/
def countBy {α : Type} (p : α → Bool) (l : List α) : Nat := (l.filter p).length

/-- The greatest of a list of natural numbers, 0 of none. -/
def maxN (l : List Nat) : Nat := l.foldl Nat.max 0

/-- Little-endian bytes of a number (00 R12). -/
def leBytes (n v : Nat) : Bytes := (List.range n).map (fun i => v / 256 ^ i % 256)

/-- Bytes as a number, the lowest first (00 R12). -/
def bytesNat (l : List Nat) : Nat := l.foldr (fun b a => b % 256 + 256 * a) 0

/-- Remove duplicates, keeping the first. -/
def dedupN (l : List Nat) : List Nat := l.foldl (fun acc a => if acc.contains a then acc else acc ++ [a]) []

/-- No element twice. -/
def nodupN : List Nat → Bool
  | [] => true
  | a :: l => !l.contains a && nodupN l

/-- The 32-bit words of little-endian bytes (10 R323). -/
def wordsOf (b : List Nat) : List Nat := (List.range (b.length / 4)).map (fun i => bytesNat ((b.drop (4 * i)).take 4))
/-- The parameter words of a node in each setting group (10 R323). -/
def paramsOf (r : Sys2Proof.NodeRec) : List (List Nat) := r.paramBytes.map wordsOf

end Sys2Proof.Machine
end

