-- ==== Sys2Proof/Machine/Flags.lean ====
section
/-! DEFINITION. The quality word QUAL (08 Table SIG-3): its bits, its validity, and the merge that chains and operators
share (07 R217, 10 R312). -/
namespace Sys2Proof.Machine

/-- Bits [12:0], the attribute of the standard (08 R247). -/
def qLow (q : Nat) : Nat := q % 8192
/-- Set a bit. -/
def qSet (q i : Nat) : Nat := q ||| 2 ^ i
/-- Clear a bit. -/
def qClr (q i : Nat) : Nat := if bitN q i then q - 2 ^ i else q
/-- Write a bit. -/
def qPut (q i : Nat) (b : Bool) : Nat := if b then qSet q i else qClr q i
/-- Validity: 00 good, 01 invalid, 11 questionable. -/
def validity (q : Nat) : Nat := q % 4
/-- Write the validity. -/
def qVal (q v : Nat) : Nat := q / 4 * 4 + v % 4
/-- A received quality: bits [12:0], the reserved validity 10 stored as 01 (08 R247). -/
def qRecv (q : Nat) : Nat := if q % 4 = 2 then qVal (qLow q) 1 else qLow q
/-- Validity 01. -/
def qInvalid (q : Nat) : Bool := validity q == 1
/-- Validity 01 and oldData. -/
def qOld (q : Nat) : Nat := qSet (qVal q 1) 7
/-- The worse of two validities, 00 best and 01 worst. -/
def worseV (a b : Nat) : Nat := if a = 1 ∨ b = 1 then 1 else if a = 0 ∧ b = 0 then 0 else 3
/-- Validity bits with the word's other bits ORed: the merge of two quality words. -/
def qMerge (a b : Nat) : Nat := qVal (a ||| b) (worseV (validity a) (validity b))
/-- QUAL 0x0081: invalid and oldData. -/
def qDead : Nat := 0x81

end Sys2Proof.Machine
end

