-- ==== Sys2Proof/Machine/State.lean ====
section
/-! DEFINITION. The machine's state as plain data: every register, queue, table, mode and pin that the spec gives the
module, the queue of waiting commands, and the state right after reset. -/
namespace Sys2Proof.Machine

/-- Why a step can stop with a fault. No command of this block faults: a command that cannot act completes with a status
(02 R82), and a hardware error shows as an event, a flag or a quality bit (01 R43 to R45). -/
inductive Fault where
  /-- A state that no rule of the spec describes; raised by nobody (safe). -/
  | outsideSpec
  deriving DecidableEq, Repr

/-- Why a step can refuse. -/
inductive Refusal where
  /-- Raised by an arm of exec whose command has no meaning yet, naming its mnemonic; safe. -/
  | notModelled (mnemonic : String)
  deriving DecidableEq, Repr

/-! ### Configuration (02 R75 to R80) -/

/-- A staged setting: one constructor per CONFIG-kind opcode. -/
inductive Setting where
  | cycleLen (len : Nat)
  | ptp (p : PtpParams)
  | asym (p : AsymParams)
  | thresh (p : ThreshParams)
  | port (port : Nat) (p : PortParams)
  | mgmt (mport : Nat) (p : MgmtParams)
  | swcQueue (p : SwcQueueParams)
  | mcast (die index : Nat) (e : McastEntry)
  | portFwd (port : Nat) (p : PortFwd)
  | aging (age ddAge : Nat)
  | svSub (stream : Nat) (c : SvContext)
  | svUnsub (stream : Nat)
  | chain (chain : Nat) (valid : Bool) (p : ChainParams)
  | heelPin (en clear : Nat)
  | sigDefine (entries : List SigEntry)
  | gsSub (ctx : Nat) (c : GsContext)
  | gpDef (ctx : Nat) (c : GpContext)
  | svpDef (stream : Nat) (c : SvpContext)
  | sharedId (mac : Nat)
  | graphLoad (owner : Nat) (img : GraphImage)
  | graphUnload (graph : Nat)
  | plmGroup (group : Nat) (valid : Bool) (p : GroupParams)
  | ownerDies (func dies : Nat)
  | plmPolicy (placeLimit consolidate deferWarn : Nat)
  | lgcTask (task : Nat) (valid : Bool) (img : LogicImage)
  | lgcConfig (modeSrc restartMode : Nat)
  | loopConfig (p : LoopParams)
  | pairConfig (p : PairParams)
  | vfnPolicy (fraction : Nat)
  | vfProt (vf prot : Nat)
  | keyConfig (extEn rollMs : Nat)
  | bkdConfig (trimEn alignEn : Nat)
  | pwrPolicy (maxState : List Nat)
  deriving DecidableEq, Repr, Inhabited

/-- A staged command: its journal sequence, its opcode and its setting (02 R75, R76). -/
structure Staged where
  jseq : Nat
  opcode : Nat
  /-- Bytes of its stored form (02 R80). -/
  bytes : Nat
  setting : Setting
  deriving DecidableEq, Repr, Inhabited

/-- A configuration: the settings of every chapter. What a table does not list has its chapter's default. -/
structure Cfg where
  cycleLen : Nat
  ptp : PtpParams
  asym : Tbl (Nat × Nat) (Nat × Nat)
  cable : Tbl Nat Int
  thresh : ThreshParams
  ports : Tbl Nat PortParams
  mgmt : Tbl Nat MgmtParams
  swcQueues : Tbl (Nat × Nat × Nat) (Nat × Nat)
  mcast : Tbl (Nat × Nat) McastEntry
  portFwd : Tbl Nat PortFwd
  age : Nat
  ddAge : Nat
  streams : Tbl Nat SvContext
  chains : Tbl Nat ChainParams
  /-- The heel reference H, which the configuration carries (07 R217, R231). -/
  heel : MTime
  pinEn : Nat
  pinClear : Nat
  signals : Tbl Nat SigDef
  gs : Tbl Nat GsContext
  gp : Tbl Nat GpContext
  svp : Tbl Nat SvpContext
  sharedMac : Nat
  graphs : Tbl Nat (Nat × GraphImage)
  groups : Tbl Nat GroupParams
  ownerDies : Tbl Nat Nat
  placeLimit : Nat
  consolidate : Nat
  deferWarn : Nat
  tasks : Tbl Nat LogicImage
  modeSrc : Nat
  restartMode : Nat
  loop : Option LoopParams
  pair : PairParams
  fraction : Nat
  vfProt : Tbl Nat Nat
  extEn : Nat
  rollMs : Nat
  trimEn : Nat
  alignEn : Nat
  maxState : List Nat
  /-- The settings stored one by one with their sizes under 02 R80: opcode and object, bytes. -/
  stored : Tbl (Nat × Nat) Nat
  deriving DecidableEq, Repr, Inhabited

/-- A completed commit that has not taken force: its generation, configuration and boundary second (02 R76, R77). -/
structure Commit where
  gen : Nat
  cfg : Cfg
  dueSec : Nat
  /-- Opcodes of the staged commands. -/
  ops : List Nat
  /-- Graphs and tasks that the staged commands name, by opcode and number (09 R276, 12 R389). -/
  named : List (Nat × Nat)
  deriving DecidableEq, Repr, Inhabited

/-! ### Command interface (02) -/

/-- A journal entry (Table CMD-10). -/
structure JEntry where
  seq : Nat
  gen : Nat
  tag : Nat
  opcode : Nat
  func : Nat
  qp : Nat
  jflags : Nat
  status : Nat
  accept : Nat
  done : Nat
  deriving DecidableEq, Repr, Inhabited

/-- The queue pair 0 registers of a function (Table CMD-1). -/
structure Aq where
  sqBase : Nat := 0
  cqBase : Nat := 0
  en : Bool := false
  releasing : Bool := false
  cqLog2 : Nat := 4
  sqLog2 : Nat := 4
  deriving DecidableEq, Repr, Inhabited

/-- A queue pair: its settings and ring positions (02 R64 to R70, Table CMD-9). -/
structure Qp where
  sqLog2 : Nat
  cqLog2 : Nat
  vector : Nat
  coalCount : Nat
  coalTime : Nat
  sqBase : Nat
  cqBase : Nat
  sqTail : Nat := 0
  sqHead : Nat := 0
  cqHead : Nat := 0
  cqTail : Nat := 0
  phase : Bool := true
  unsignalled : Nat := 0
  firstUnsig : Nat := 0
  deriving DecidableEq, Repr, Inhabited

/-- A command taken and not yet posted: its status and result once it has completed (02 R64, R90). -/
structure Outst where
  func : Nat
  qp : Nat
  tag : Nat
  opcode : Nat
  jseq : Nat
  done : Option (Nat × Result)
  deriving DecidableEq, Repr, Inhabited

/-- A completion as posted (Table CMD-14). -/
structure Completion where
  func : Nat
  qp : Nat
  tag : Nat
  status : Nat
  phase : Bool
  opcode : Nat
  jseq : Nat
  result : Result
  deriving DecidableEq, Repr, Inhabited

/-- An event record with its SEQ (Table EVR-1); the packed SOURCE is the event's level, place, unit and object. -/
structure EvRec where
  seq : Nat
  sec : Nat
  ns : Nat
  flags : Nat
  epoch : Nat
  side : Nat
  ev : Event
  deriving DecidableEq, Repr, Inhabited

/-- The command interface (02). -/
structure CmdSt where
  /-- CMD_GEN (R61, R76). -/
  gen : Nat
  ready : Bool
  ctrlDie : Nat
  jnlNext : Nat
  jnlOldest : Nat
  jnl : Tbl Nat JEntry
  cursor : Tbl Nat U64
  aq : Tbl Nat Aq
  qps : Tbl (Nat × Nat) Qp
  /-- Packets in submission queues, not yet taken (R64, R67, R69). -/
  held : List Instr
  outst : List Outst
  /-- Completions posted and not released (R67). -/
  cpls : List Completion
  msix : Tbl (Nat × Nat) Nat
  rrLast : Nat × Nat
  staging : Tbl Nat (List Staged)
  /-- What the module has written to host buffers, by function and host address (R72). -/
  hostOut : Tbl (Nat × Nat) Bytes
  /-- Bus Master Enable of each function; 1 where not listed as false (15 R461). -/
  busMaster : Tbl Nat Bool
  deriving DecidableEq, Repr, Inhabited

/-! ### Time (03) -/

/-- A parameter set (R99). -/
structure ParamSet where
  offset : MTime
  rawRef : Nat
  rate : Int
  act : Nat
  deriving DecidableEq, Repr, Inhabited

/-- A function's capture registers (Table TIM-1). -/
structure TimCap where
  raw : Nat := 0
  time : MTime := ⟨0, 0, 0⟩
  tq : Nat := 0xFF05
  deriving DecidableEq, Repr, Inhabited

/-- STATE of the time-quality word (Table TIM-2). -/
inductive Tq where
  | locked | frozen | holdover | holdoverLimit | acquiring | freerun
  deriving DecidableEq, Repr, Inhabited

/-- What the module keeps of one LAN's time path (R113, R114, R121 to R125). -/
structure LanSt where
  gm : Option Nat := none
  dataset : List Nat := []
  annRunning : Bool := false
  annRaw : Nat := 0
  suspend : Nat := 0
  delays : List Int := []
  reference : Option Int := none
  refOld : Option Int := none
  stepped : Bool := false
  excluded : Bool := false
  ofs : Int := 0
  dly : Int := 0
  twoStep : Option SyncMsg := none
  gmInacc : Nat := 0
  netInacc : Nat := 0
  deriving DecidableEq, Repr, Inhabited

/-- A hold in progress (R123, R124): the stepped LANs as a mask, its start, and the STATE it froze. -/
structure Hold where
  lans : Nat
  startRaw : Nat
  from_ : Option Tq
  deriving DecidableEq, Repr, Inhabited

/-- What the time-quality word is made of, from a RAW value and its module time on (R103 to R106). -/
structure TqSnap where
  raw : Nat
  time : MTime
  state : Tq
  slewing : Bool
  exA : Bool
  exB : Bool
  asym : Bool
  utc : Bool
  holdRaw : Option Nat
  e0 : F64
  a : F64
  inacc : Nat
  deriving DecidableEq, Repr, Inhabited

/-- A booked TIM_STEP (R119, R120): its second and its outstanding command. -/
structure StepBook where
  atSec : Nat
  func : Nat
  qp : Nat
  jseq : Nat
  deriving DecidableEq, Repr, Inhabited

/-- The time base, the time units and the PTP clock (03). -/
structure TimSt where
  /-- RAW, 64 bits, 2 ns (R98). -/
  raw : Nat
  cur : ParamSet
  next : Option ParamSet
  /-- Sets that were in force since power good, newest first: stamps taken before the latest ACT convert by them (R100). -/
  past : List ParamSet
  caps : Tbl Nat TimCap
  lanA : LanSt
  lanB : LanSt
  state : Tq
  slewing : Bool
  asymUnverified : Bool
  /-- The servo's frequency estimate F, ppb, binary64 (R116). -/
  f : F64
  /-- The filtered |offset| A, ns, binary64 (R116). -/
  a : F64
  /-- The servo offset, ps (R116). -/
  theta : Int
  lastResult : Option MTime
  firstInAcq : Bool
  cntLock : Nat
  cntUnlock : Nat
  everLocked : Bool
  hold : Option Hold
  holdAgeRaw : Option Nat
  /-- ERR_EST at entry into the hold age, ns, binary64 (R105). -/
  e0 : F64
  utcOffset : Int
  utcValid : Bool
  leap61 : Bool
  leap59 : Bool
  timeTraceable : Bool
  freqTraceable : Bool
  ppsRaw : Option Nat
  ppsErr : Int
  /-- High time of the last PPS_OUT pulse, ms, and RAW of its rise (R127). -/
  ppsOut : Nat
  ppsRise : Option Nat
  dieSkew : Tbl Nat Int
  skewRun : Tbl Nat Nat
  /-- What each die's copy of RAW has been moved by, ps, and the delay to it that was compensated (R110). -/
  dieOfs : Tbl Nat Int
  dieDelay : Tbl Nat Int
  linkDelay : Tbl Nat Int
  step : Option StepBook
  /-- The one step before the restore has been made (R117). -/
  startStepped : Bool
  /-- A step that the next set carries, in units of 2^−32 ns (R110, R117). -/
  stepPend : Int
  /-- OCXO-zone temperature at the entry into HOLDOVER, 0.1 °C (R104). -/
  ocxo0 : Int
  /-- What the time-quality word was made of since power good (R106), newest first. -/
  tqLog : List TqSnap
  deriving DecidableEq, Repr, Inhabited

/-! ### Ports and switch (04, 05) -/

/-- LINK of a port: 0 DOWN, 1 UP, 2 HOLDING (Table NET-3). -/
inductive Link where
  | down | up | holding
  deriving DecidableEq, Repr, Inhabited

/-- Where and when a frame came in: the port, and its receive stamp less the ingress latency (03 R107). -/
structure RxInfo where
  port : Nat
  stamp : MTime
  deriving DecidableEq, Repr, Inhabited

/-- Why a copy is in a queue, and what its transmission counts; `len` leaves out a trailer that the MAC appends. -/
structure CopyInfo where
  da : Nat
  len : Nat
  /-- The sequence number of the redundancy control trailer that this port appends (04 R148). -/
  prp : Option Nat
  ptpEvent : Bool
  supervision : Bool
  body : Body
  rx : Option RxInfo
  deriving DecidableEq, Repr, Inhabited

/-- A copy queued to a destination (05 R168, R183): the chain that holds its cells. -/
structure Copy where
  chain : Nat
  die : Nat
  dest : Nat
  cls : Nat
  info : CopyInfo
  deriving DecidableEq, Repr, Inhabited

/-- A chain of cells and the source it is charged to: a queue's reserve or the pool (05 R166, R170). -/
structure CellChain where
  id : Nat
  die : Nat
  cells : Nat
  reserve : Option Nat
  /-- A cell of the chain has failed parity at egress (R184). -/
  bad : Bool := false
  deriving DecidableEq, Repr, Inhabited

/-- A frame whose transmission has begun (04 R139, R150): whether it stands interrupted, the bytes sent in earlier fragments, RAW at
which the fragment in transmission began, and RAW at which the frame began, where its stamp is taken (03 R107). -/
structure Begun where
  copy : Copy
  held : Bool
  sent : Nat
  startRaw : Nat
  frameRaw : Nat
  deriving DecidableEq, Repr, Inhabited

/-- A port (04 R135 to R155). -/
structure PortSt where
  o : ObjSt := {}
  link : Link := .down
  mode : Nat := 0
  verify : Nat := 0
  preemptActive : Bool := false
  verTries : Nat := 0
  verRaw : Nat := 0
  paused : Nat := 0
  pauseStart : Tbl Nat Nat := []
  pauseEnd : Tbl Nat Nat := []
  wdHold : Nat := 0
  wdHoldRaw : Tbl Nat Nat := []
  holdRaw : Nat := 0
  drainRaw : Nat := 0
  lastChange : Nat := 0
  startRaw : Nat := 0
  /-- The frame whose transmission has begun (R139, R150). -/
  begun : Option Begun := none
  /-- Transmit stamps waiting in the FIFO of 64, oldest first (Table NET-4, 03 R107). -/
  txStamps : List MTime := []
  /-- RAW of its last Pdelay_Req (03 R115). -/
  pdelayRaw : Option Nat := none
  deriving DecidableEq, Repr, Inhabited

/-- A cage (04 R134, 20 R584). -/
structure CageSt where
  present : Bool := false
  /-- The module's map declares four usable lanes and an admissible power class. -/
  usable : Bool := false
  speeds : List Nat := []
  deriving DecidableEq, Repr, Inhabited

/-- A management port (04 R156, R157). -/
structure MgmtSt where
  link : Link := .down
  /-- Lengths of the frames that wait. -/
  queued : List Nat := []
  holdRaw : Nat := 0
  paused : Bool := false
  pauseStart : Nat := 0
  pauseEnd : Nat := 0
  wdHold : Bool := false
  wdHoldRaw : Nat := 0
  deriving DecidableEq, Repr, Inhabited

/-- Ports, cages and management ports (04). -/
structure NetSt where
  ports : Tbl Nat PortSt
  cages : Tbl Nat CageSt
  mgmt : Tbl Nat MgmtSt
  /-- PRP sequence of own-identity frames, by the pair's lower port (R148). -/
  prpOwn : Tbl Nat Nat
  /-- RAW of the last supervision frame of a pair, by its lower port (R148). -/
  supRaw : Tbl Nat Nat
  /-- The last PTP message that left a port, with its correctionField as sent (03 R115). -/
  ptpTx : Tbl Nat PtpMsg
  deriving DecidableEq, Repr, Inhabited

/-- A learned entry (05 R175). -/
structure Learned where
  die : Nat
  mac : Nat
  vid : Nat
  port : Nat
  usedRaw : Nat
  /-- Its index in the die's table (R188). -/
  slot : Nat
  deriving DecidableEq, Repr, Inhabited

/-- A duplicate-filter entry (05 R176). -/
structure DdEntry where
  die : Nat
  sa : Nat
  seq : Nat
  raw : Nat
  deriving DecidableEq, Repr, Inhabited

/-- A frame crossing the fabric to a die (05 R182): the ingress port, and the egress ports of that die. -/
structure Crossing where
  die : Nat
  src : Nat
  ports : Nat
  cls : Nat
  frame : Frame
  rx : RxInfo
  deriving DecidableEq, Repr, Inhabited

/-- The switch core (05). -/
structure SwcSt where
  copies : List Copy
  fabric : List Crossing
  chains : List CellChain
  nextChain : Nat
  learned : List Learned
  dd : List DdEntry
  /-- Static entries whose stored copy failed parity and waits to be rewritten (R185). -/
  badStatic : List (Nat × Nat)
  /-- Corrections of two-step Syncs that left a port, for their Follow_Ups, ps: egress port and id (03 R115). -/
  tcCorr : Tbl (Nat × Nat) Int
  deriving DecidableEq, Repr, Inhabited

/-! ### Streams and filters (06, 07) -/

/-- Supervision state of an ON stream (06 Table SVI-4). -/
inductive Sup where
  | notOn | invalid | resync | questionable | good
  deriving DecidableEq, Repr, Inhabited

/-- A decided instant that is not yet released (06 R195 to R198). -/
inductive Decided where
  | admitted (values : List Int) (quals : List Nat) (stamp : MTime)
  | missing (invalid : Bool) (due : MTime)
  deriving DecidableEq, Repr, Inhabited

/-- A released instant on its way into the chains (06 R198): per channel a value and a QUAL. -/
structure Released where
  inst : Nat
  values : List Int
  quals : List Nat
  stamp : MTime
  /-- It was admitted, not substituted. -/
  admitted : Bool
  deriving DecidableEq, Repr, Inhabited

/-- One chain output, with the detector's where there is one (07 R216, R221 to R226). -/
structure ChainOut where
  chain : Nat
  inst : Nat
  carried : Nat
  value : Int
  qual : Nat
  det : Option (Int × Nat)
  stamp : MTime
  deriving DecidableEq, Repr, Inhabited

/-- A stream (06). -/
structure StreamSt where
  o : ObjSt := {}
  startRaw : Nat := 0
  sup : Sup := .notOn
  missRun : Nat := 0
  lastCause : Nat := 0
  first : Option Nat := none
  /-- The next instant to release: every earlier one has been decided and released. -/
  nextRelease : Nat := 0
  /-- Runs of instants declared missing since ON, first and last of each (06 Table SVI-2 order 13). -/
  missed : List (Nat × Nat) := []
  decided : Tbl Nat Decided := []
  lastReleased : Nat := 0
  /-- The latest admitted instants released since ON, with their values and qualities, newest first (R198). -/
  adm : List (Nat × List Int × List Nat) := []
  /-- Instants that began a RESYNC and have not reached the chains, which clear their histories there (R201). -/
  clears : List Nat := []
  resyncReq : Option Nat := none
  released : List Released := []
  /-- Output groups waiting in the FIFO lane, at most 16 (07 R233). -/
  lane : List (List ChainOut) := []
  /-- Instants already counted in FLT_STALL (07 R233). -/
  stalled : List Nat := []
  deriving DecidableEq, Repr, Inhabited

/-- A filter chain's history and detector state (07 R216, R220, R223 to R226). -/
structure ChainSt where
  /-- Newest first: value and QUAL of the last 2D + 1 inputs, and older ones for a mirror (14 R436). -/
  hist : List (Int × Nat) := []
  /-- Instants taken since the history was last cleared (R220). -/
  taken : Nat := 0
  /-- Instants taken since the stream's last RESYNC began or a parity error cleared the chain (06 R201). -/
  since : Nat := 0
  detHist : List (Int × Nat) := []
  sqSum : Int := 0
  env : Int := 0
  /-- Uncorrected instant of the last output, and the last instant taken. -/
  lastInst : Nat := 0
  lastIn : Nat := 0
  lastDet : Int := 0
  heelSeen : Nat := 0
  parityBad : Bool := false
  /-- The first instant that the chain takes: those released before it was defined are not its (R212). -/
  fromInst : Nat := 0
  deriving DecidableEq, Repr, Inhabited

/-- A heel that has taken effect: the reference before it, its own, and CLEAR (07 R227). -/
structure Heel where
  old : MTime
  h : MTime
  clear : Bool
  deriving DecidableEq, Repr, Inhabited

/-- A pending heel (07 R228, R237). -/
structure PendHeel where
  sec : Nat
  ns : Nat
  clear : Bool
  src : Nat
  strict : Bool
  deriving DecidableEq, Repr, Inhabited

/-- Ingest and filters (06, 07). -/
structure SviSt where
  ctxSel : Tbl Nat Nat
  streams : Tbl Nat StreamSt
  /-- When the verification engine of a die is free, in RAW quarter ticks of 0.5 ns (06 R192). -/
  authFree : Tbl Nat Nat
  /-- Frames ingested by a die in a second of RAW: that second and the count (06 R206). -/
  rxCount : Tbl Nat (Nat × Nat)
  deriving DecidableEq, Repr, Inhabited

/-- The filter arrays and the heel (07). -/
structure FltSt where
  chainSel : Tbl Nat Nat
  chains : Tbl Nat ChainSt
  /-- The heels that have taken effect, newest first (R227). -/
  heels : List Heel
  pending : Option PendHeel
  /-- A fall of HEEL_N that is not yet judged: RAW and sub-tick (R229). -/
  heelFall : Option (Nat × Nat)
  /-- Outputs of the cycle in progress for the cycle digest: chain, instant, value and QUAL, detectors after their output
  (R236). -/
  digestLog : List (Nat × Nat × Int × Nat)
  deriving DecidableEq, Repr, Inhabited

/-! ### Signals and GOOSE (08) -/

/-- A write waiting for its boundary (Table SIG-2). -/
structure PendWrite where
  sig : Nat
  source : Nat
  value : BitVec 128
  qual : Nat
  /-- The stamp; none takes the boundary (HOST). -/
  stamp : Option MTime
  /-- The number of the cycle whose opening boundary commits the write; 0 the next boundary. -/
  cycle : Nat
  /-- The order among writes of one signal at one boundary. -/
  order : Nat
  deriving DecidableEq, Repr, Inhabited

/-- A force change waiting for its boundary (08 R248, R249). -/
structure PendForce where
  sig : Nat
  op : Nat
  value : BitVec 128
  qual : Nat
  deriving DecidableEq, Repr, Inhabited

/-- The signal space and GOOSE (08). -/
structure SigSt where
  recs : Tbl Nat SigRec
  /-- The writer's record beneath a force (R248). -/
  under : Tbl Nat SigRec
  /-- Earlier records of a signal, newest first: the record until the boundary that opened the named cycle (R246). -/
  past : Tbl Nat (List (Nat × SigRec))
  forces : Tbl Nat (BitVec 128 × Nat)
  pendForce : List PendForce
  writes : List PendWrite
  lateMarks : List Nat
  gs : Tbl Nat GsSt
  gp : Tbl Nat GpSt
  svp : Tbl Nat SvpSt
  prpShared : Tbl Nat Nat
  gsSel : Tbl Nat Nat
  gpSel : Tbl Nat Nat
  writeNo : Nat
  deriving DecidableEq, Repr, Inhabited

/-! ### Graphs and dispatch (09, 10) -/

/-- A node (09 R22, R282, R290). -/
structure NodeSt where
  op : OpSt := {}
  outs : List Val := []
  lastConsumed : Option Nat := none
  /-- The stamp of the last outputs (R281, R318). -/
  outStamp : MTime := ⟨0, 0, 0⟩
  /-- The state was lost to a parity error and the partner's copy has been asked for (14 R449). -/
  lost : Bool := false
  deriving DecidableEq, Repr, Inhabited

/-- A matching-store entry (09 R282 to R286). -/
structure Entry where
  node : Nat
  inst : Nat
  slots : List (Option Val)
  spilled : Bool
  ready : Bool
  inList : Bool
  readyRaw : Nat
  /-- Its operands went to the destination of the migration in progress (11 R348). -/
  atDest : Bool
  deriving DecidableEq, Repr, Inhabited

/-- A firing in service on a unit (09 R288, 01 R21). -/
structure Firing where
  node : Nat
  inst : Nat
  ops : List Val
  late : Bool
  /-- The unit of its cluster that runs it. -/
  unit : Nat
  /-- RAW at dispatch. -/
  startRaw : Nat
  /-- The outputs and the new state, once the operator has run. -/
  result : Option (List Val × OpSt)
  deriving DecidableEq, Repr, Inhabited

/-- Graphs, matching store and dispatch (09). -/
structure GrfSt where
  graphs : Tbl Nat GraphSt
  nodes : Tbl Nat NodeSt
  store : List Entry
  service : List Firing
  sched : Tbl Nat SchedEntry
  /-- GRF_SETTING_GROUP commands that wait for the next boundary, by graph (R297). -/
  groupCmds : Tbl Nat StepBook
  /-- FXU time of each function (R304): a second of RAW, ns used in it, ns used in the one before it. -/
  funcBusy : Tbl Nat (Nat × Nat × Nat)
  /-- Time in firings of a unit, 256 × die + 64 × region + 8 × cluster + unit, in the same form (Table GRF-9). -/
  unitBusy : Tbl Nat (Nat × Nat × Nat)
  /-- Firings of the last cycles with their operands: node, instant, operands, late, cycle of the commit (14 R436). -/
  retained : List (Nat × Nat × List Val × Bool × Nat)
  nodeSel : Nat
  deriving DecidableEq, Repr, Inhabited

/-! ### Placement (11) -/

/-- A migration (11 R347 to R350). -/
structure Mig where
  node : Nat
  dest : Loc
  cause : Nat
  reqRaw : Nat
  started : Option Nat
  deferred : Bool
  /-- RAW of its first deferral (R349). -/
  deferRaw : Option Nat
  warned : Bool
  /-- The cluster that the node returns to after it: the self-test that moved it has ended (R353). -/
  back : Option Loc
  deriving DecidableEq, Repr, Inhabited

/-- A cluster under self-test rotation (11 R353, 14 R450). -/
structure Bist where
  cluster : Nat
  reqRaw : Nat
  moved : List (Nat × Loc)
  testing : Bool
  deriving DecidableEq, Repr, Inhabited

/-- Placement (11). -/
structure PlmSt where
  nodeLoc : Tbl Nat Loc
  taskLoc : Tbl Nat Loc
  sigDie : Tbl Nat Nat
  migs : List Mig
  exclDies : List Nat
  exclClusters : List Nat
  frozen : Bool
  mapGen : Nat
  bist : Tbl Nat Bist
  bistNext : Tbl Nat Nat
  /-- MEAS of each cluster at its last check: the second of RAW it was made in, that MEAS, and the one a second before (R352). -/
  meas : Tbl Nat (Nat × Nat × Nat)
  /-- Clusters whose rebalance is due while PLM_FREEZE is in force (R358). -/
  rebalDue : List Nat
  /-- Logic tasks that wait for the gap between two scans to move, with the place and the cause of the move (R351, R352). -/
  taskMoves : Tbl Nat (Loc × Nat)
  /-- Nodes that left a faulted die (Table PLM-7). -/
  evacuated : List Nat
  /-- Dies and clusters excluded at start-up (R339). -/
  startDies : List Nat
  startClusters : List Nat
  /-- A commit has been placed since the last restart (R339, R340). -/
  settled : Bool
  deriving DecidableEq, Repr, Inhabited

/-! ### Scheme logic (12) -/

/-- The word accumulator: its 64 bits and its tag (12 R360). -/
structure Wacc where
  bits : BitVec 64 := 0
  float : Bool := false
  deriving DecidableEq, Repr, Inhabited

/-- A scan in progress on a processor (12 R360, R365, R377). -/
structure Scan where
  task : Nat
  /-- The start boundary's cycle number and its time. -/
  cycle : Nat
  stamp : MTime
  acc : Bool := true
  stack : List (Bool × Nat) := []
  wacc : Wacc := {}
  lstamp : Option MTime := none
  pc : Nat := 0
  /-- The records of the start boundary, as read so far or written: the working image. -/
  image : Tbl Nat SigRec := []
  written : List Nat := []
  /-- DT of the scan (R370). -/
  dt : Nat := 0
  /-- The tables as the scan found them, for an abort (R377). -/
  saved : LTables := {}
  done : Bool := false
  startRaw : Nat := 0
  deriving DecidableEq, Repr, Inhabited

/-- A value write waiting for its boundary (12 R389). -/
structure PendValue where
  task : Nat
  what : Nat
  index : Nat
  value : BitVec 128
  deriving DecidableEq, Repr, Inhabited

/-- Scheme logic (12). -/
structure LgcSt where
  tasks : Tbl Nat TaskSt
  scans : Tbl Nat Scan
  /-- Scans due at the last boundary and not yet started: processor, task, and DT in µs as this module measures it. -/
  due : List (Nat × Nat × Nat)
  /-- The last boundary: its module time, and RAW there (R366, R370). -/
  bound : MTime
  boundRaw : Nat
  pendValues : List PendValue
  staged2 : Tbl Nat LogicImage
  switchAt : Option Nat
  /-- The journal sequence of the command that booked the switch (14 R434). -/
  switchSeq : Nat
  /-- Scans as they started, of the two most recent cycles (14 R436). -/
  kept : List Scan
  /-- Images in force after an on-line switch that the configuration store follows (R392). -/
  bank : Tbl Nat Nat
  runN : Bool
  stopN : Bool
  keyPos : Nat
  taskSel : Nat
  /-- The retain area: RETAIN signal records and counter values, its generation, and its open flag (R396, 19 R563). -/
  retainSigs : Tbl Nat SigRec
  retainCtrs : Tbl (Nat × Nat) Int
  retainGen : Nat
  retainOpen : Bool
  retainPending : Nat
  retainCycle : Nat
  /-- Task states and modes held in MRAM (R397). -/
  retainTasks : Tbl Nat (ObjSt × LMode)
  deriving DecidableEq, Repr, Inhabited

/-! ### Pair (14) -/

/-- Pair state (Table PAIR-1). -/
inductive PState where
  | init | syncing | standby | active | solo | silent | failed
  deriving DecidableEq, Repr, Inhabited

/-- A shared frame held in shadow (14 R442). -/
structure HeldFrame where
  key : ShadowKey
  crc : U64
  port : Nat
  cls : Nat
  info : CopyInfo
  raw : Nat
  prpSeq : Nat
  deriving DecidableEq, Repr, Inhabited

/-- A frame digest that waits for its frame (14 R443). -/
structure EarlyDigest where
  key : ShadowKey
  prpSeq : Nat
  crc : U64
  boundaries : Nat
  deriving DecidableEq, Repr, Inhabited

/-- What a LEASH frame carries (Table PAIR-5). -/
inductive LeashMsg where
  | head (cycle gen : Nat) (dts : List (Nat × Nat))
  | admission (cycle : Nat) (items : List AdmitItem)
  | page (cycle : Nat) (key : PageKey) (data : PageData)
  | cdigest (cycle : Nat) (digests : List U64)
  | fin (cycle admits pages cdigests : Nat) (crc : U64)
  | fdigest (key : ShadowKey) (prpSeq : Nat) (crc : U64)
  | coef (index : Nat) (value : F32) (effect : CoefAt)
  | pageReq (key : PageKey)
  | pageResp (key : PageKey) (pages : List PageData)
  | sync (code partNumber brev : Nat)
  | loopback (echo : Bool) (pattern : Bytes)
  | ack (seq : Nat)
  | nak (seq : Nat)
  | heartbeat (state epoch : Nat)
  deriving DecidableEq, Repr, Inhabited

/-- A LEASH frame that waits for its acknowledgement: its lane sequence and message, and the lane and sequence of its first sending
where that lane went down (14 R430, R431). -/
structure SentFrame where
  seq : Nat
  msg : LeashMsg
  moved : Option (Nat × Nat)
  deriving DecidableEq, Repr, Inhabited

/-- A LEASH lane (14 R427 to R431). -/
structure LaneSt where
  up : Bool := false
  nonce : Nat := 0
  txSeq : Nat := 0
  rxSeq : Nat := 0
  /-- RAW when the lane last sent a frame, or came up (R431). -/
  txRaw : Nat := 0
  /-- Frames sent and not acknowledged, oldest first. -/
  unacked : List SentFrame := []
  ackDue : Bool := false
  loopFail : Nat := 0
  stopped : Bool := false
  /-- A loopback pattern has been sent, and its echo has not come (R450). -/
  loopSent : Bool := false
  /-- Tag failures since the last frame that passed (R430, R456). -/
  tagFails : Nat := 0
  /-- The header and the nonce of the last frame sent (R428). -/
  lastFrame : Option (Bytes × Bytes) := none
  deriving DecidableEq, Repr, Inhabited

/-- What the standby has received of a cycle's mirror (14 R433 to R438). -/
structure Mirror where
  cycle : Nat
  gen : Nat
  /-- The HEAD has arrived, at this RAW. -/
  headIn : Bool
  headRaw : Nat
  dts : List (Nat × Nat)
  admits : List AdmitItem
  pages : Tbl PageKey PageData
  cdigests : List U64
  counts : Nat × Nat × Nat
  /-- What END said: the counts and the CRC (Table PAIR-5). -/
  fin : Option ((Nat × Nat × Nat) × U64)
  ended : Bool
  deriving DecidableEq, Repr, Inhabited

/-- A health report as one UDP datagram over IPv4 carries it (14 R421): addresses, port, whether the destination lies in the own
network by PREFIX, and the report. -/
structure UdpReport where
  src : Nat
  dst : Nat
  udpPort : Nat
  near : Bool
  report : Bytes
  deriving DecidableEq, Repr, Inhabited

/-- The pair (14). -/
structure PairSt where
  side : Nat
  state : PState
  epoch : Nat
  partner : Nat
  partnerFailed : Bool
  /-- The change of cycle length that the mirror announces: the length and its second (01 R55). -/
  mirrorCycle : Option (Nat × Nat)
  holder : Nat
  leaseEnd : Option Nat
  /-- A promotion waiting for the boundary (R424). -/
  granted : Bool
  /-- The epoch of the last grant (R424). -/
  ownEpoch : Nat
  /-- The partner's state of the last HEARTBEAT, while it can be confirmed (R448). -/
  heartbeat : Option Nat
  mirrorLost : Bool
  lostRaw : Nat
  flags : BitVec 32
  reportSeq : Nat
  report : List Nat
  lanes : Tbl Nat LaneSt
  shadow : List HeldFrame
  early : List EarlyDigest
  /-- Mirrors being received, by cycle. -/
  mirrors : Tbl Nat Mirror
  lastMirrorCycle : Nat
  lastHeadGen : Nat
  checkpoint : Tbl PageKey PageData
  diverged : List (Nat × Nat)
  /-- Digest mismatches in consecutive cycles: the array, the last cycle, and how many (R438). -/
  digestRun : Tbl Nat (Nat × Nat)
  /-- The cycle of the last mirror applied (R439). -/
  lastApplied : Nat
  goodMirrors : Nat
  syncDone : Bool
  syncRaw : Nat
  syncPages : Nat
  partNumberOk : Bool
  genMismatch : Nat
  heartbeatRaw : Nat
  relinquish : Option StepBook
  relinquishRaw : Nat
  rekey : Option (Nat × Nat)
  uncheckedSince : Bool
  bistPass : Nat
  bistFail : Nat
  bistSkip : Nat
  scrubPass : Nat
  scrubErr : Nat
  goldenFail : Nat
  /-- Eye openings of the last second and loopback failures of the last minute, with their RAW (Table PAIR-8). -/
  eyes : List (Nat × Nat)
  loopFails : List Nat
  katRuns : Nat
  mirrorBytes : Nat
  /-- What RC reads have taken from counters since start-up, for the cumulative counters of the report (R451). -/
  cumul : Tbl Ctr Nat
  /-- The HEAD sent at the boundary that opened the cycle in progress (R433). -/
  headSent : Option LeashMsg
  /-- Objects written in the cycle in progress, whatever the value (R435). -/
  written : List PageKey
  /-- The last report that each management port sent, and the last frame on the ARB link (R421, 20 R590). -/
  udpSent : Tbl Nat UdpReport
  arbFrame : Bytes
  /-- The journal sequence of the booked rekey (R434, R455). -/
  rekeySeq : Nat
  /-- Digests of the last closed cycle (R438), and the second of the last generation check (R440). -/
  ownDigests : List U64
  genSec : Nat
  /-- Instants decided, oldest first, and how many of them the last boundary had seen (R434). -/
  admitLog : List AdmitInstant
  admitSeen : Nat
  /-- GOOSE messages and commands of the admission record of the cycle in progress (R434). -/
  admitOther : List AdmitItem
  /-- The journal's next number at the last boundary. -/
  jnlSeen : Nat
  /-- RAW at the last run of each piece of periodic work, by its kind and its unit (R421, R450; 03 R110; 11 R352). -/
  lastRun : Tbl (Nat × Nat) Nat
  deriving DecidableEq, Repr, Inhabited

/-! ### VFs (15) -/

/-- Admission state of a VF: 0 OPEN, 1 QUIESCING, 2 QUIESCED, 3 RESETTING. -/
inductive Admit where
  | open_ | quiescing | quiesced | resetting
  deriving DecidableEq, Repr, Inhabited

/-- A VF (15). -/
structure VfSt where
  o : ObjSt := {}
  admission : Admit := .open_
  grants : List Nat := [0, 0, 0, 0]
  tol : Nat := 20
  quiesceCmd : Option StepBook := none
  flrRaw : Nat := 0
  /-- Graphs that the drain under way has disabled and that have not been OFF since (R469). -/
  drains : List Nat := []
  deriving DecidableEq, Repr, Inhabited

/-- The VFs (15). -/
structure VfnSt where
  vfEnable : Bool
  numVfs : Nat
  vfs : Tbl Nat VfSt
  pfTol : Nat
  sel : Nat
  /-- Buffer cells in use by each function (Table VFN-1). -/
  cells : Tbl Nat Nat
  deriving DecidableEq, Repr, Inhabited

/-! ### Recorder (16) -/

/-- A rate-limit window (16 R600): when it opened, the occurrences it has counted, and the first one. -/
structure Window where
  code : Nat
  obj : Nat
  openRaw : Nat
  count : Nat
  first : Event
  extra : Nat
  deriving DecidableEq, Repr, Inhabited

/-- The event recorder (16). -/
structure EvrSt where
  oldest : Nat
  next : Nat
  cursor : U64
  staging : List EvRec
  ring : Tbl Nat EvRec
  durable : Nat
  flushMark : Bool
  /-- A run of losses not yet reported: stamp of the first, count, seconds of the last (R486). -/
  lossRun : Option (MTime × Nat × Nat)
  windows : List Window
  clearedTo : Nat
  deriving DecidableEq, Repr, Inhabited

/-! ### Keys (17) -/

/-- A key with its attributes, held as two XOR shares (17 R507, R509). -/
structure Key where
  type : Nat
  engine : Nat
  persist : Bool
  generated : Bool
  share0 : Bytes
  share1 : Bytes
  deriving DecidableEq, Repr, Inhabited

/-- A KENNEL slot (17 R507, R510, R519). A volatile CURRENT key stands in `cur`, a PERSIST one in the share bank that the marker
`bank` names: 0 A, 1 B. -/
structure SlotSt where
  cur : Option Key := none
  bankA : Option Key := none
  bankB : Option Key := none
  bank : Nat := 0
  pending : Option Key := none
  verified : Bool := false
  rolled : Option (Key × Nat) := none
  booked : Option (Nat × StepBook) := none
  deriving DecidableEq, Repr, Inhabited

/-- A firmware image (17 R521, R522, 02 R599). -/
structure FwImage where
  valid : Bool
  svn : Nat
  release : Nat
  /-- Blocks written: offset and data, in the order written. -/
  written : List (Nat × Bytes)
  /-- The public key and the signature that it carries (R521). -/
  sign : FwSign
  deriving DecidableEq, Repr, Inhabited

/-- What the factory's image carries: the vendor's public key, and a signature over its bytes. DESIGN CHOICE (log entry 168): those
bytes, and r and s, are given nowhere; both stores hold an image that passes. -/
def factorySign : FwSign := ⟨.vendorFirmware, List.replicate 47 0 ++ [1] ++ List.replicate 47 0 ++ [1], .vendorFirmware, []⟩

/-- KENNEL, firmware and tamper (17). -/
structure KeySt where
  slots : Tbl Nat SlotSt
  rollback : Nat
  fwA : FwImage
  fwB : FwImage
  preferred : Nat
  running : Nat
  fallback : Bool
  activate : Option StepBook
  /-- Fuses are being blown up to a count, for a command (R523). -/
  blowing : Option (Nat × StepBook)
  restricted : Bool
  latch : Bool
  cause : Nat
  count : Nat
  tamperTime : Nat
  extArmed : Bool
  tripped : Bool
  pendTamperEvent : Bool
  recovery : Option Bytes
  slotSel : Nat
  draws : Nat
  katFail : Bool
  /-- Bookings lost to power loss, to report at the next start: slot (R517). -/
  lostCommits : List Nat
  deriving DecidableEq, Repr, Inhabited

/-! ### Backup domain (18) -/

/-- The capture registers of the RTC (18 R549, Table BKD-3). -/
structure BkdCap where
  date : Calendar := ⟨0, 0, 0, 0, 0, 0, 0⟩
  status : Nat := 0
  sec : Nat := 0
  ns : Nat := 0
  raw : Nat := 0
  deriving DecidableEq, Repr, Inhabited

/-- The backup domain (18). -/
structure BkdSt where
  rtc : Calendar
  /-- The moment of the tick at which `rtc` held its value, in 1/128 of a RAW tick (18 R540). -/
  rtcRaw : Nat
  valid : Bool
  overrange : Bool
  halted : Bool
  haltRaw : Nat
  shadow : Calendar
  trim : Int
  trimAcc : Nat
  trimErr : Int
  /-- The earliest second at which the interval in progress can have started (18 R551). -/
  trimStart : Option Nat
  /-- The day, from 1970-01-01, whose end has last been handled as a leap (18 R543). -/
  leapDay : Nat
  alarm : Option Calendar
  /-- RTC ticks left of the power-on request that is booked, at the moment of `rtc` (18 R554). -/
  req : Option Nat
  pwrOn : Bool
  pwrOnCause : Nat
  pwrOnTime : Nat
  backupLost : Bool
  onCell : Bool
  cellLow : Bool
  vcell : Nat
  /-- The last VCELL measured in any run, and the one before the last reset of the domain (18 Table BKD-6). -/
  lastCell : Nat
  lossCell : Nat
  /-- TAI − UTC held in MRAM (18 R544). -/
  ofs : Int
  cap : BkdCap
  capBusy : Bool
  /-- RAW at the write of GO (18 R549). -/
  capGo : Nat
  /-- Set by a domain reset, read at the next start (18 R538). -/
  lostFlag : Bool
  /-- Events whose cause arose while power was off (18 R558). -/
  pendEvents : List Event
  /-- The second of module time at which an alignment is due (18 R552). -/
  alignAt : Option Nat
  deriving DecidableEq, Repr, Inhabited

/-! ### Power (19) and hardware (20) -/

/-- Where the module is in its life (19 R561, R564, R570). -/
inductive Phase where
  | reset | running | flushing | waiting | dead
  deriving DecidableEq, Repr, Inhabited

/-- Power and the switched domains (19). -/
structure PwrSt where
  phase : Phase
  restored : Bool
  restartKind : Nat
  lastStop : Nat
  flushOk : Bool
  pfail : Bool
  ext : Bool
  vin : Nat
  iin : Nat
  tReady : Nat
  tRestore : Nat
  lastFlush : Nat
  restartBooked : Option Nat
  readyRaw : Nat
  /-- State and time of entry of each domain (die, index). -/
  domains : Tbl (Nat × Nat) (Nat × Nat)
  domSel : Tbl Nat Nat
  /-- PWR_RESTORE_NOW has asked for the restore (19 R577). -/
  restoreAsked : Bool
  /-- The first SEQ of the records that the last power-fail flushed (16 R488, R490). -/
  flushFrom : Nat
  deriving DecidableEq, Repr, Inhabited

/-- Pins, temperatures and identity (20). -/
structure HwiSt where
  slotId : Nat
  eject : Bool
  pinSide : Nat
  collarExt : Bool
  ppsIn : Bool
  pwrFailN : Bool
  barkN : Bool
  crit : Nat
  warn : Nat
  inlet : Int
  /-- OCXO-zone temperature, 0.1 °C (03 R104). -/
  ocxo : Int
  tj : Tbl Nat Int
  /-- Dies with the die-fault flag (01 R40). -/
  dieFaults : List Nat
  deriving DecidableEq, Repr, Inhabited

/-! ### The machine -/

/-- The module's state. `free` is the model's own: how many free values the run has drawn (log entry 3). -/
structure State where
  pending : List Instr
  variant : Variant
  counters : Tbl Ctr U64
  latches : Tbl Ctr (BitVec 32)
  /-- What the latest read of an RC counter returned (00 R16): the model's own field, written only by that read. -/
  readOut : U64
  cfg : Cfg
  commits : List Commit
  /-- The two banks of the configuration store and the marker (02 R79). -/
  bankA : Option (Nat × Cfg)
  bankB : Option (Nat × Cfg)
  marker : Bool
  /-- The number of the system cycle in progress (01 R53). -/
  cycleNum : Nat
  cmd : CmdSt
  tim : TimSt
  net : NetSt
  swc : SwcSt
  svi : SviSt
  flt : FltSt
  sig : SigSt
  grf : GrfSt
  plm : PlmSt
  lgc : LgcSt
  lop : LopSt
  pair : PairSt
  vfn : VfnSt
  evr : EvrSt
  key : KeySt
  bkd : BkdSt
  pwr : PwrSt
  hwi : HwiSt
  free : Nat
  deriving DecidableEq, Repr, Inhabited

/-! ### Reset -/

/-- The reset configuration: every chapter's defaults. -/
def Cfg.reset : Cfg where
  cycleLen := 1152
  ptp := ⟨0, 0, 0, 1, 3⟩
  asym := []
  cable := []
  thresh := ⟨100, 60, 250, 100, 1000, 3600, 20, 0x3DCCCCCD#32, 0x3827C5AC#32⟩
  ports := []
  mgmt := []
  swcQueues := []
  mcast := []
  portFwd := []
  age := 300
  ddAge := 400
  streams := []
  chains := []
  heel := ⟨0, 0, 0⟩
  pinEn := 0
  pinClear := 0
  signals := []
  gs := []
  gp := []
  svp := []
  sharedMac := 0
  graphs := []
  groups := []
  ownerDies := []
  placeLimit := 700
  consolidate := 0
  deferWarn := 1000
  tasks := []
  modeSrc := 0
  restartMode := 0
  loop := none
  pair := ⟨0, 8, 0xFFFF, 0xFFFF, 0, 0, 24, 47800, 0, 0, 60⟩
  fraction := 500
  vfProt := []
  extEn := 0
  rollMs := 0
  trimEn := 1
  alignEn := 1
  maxState := List.replicate 12 3
  stored := []

/-- The coefficients of Table LOP-1. -/
def coefReset : List F32 :=
  [0, 0, 0x3F800000#32, 0, 0, 0, 0, 0x3F800000#32, 0, 0, 0, 0, 0, 0, 0, 0, 0x7149F2CA#32, 0x7149F2CA#32]
    ++ List.replicate 19 0

/-- The machine right after reset, before power good has started it. -/
def State.reset : State where
  pending := []
  variant := .zv8
  counters := []
  latches := []
  readOut := 0
  cfg := Cfg.reset
  commits := []
  bankA := none
  bankB := none
  marker := false
  cycleNum := 0
  cmd := { gen := 0, ready := false, ctrlDie := 0, jnlNext := 1, jnlOldest := 1, jnl := [], cursor := [], aq := [], qps := [],
           held := [], outst := [], cpls := [], msix := [], rrLast := (0, 0), staging := [], hostOut := [], busMaster := [] }
  tim := { raw := 0, cur := ⟨⟨0, 0, 0⟩, 0, 0, 0⟩, next := none, past := [], caps := [], lanA := {}, lanB := {}, state := .freerun,
           slewing := false, asymUnverified := false, f := 0, a := 0, theta := 0, lastResult := none, firstInAcq := true,
           cntLock := 0, cntUnlock := 0, everLocked := false, hold := none, holdAgeRaw := none, e0 := 0, utcOffset := 0,
           utcValid := false, leap61 := false, leap59 := false, timeTraceable := false, freqTraceable := false,
           ppsRaw := none, ppsErr := 0, ppsOut := 0, ppsRise := none, dieSkew := [], skewRun := [], dieOfs := [], dieDelay := [],
           linkDelay := [], step := none, startStepped := false, stepPend := 0, ocxo0 := 0, tqLog := [] }
  net := { ports := [], cages := [], mgmt := [], prpOwn := [], supRaw := [], ptpTx := [] }
  swc := { copies := [], fabric := [], chains := [], nextChain := 0, learned := [], dd := [], badStatic := [], tcCorr := [] }
  svi := { ctxSel := [], streams := [], authFree := [], rxCount := [] }
  flt := { chainSel := [], chains := [], heels := [],
           pending := none, heelFall := none, digestLog := [] }
  sig := { recs := [], under := [], past := [], forces := [], pendForce := [], writes := [], lateMarks := [], gs := [], gp := [], svp := [],
           prpShared := [], gsSel := [], gpSel := [], writeNo := 0 }
  grf := { graphs := [], nodes := [], store := [], service := [], sched := [], groupCmds := [], funcBusy := [], unitBusy := [], retained := [], nodeSel := 0 }
  plm := { nodeLoc := [], taskLoc := [], sigDie := [], migs := [], exclDies := [], exclClusters := [], frozen := false,
           mapGen := 0, bist := [], bistNext := [], meas := [], rebalDue := [], taskMoves := [], evacuated := [],
           startDies := [], startClusters := [], settled := false }
  lgc := { tasks := [], scans := [], due := [], bound := ⟨0, 0, 0⟩, boundRaw := 0, pendValues := [], staged2 := [], switchAt := none, switchSeq := 0, kept := [], bank := [], runN := true,
           stopN := true, keyPos := 0, taskSel := 0, retainSigs := [], retainCtrs := [], retainGen := 0, retainOpen := false,
           retainPending := 0, retainCycle := 0, retainTasks := [] }
  lop := { o := {}, drainNext := false, startAt := none, coef := coefReset, pend := [], s11 := 0, s21 := 0, s12 := 0, s22 := 0, i := 0, yp := 0,
           outPrev := List.replicate 8 0, outs := List.replicate 8 (0, 0x81), invRun := 0, drainRun := 0, last := 0,
           nextSample := 0, inputs := [], firstOn := 0, applied := [], lenWas := none }
  pair := { side := 0, state := .init, epoch := 0, partner := 0xFF, partnerFailed := false, mirrorCycle := none, holder := 0xFF, leaseEnd := none,
            granted := false, ownEpoch := 0, heartbeat := none, mirrorLost := false, lostRaw := 0, flags := 0, reportSeq := 0, report := [],
            lanes := [], shadow := [], early := [], mirrors := [], lastMirrorCycle := 0, lastHeadGen := 0, checkpoint := [],
            diverged := [], digestRun := [], goodMirrors := 0, syncDone := false, syncRaw := 0, syncPages := 0,
            partNumberOk := false, genMismatch := 0, heartbeatRaw := 0, relinquish := none, relinquishRaw := 0, rekey := none,
            uncheckedSince := false, bistPass := 0, bistFail := 0, bistSkip := 0, scrubPass := 0, scrubErr := 0,
            goldenFail := 0, eyes := [], loopFails := [], katRuns := 0, mirrorBytes := 0, cumul := [], headSent := none, written := [],
            udpSent := [], arbFrame := [], rekeySeq := 0, lastApplied := 0, ownDigests := [], genSec := 0,
            admitLog := [], admitSeen := 0, admitOther := [], jnlSeen := 1, lastRun := [] }
  vfn := { vfEnable := false, numVfs := 0, vfs := [], pfTol := 20, sel := 0, cells := [] }
  evr := { oldest := 1, next := 1, cursor := 0, staging := [], ring := [], durable := 1, flushMark := false, lossRun := none,
           windows := [], clearedTo := 1 }
  key := { slots := [], rollback := 0, fwA := ⟨true, 0, 0, [], factorySign⟩, fwB := ⟨true, 0, 0, [], factorySign⟩, preferred := 0, running := 0,
           fallback := false, activate := none, blowing := none, restricted := false, latch := false, cause := 0, count := 0, tamperTime := 0,
           extArmed := false, tripped := false, pendTamperEvent := false, recovery := none, slotSel := 0, draws := 0,
           katFail := false, lostCommits := [] }
  bkd := { rtc := ⟨2000, 1, 1, 0, 0, 0, 0⟩, rtcRaw := 0, valid := false, overrange := false, halted := false, haltRaw := 0,
           shadow := ⟨0, 0, 0, 0, 0, 0, 0⟩, trim := 0, trimAcc := 0, trimErr := 0, trimStart := none, leapDay := 0, alarm := none,
           req := none, pwrOn := false, pwrOnCause := 0, pwrOnTime := 0, backupLost := false, onCell := false,
           cellLow := false, vcell := 0, lastCell := 0, lossCell := 0, ofs := 0, cap := {}, capBusy := false, capGo := 0, lostFlag := false, pendEvents := [], alignAt := none }
  pwr := { phase := .reset, restored := false, restartKind := 0, lastStop := 0, flushOk := false, pfail := false, ext := false,
           vin := 0, iin := 0, tReady := 0, tRestore := 0, lastFlush := 0, restartBooked := none, readyRaw := 0, domains := [],
           domSel := [], restoreAsked := false, flushFrom := 1 }
  hwi := { slotId := 0, eject := false, pinSide := 0, collarExt := false, ppsIn := false, pwrFailN := true, barkN := false,
           crit := 0, warn := 0, inlet := 0, ocxo := 0, tj := [], dieFaults := [] }
  free := 0

end Sys2Proof.Machine
end

