-- ==== Sys2Proof/Machine/Crypto.lean ====
section
/-! DEFINITION. The cryptography of KENNEL over the cited standards (17 R504 to R512, R521, R524): derivations from the root, key
shares, check values, signatures, sealed texts, and the bytes of signed images. -/
namespace Sys2Proof.Machine

/-! ### Bytes -/

/-- A list of bytes brought to a length. -/
def fixLen (n : Nat) (l : Bytes) : Bytes := (l ++ List.replicate n 0).take n
/-- Bytes as a number, the highest first (17 R505). -/
def bigNat (l : Bytes) : Nat := bytesNat l.reverse
/-- Big-endian bytes of a number. -/
def bigBytes (n v : Nat) : Bytes := (leBytes n v).reverse
/-- The exclusive or of two texts of one length. -/
def xorBytes (a b : Bytes) : Bytes := List.zipWith (· ^^^ ·) a b
/-- A text laid over another at an offset. -/
def overlay (base : Bytes) (off : Nat) (data : Bytes) : Bytes := fixLen off base ++ data ++ base.drop (off + data.length)
/-- ASCII labels (17 R505, Table KEY-2, R512, R520, R530). -/
def labelZkid : Bytes := [0x5A, 0x4B, 0x49, 0x44]
def labelZkix : Bytes := [0x5A, 0x4B, 0x49, 0x58]
def labelZkek : Bytes := [0x5A, 0x4B, 0x45, 0x4B]
def labelZkcv : Bytes := [0x5A, 0x4B, 0x43, 0x56]
def labelZkit : Bytes := [0x5A, 0x4B, 0x49, 0x54]
def labelZkh1 : Bytes := [0x5A, 0x4B, 0x48, 0x31]
def labelZktc : Bytes := [0x5A, 0x4B, 0x54, 0x43]

/-! ### Derivation from the root (R504, R505) -/

/-- HKDF with SHA-384 as RFC 5869 defines it, for an output of one block, 48 bytes: extract under the salt, expand over the info. -/
def hkdf (ikm salt info : Bytes) : Bytes := Config.hmac384 (Config.hmac384 salt ikm) (info ++ [1])
/-- The order n of P-384. PRESUMED: the figure of the standard that the spec cites (log entry 169). -/
def p384Order : Nat :=
  0xFFFFFFFFFFFFFFFFFFFFFFFFFFFFFFFFFFFFFFFFFFFFFFFFC7634D81F4372DDF581A0DB248B0A77AECEC196ACCC52973
/-- A number lies between 1 and n − 1. -/
def inOrder (x : Nat) : Bool := decide (1 ≤ x ∧ x < p384Order)
/-- The first scalar of a derivation that lies between 1 and n − 1, with the counter byte raised by 1 each time. DESIGN CHOICE (log
entry 175): it starts at 0. -/
def scalarFrom (salt : Bytes) : Nat → Nat → Nat
  | 0, _ => 0
  | fuel + 1, counter =>
    let x := bigNat (hkdf Config.rootSecret salt [counter])
    if inOrder x then x else scalarFrom salt fuel (counter + 1)
/-- The private keys of the identity and the import pair (Table KEY-1); nothing returns them. -/
def identityKey : Bytes := bigBytes 48 (scalarFrom labelZkid 256 0)
def importKey : Bytes := bigBytes 48 (scalarFrom labelZkix 256 0)
/-- Their public points. -/
def identityPoint : Bytes := fixLen 97 (Config.publicPoint identityKey)
def importPoint : Bytes := fixLen 97 (Config.publicPoint importKey)
/-- The KEK of a blob from its bytes 0 to 47 (Table KEY-1). -/
def kek (hd : Bytes) : Bytes := (hkdf Config.rootSecret labelZkek hd).take 32
/-- The key under which an import block carries its key (R512). -/
def transportKey (hd ephemeral : Bytes) : Bytes := (hkdf (Config.ecdh importKey ephemeral) labelZkit (hd ++ ephemeral)).take 32
/-- The 386 bytes of KEY_IDENTITY_READ (R506). -/
def identityBlock : Bytes :=
  identityPoint ++ importPoint ++ fixLen 96 (Config.sign identityKey importPoint) ++ fixLen 96 Config.endorsement

/-! ### Keys and slots (R507 to R510) -/

/-- The length of a key of a TYPE (Table KEY-2). -/
def keyBytes (type : Nat) : Nat := match type with | 0 | 1 => 32 | 2 => 48 | _ => 97
/-- The key that two shares hold (R509). -/
def Key.material (k : Key) : Bytes := xorBytes k.share0 k.share1
/-- A key held as two shares under a mask. -/
def newKey (type engine : Nat) (persist generated : Bool) (m mask : Bytes) : Key :=
  let f := fixLen m.length mask
  ⟨type, engine, persist, generated, f, xorBytes m f⟩
/-- A key takes a fresh mask (R509). -/
def maskKey (mask : Bytes) (k : Key) : Key := newKey k.type k.engine k.persist k.generated k.material mask
/-- The check value of a key (Table KEY-2). -/
def checkValue (k : Key) : U64 :=
  let b := match k.type with
    | 0 | 1 => Config.hmac384 k.material labelZkcv
    | 2 => Config.sha384 (Config.publicPoint k.material)
    | _ => Config.sha384 k.material
  BitVec.ofNat 64 (bytesNat (b.take 8))
/-- The check value of a key; 0 where there is none. -/
def kcvOf (k : Option Key) : Nat := match k with | some k => (checkValue k).toNat | none => 0
/-- The content of a bank (R510). -/
def SlotSt.bankOf (x : SlotSt) (b : Nat) : Option Key := if b = 0 then x.bankA else x.bankB
/-- The CURRENT key of a slot: the one in the bank that the marker names, or the volatile one. -/
def SlotSt.current (x : SlotSt) : Option Key := match x.bankOf x.bank with | some k => some k | none => x.cur
/-- Write the bank that is not in force; the old one stays in force until the marker is written (R510). -/
def SlotSt.writeBank (k : Key) (x : SlotSt) : SlotSt := if x.bank = 0 then { x with bankB := some k } else { x with bankA := some k }
/-- Rewrite the marker: the other bank comes into force (R510). -/
def SlotSt.flipMarker (x : SlotSt) : SlotSt := { x with bank := if x.bank = 0 then 1 else 0 }
/-- Empty the banks: the one not in force, or both. -/
def SlotSt.dropOther (x : SlotSt) : SlotSt := if x.bank = 0 then { x with bankB := none } else { x with bankA := none }
def SlotSt.dropBanks (x : SlotSt) : SlotSt := { x with bankA := none, bankB := none }
/-- A key becomes CURRENT and the old one is discarded: a PERSIST key goes to the bank not in force, and then the marker names it
(R516, R517). -/
def SlotSt.setCurrent (k : Key) (x : SlotSt) : SlotSt :=
  if k.persist then { ((x.writeBank k).flipMarker).dropOther with cur := none } else { x.dropBanks with cur := some k }

/-! ### Signatures and sealed texts (R511, R521, R524, R530) -/

/-- The bytes of a public key. -/
def pubBytes : PubKey → Bytes
  | .vendorFirmware => Config.vendorFwKey
  | .vendorService => Config.vendorServiceKey
  | .point b => b
/-- A signature verifies under a key and over the SHA-384 hash of a text: r and s lie between 1 and n − 1 (R524). -/
def signatureOk (sg : Signature) (key : PubKey) (text : Bytes) : Bool :=
  decide (sg.bytes.length = 96) && inOrder (bigNat (sg.bytes.take 48)) && inOrder (bigNat (sg.bytes.drop 48))
    && (sg.signer == key || pubBytes sg.signer == pubBytes key) && sg.text == text
/-- A sealed text opens: its tag verifies under a key, a nonce and the authenticated data, and it has the length expected. -/
def sealOpens (b : Sealed) (key nonce aad : Bytes) (len : Nat) : Bool :=
  b.key == key && b.nonce == nonce && b.aad == aad && b.text.length == len
/-- The bytes of a firmware image: its blocks in the order written (R522). -/
def fwBytes (x : FwImage) : Bytes := x.written.foldl (fun b e => overlay b e.1 e.2) []
/-- The boot ROM's verification of an image's key and signature (R521). -/
def fwSigned (x : FwImage) (f : FwSign) : Bool :=
  (f.key == .vendorFirmware || Config.sha384 (pubBytes f.key) == Config.vendorFwHash) && signatureOk f.sign f.key (fwBytes x)

/-! ### The bytes of signed images (09 R274, 12 R386) -/

/-- A signal definition entry (08 Table SIG-1). -/
def sigEntryBytes (e : Sys2Proof.SigEntry) : Bytes :=
  leBytes 4 e.id ++ [e.sig.type, e.sig.source, bbit e.sig.retain 0 + bbit e.valid 1, 0] ++ leBytes 2 e.sig.owner ++ leBytes 6 0
    ++ leBytes 16 e.sig.init.toNat
/-- Tables laid over the bytes of an image, each at its offset. -/
def laidOver (base : Bytes) (l : List (Nat × Bytes)) : Bytes := l.foldl (fun b e => overlay b e.1 e.2) base
/-- The bytes of a logic image before its signature (12 Table LGC-8, R386). -/
def logicBytes (g : LogicImage) : Bytes :=
  let hd := leBytes 4 g.magic ++ leBytes 2 g.format ++ leBytes 2 g.minBrev ++ leBytes 2 g.task ++ leBytes 2 g.div
    ++ leBytes 4 g.instr.length ++ leBytes 4 g.consts.length ++ leBytes 2 g.timers.length ++ leBytes 2 g.counters.length
    ++ leBytes 2 g.nedge ++ leBytes 2 0 ++ leBytes 4 g.decls.length
    ++ [g.instrOfs, g.constOfs, g.timerOfs, g.countOfs, g.declOfs, g.imageLen].flatMap (leBytes 4) ++ leBytes 8 0
  laidOver (fixLen (g.imageLen - 96) (hd ++ g.rest))
    [(g.instrOfs, g.instr.flatMap (fun w => leBytes 4 w.toNat)),
     (g.constOfs, g.consts.flatMap (fun c => leBytes 8 c.value.toNat ++ leBytes 8 c.type)),
     (g.timerOfs, g.timers.flatMap (fun t => leBytes 4 t.pt ++ leBytes 4 (bbit t.evcomp 0))),
     (g.countOfs, g.counters.flatMap (fun c => leBytes 4 (twos 32 c.pv) ++ leBytes 4 (bbit c.retain 0))),
     (g.declOfs, g.decls.flatMap sigEntryBytes)]
/-- The SHA-384 hash of a logic image (12 R394). -/
def imageHash (g : LogicImage) : Bytes := Config.sha384 (logicBytes g ++ g.sign.bytes)
/-- A node record (09 Table GRF-2). -/
def nodeRecBytes (r : NodeRec) : Bytes :=
  leBytes 2 r.operator ++ [r.group, bbit r.mustRun 0 + bbit r.prot 1 + bbit r.cycle 2] ++ leBytes 4 r.budget
    ++ [r.slots.length, r.nout] ++ leBytes 2 r.cycleDiv
    ++ [r.stateLen, r.paramRel, r.initRel, r.slotOfs, r.cost].flatMap (leBytes 4) ++ List.replicate 32 0
/-- A slot entry (09 Table GRF-3). -/
def slotEntryBytes (x : Slot) : Bytes := [x.kind, x.out, 0, 0] ++ leBytes 4 x.ref
/-- The bytes of a graph image before its signature (09 R274, Table GRF-1). -/
def graphBytes (g : GraphImage) : Bytes :=
  let hd := leBytes 4 g.magic ++ leBytes 2 g.format ++ leBytes 2 g.minBrev ++ leBytes 4 g.libVer ++ leBytes 2 g.graph
    ++ [g.ngroups, g.nsets] ++ leBytes 2 g.nodeBase ++ leBytes 2 g.nodes.length
    ++ [g.imageLen, g.nodeOfs, g.paramOfs, g.paramStride, g.initOfs].flatMap (leBytes 4) ++ List.replicate 24 0
  let params (r : NodeRec) : List (Nat × Bytes) :=
    (List.zip (List.range r.paramBytes.length) r.paramBytes).map (fun p => (g.paramOfs + p.1 * g.paramStride + r.paramRel, p.2))
  laidOver (fixLen (g.imageLen - 96) (hd ++ g.rest))
    ((g.nodeOfs, g.nodes.flatMap nodeRecBytes) :: g.nodes.flatMap (fun r => (r.slotOfs, r.slots.flatMap slotEntryBytes) :: params r))
/-- A signed image verifies with the key that its slot holds (R524). -/
def imageSigned (k : Option Key) (text : Bytes) (sg : Signature) : Bool :=
  match k with | some k => signatureOk sg (.point k.material) text | none => false

end Sys2Proof.Machine
end

