-- ==== Sys2Proof/Machine/Clock.lean ====
section
/-! DEFINITION. Module time: RAW to MTIME by the parameter sets (03 R99 to R101), times as cycle units and instants
(01 R50, R53), and the differences the chapters use. -/
namespace Sys2Proof.Machine

/-- 2^32. -/
def two32 : Int := 4294967296
/-- 10^9 × 2^32, one second in units of 2^−32 ns. -/
def secUnits : Int := 1000000000 * two32

/-- Elapsed time of R99 in units of 2^−32 ns, from RAW and sub-tick. -/
def elapsed (p : ParamSet) (raw : Int) (q : Int) : Int :=
  let d8 := 8 * (raw - p.rawRef) + q
  d8 * 1073741824 + (d8 * p.rate) / 262144

/-- MTIME of a count of 2^−32 ns from the epoch. -/
def mtimeOfUnits (t : Int) : MTime :=
  let rem := t % secUnits
  ⟨(t / secUnits).toNat, (rem / two32).toNat, (rem % two32).toNat⟩

/-- An MTIME as a count of 2^−32 ns from the epoch. -/
def munits (m : MTime) : Int := m.sec * secUnits + m.ns * two32 + m.frac

/-- R99: RAW and sub-tick to MTIME under one parameter set. -/
def convert (p : ParamSet) (raw q : Int) : MTime :=
  mtimeOfUnits (p.offset.sec * secUnits + (p.offset.ns * two32 + p.offset.frac) + elapsed p raw q)

/-- The sets of a time unit, the greatest ACT first. -/
def paramSets (t : TimSt) : List ParamSet := (match t.next with | some n => [n] | none => []) ++ t.cur :: t.past
/-- The parameter set that converts a RAW value: the one with the greatest ACT not above it (R100). -/
def setAt (t : TimSt) (raw : Nat) : ParamSet := ((paramSets t).find? (fun p => decide (p.act ≤ raw))).getD t.cur

/-- The MTIME of a RAW value with sub-tick. -/
def mtimeAt (s : State) (raw q : Nat) : MTime := convert (setAt s.tim raw) raw q

/-- Module time now. -/
def now (s : State) : MTime := mtimeAt s s.tim.raw 0

/-- Milliseconds in RAW ticks. -/
def rawMs (ms : Nat) : Nat := ms * 500000
/-- Microseconds in RAW ticks. -/
def rawUs (us : Nat) : Nat := us * 500
/-- Seconds in RAW ticks. -/
def rawSec (sec : Nat) : Nat := sec * 500000000

/-- Nanoseconds of an MTIME, rounded toward zero. -/
def mtimeNs (m : MTime) : Nat := m.sec * 1000000000 + m.ns
/-- a ≤ b. -/
def mle (a b : MTime) : Bool := decide (munits a ≤ munits b)
/-- a < b. -/
def mlt (a b : MTime) : Bool := decide (munits a < munits b)
/-- An MTIME of seconds and nanoseconds. -/
def secNs (sec ns : Nat) : MTime := ⟨sec, ns, 0⟩

/-- Cycle units in a second (01 Table ARC-7). -/
def unitsPerSec : Nat := 1152000

/-- The whole cycle units up to an MTIME. -/
def cycleUnits (m : MTime) : Nat := (munits m * unitsPerSec / secUnits).toNat

/-- The whole cycle units at or after an MTIME. -/
def cycleUnitsUp (m : MTime) : Nat := ((munits m * unitsPerSec + (secUnits - 1)) / secUnits).toNat

/-- The number of the cycle whose span holds an MTIME (01 R53). -/
def cycleOf (len : Nat) (m : MTime) : Nat := if len = 0 then 0 else cycleUnits m / len

/-- The time of a count of cycle units from the epoch, the fraction rounded toward zero. -/
def timeOfUnits (u : Nat) : MTime := mtimeOfUnits ((u : Int) * secUnits / unitsPerSec)

/-- The opening boundary of a cycle. -/
def boundaryTime (len num : Nat) : MTime := timeOfUnits (len * num)

/-- The time of an instant at a rate (01 R50), the fraction of 2^−32 ns rounded toward zero. -/
def instantTime (rate n : Nat) : MTime := if rate = 0 then ⟨0, 0, 0⟩ else mtimeOfUnits ((n : Int) * secUnits / rate)

/-- The first instant of a rate at or after an MTIME. -/
def instantFrom (rate : Nat) (m : MTime) : Nat := ((munits m * rate + (secUnits - 1)) / secUnits).toNat

/-- One cycle of CLK_TIME: RAW counts while the module runs (03 R98). DESIGN CHOICE (log entry 2). -/
def tick (s : State) : State :=
  match s.pwr.phase with
  | .reset | .dead | .waiting => s
  | _ => { s with tim := { s.tim with raw := (s.tim.raw + 1) % 2 ^ 64 } }

/-- The time-quality STATE is other than LOCKED (03 R106). -/
def holdoverBit (s : State) : Bool := decide (s.tim.state ≠ .locked)

/-- The STATE in force at a RAW value was other than LOCKED (03 R106). -/
def holdAtRaw (s : State) (raw : Nat) : Bool :=
  match s.tim.tqLog.find? (fun e => decide (e.raw ≤ raw)) with
  | some e => decide (e.state ≠ .locked)
  | none => if s.tim.tqLog.isEmpty then holdoverBit s else true
/-- The STATE in force at a module time was other than LOCKED (03 R106). -/
def holdAt (s : State) (t : MTime) : Bool :=
  match s.tim.tqLog.find? (fun e => mle e.time t) with
  | some e => decide (e.state ≠ .locked)
  | none => if s.tim.tqLog.isEmpty then holdoverBit s else true

end Sys2Proof.Machine
end

