-- ==== Sys2Proof/Machine/Float.lean ====
section
/-! DEFINITION. Binary floating point with one rounding, to nearest with ties to even: binary32 with subnormals read and
written as zero (10 R309, R310), and IEEE binary64 for the servo (03 R116). -/
namespace Sys2Proof.Machine

/-- An unpacked value: not a number, an infinity, or (−1)^neg × m × 2^e. -/
inductive Fv where
  | nan
  | inf (neg : Bool)
  | fin (neg : Bool) (m : Nat) (e : Int)
  deriving DecidableEq, Repr, Inhabited

/-- A format: precision, exponent width, and whether subnormals are read and written as zero. -/
structure Fmt where
  p : Nat
  w : Nat
  ftz : Bool
  deriving DecidableEq, Repr, Inhabited

/-- binary32 as 10 R309 gives it. -/
def fmt32 : Fmt := ⟨24, 8, true⟩
/-- IEEE binary64. -/
def fmt64 : Fmt := ⟨53, 11, false⟩

/-- The exponent bias. -/
def Fmt.bias (f : Fmt) : Nat := 2 ^ (f.w - 1) - 1

/-- Unpack a word. -/
def funpack (f : Fmt) (n : Nat) : Fv :=
  let neg := n.testBit (f.p - 1 + f.w)
  let ex := (n >>> (f.p - 1)) % 2 ^ f.w
  let fr := n % 2 ^ (f.p - 1)
  if ex = 2 ^ f.w - 1 then (if fr = 0 then .inf neg else .nan)
  else if ex = 0 then
    (if f.ftz then .fin neg 0 0 else .fin neg fr (1 - (f.bias : Int) - (f.p - 1 : Nat)))
  else .fin neg (fr + 2 ^ (f.p - 1)) ((ex : Int) - f.bias - (f.p - 1 : Nat))

/-- The sign bit at its place. -/
def fsign (f : Fmt) (neg : Bool) : Nat := if neg then 2 ^ (f.p - 1 + f.w) else 0
/-- The word of an infinity. -/
def finf (f : Fmt) (neg : Bool) : Nat := fsign f neg + (2 ^ f.w - 1) * 2 ^ (f.p - 1)
/-- The word of a quiet NaN. -/
def fnan (f : Fmt) : Nat := (2 ^ f.w - 1) * 2 ^ (f.p - 1) + 2 ^ (f.p - 2)

/-- Divide by 2^k, to nearest with ties to even. -/
def shrRne (m k : Nat) : Nat :=
  if k = 0 then m
  else
    let q := m >>> k
    let r := m % 2 ^ k
    let h := 2 ^ (k - 1)
    if r < h then q else if h < r then q + 1 else q + q % 2

/-- Round (−1)^neg × m × 2^e into a format and pack it (10 R309: judged after rounding). -/
def fpack (f : Fmt) (neg : Bool) (m : Nat) (e : Int) : Nat :=
  if m = 0 then fsign f neg
  else
    let L := Nat.log2 m + 1
    let sh0 : Int := (L : Int) - f.p
    let emin : Int := 1 - (f.bias : Int) - (f.p - 1 : Nat)
    let sh := if f.ftz then sh0 else max sh0 (emin - e)
    let m1 := if sh ≤ 0 then m <<< (-sh).toNat else shrRne m sh.toNat
    let e1 := e + sh
    let (m2, e2) := if m1 = 2 ^ f.p then (2 ^ (f.p - 1), e1 + 1) else (m1, e1)
    if m2 < 2 ^ (f.p - 1) then fsign f neg + m2
    else
      let be := e2 + (f.p - 1 : Nat) + f.bias
      if be < 1 then fsign f neg
      else if (2 ^ f.w - 1 : Nat) ≤ be then finf f neg
      else fsign f neg + be.toNat * 2 ^ (f.p - 1) + (m2 - 2 ^ (f.p - 1))

/-- Pack an unpacked value. -/
def fvPack (f : Fmt) : Fv → Nat
  | .nan => fnan f
  | .inf n => finf f n
  | .fin n m e => fpack f n m e

/-- A signed integer with an exponent, packed; an exact zero takes the sign `zneg`. -/
def fpackI (f : Fmt) (zneg : Bool) (i : Int) (e : Int) : Nat :=
  if i = 0 then fsign f zneg else fpack f (decide (i < 0)) i.natAbs e

/-- The signed mantissa of a finite value. -/
def smant (neg : Bool) (m : Nat) : Int := if neg then -(m : Int) else m

/-- Exact sum of two finite values, as an integer at the lower exponent. -/
def exactSum (n1 : Bool) (m1 : Nat) (e1 : Int) (n2 : Bool) (m2 : Nat) (e2 : Int) : Int × Int :=
  let e := min e1 e2
  (smant n1 m1 * (2 ^ (e1 - e).toNat : Nat) + smant n2 m2 * (2 ^ (e2 - e).toNat : Nat), e)

/-- Sum of two unpacked values with one rounding. -/
def faddV (f : Fmt) : Fv → Fv → Nat
  | .nan, _ => fnan f
  | _, .nan => fnan f
  | .inf a, .inf b => if a = b then finf f a else fnan f
  | .inf a, .fin _ _ _ => finf f a
  | .fin _ _ _, .inf b => finf f b
  | .fin n1 m1 e1, .fin n2 m2 e2 =>
    if m1 = 0 then (if m2 = 0 then fsign f (n1 && n2) else fpack f n2 m2 e2)
    else if m2 = 0 then fpack f n1 m1 e1
    else
      let (i, e) := exactSum n1 m1 e1 n2 m2 e2
      fpackI f false i e

/-- Exact product of two unpacked values. -/
def fmulV : Fv → Fv → Fv
  | .nan, _ => .nan
  | _, .nan => .nan
  | .inf a, .inf b => .inf (a != b)
  | .inf a, .fin n m _ => if m = 0 then .nan else .inf (a != n)
  | .fin n m _, .inf b => if m = 0 then .nan else .inf (n != b)
  | .fin n1 m1 e1, .fin n2 m2 e2 => .fin (n1 != n2) (m1 * m2) (e1 + e2)

/-- Quotient of two unpacked values with one rounding. -/
def fdivV (f : Fmt) : Fv → Fv → Nat
  | .nan, _ => fnan f
  | _, .nan => fnan f
  | .inf _, .inf _ => fnan f
  | .inf a, .fin n _ _ => finf f (a != n)
  | .fin n _ _, .inf b => fsign f (n != b)
  | .fin n1 m1 e1, .fin n2 m2 e2 =>
    if m2 = 0 then (if m1 = 0 then fnan f else finf f (n1 != n2))
    else if m1 = 0 then fsign f (n1 != n2)
    else
      let k := 2 * f.p + 4
      let q := (m1 <<< k) / m2
      let st := if (m1 <<< k) % m2 = 0 then 0 else 1
      fpack f (n1 != n2) (2 * q + st) (e1 - e2 - k - 1)

/-- The integer square root by bits, from the place `i` down. -/
def isqrtGo (n : Nat) : Nat → Nat → Nat
  | 0, r => if (r + 1) * (r + 1) ≤ n then r + 1 else r
  | i + 1, r => let c := r + 2 ^ (i + 1); isqrtGo n i (if c * c ≤ n then c else r)

/-- The integer square root of a number below 2^256. -/
def isqrt (n : Nat) : Nat := isqrtGo n (Nat.log2 n / 2 + 1) 0

/-- Square root with one rounding. -/
def fsqrtV (f : Fmt) : Fv → Nat
  | .nan => fnan f
  | .inf neg => if neg then fnan f else finf f false
  | .fin neg m e =>
    if m = 0 then fsign f neg
    else if neg then fnan f
    else
      let k : Nat := 2 * f.p + 6
      let odd := decide (e % 2 ≠ 0)
      let m1 := if odd then 2 * m else m
      let e1 := if odd then e - 1 else e
      let n := m1 <<< (2 * k)
      let r := isqrt n
      let st := if r * r = n then 0 else 1
      fpack f false (2 * r + st) (e1 / 2 - k - 1)

/-- Compare: some true when a < b, some false when a ≥ b, none when either is not a number. -/
def fltV : Fv → Fv → Option Bool
  | .nan, _ => none
  | _, .nan => none
  | .inf a, .inf b => some (a && !b)
  | .inf a, .fin _ _ _ => some a
  | .fin _ _ _, .inf b => some (!b)
  | .fin n1 m1 e1, .fin n2 m2 e2 =>
    let e := min e1 e2
    some (decide (smant n1 m1 * (2 ^ (e1 - e).toNat : Nat) < smant n2 m2 * (2 ^ (e2 - e).toNat : Nat)))

/-- Nearest integer, ties to even, of a finite value. -/
def fvToInt (neg : Bool) (m : Nat) (e : Int) : Int :=
  smant neg (if 0 ≤ e then m <<< e.toNat else shrRne m (-e).toNat)

/-! ### binary32 (10 R309, R310) -/

/-- Unpack a binary32 word. -/
def up32 (a : F32) : Fv := funpack fmt32 a.toNat
/-- A binary32 word. -/
def f32n (n : Nat) : F32 := BitVec.ofNat 32 n

/-- Sum. -/
def fadd (a b : F32) : F32 := f32n (faddV fmt32 (up32 a) (up32 b))
/-- Negation, exact. -/
def fneg (a : F32) : F32 := a ^^^ 0x80000000#32
/-- Difference. -/
def fsub (a b : F32) : F32 := fadd a (fneg b)
/-- Product. -/
def fmul (a b : F32) : F32 := f32n (fvPack fmt32 (fmulV (up32 a) (up32 b)))
/-- Quotient. -/
def fdiv (a b : F32) : F32 := f32n (fdivV fmt32 (up32 a) (up32 b))
/-- a × b + c with one rounding. -/
def ffma (a b c : F32) : F32 := f32n (faddV fmt32 (fmulV (up32 a) (up32 b)) (up32 c))
/-- Square root. -/
def fsqrt (a : F32) : F32 := f32n (fsqrtV fmt32 (up32 a))
/-- Absolute value, exact. -/
def fabs (a : F32) : F32 := a &&& 0x7FFFFFFF#32
/-- a < b; false when either is not a number. -/
def flt (a b : F32) : Bool := (fltV (up32 a) (up32 b)).getD false
/-- a ≤ b; false when either is not a number. -/
def fle (a b : F32) : Bool := match fltV (up32 b) (up32 a) with | some x => !x | none => false
/-- a = b as numbers. -/
def feq (a b : F32) : Bool := fle a b && fle b a
/-- A subnormal read as zero of the same sign. -/
def fflush (a : F32) : F32 := if (a >>> 23) &&& 0xFF#32 = 0#32 then a &&& 0x80000000#32 else a
/-- min of 10 R310. -/
def fmin (a b : F32) : F32 := if fle a b then fflush a else fflush b
/-- max of 10 R310. -/
def fmax (a b : F32) : F32 := if fle b a then fflush a else fflush b
/-- An infinity or not a number. -/
def fbad (a : F32) : Bool := decide ((a >>> 23) &&& 0xFF#32 = 0xFF#32)
/-- Zero of either sign, a subnormal read as zero. -/
def fzero (a : F32) : Bool := decide ((a >>> 23) &&& 0xFF#32 = 0#32)
/-- f32(k): an integer to binary32. -/
def fofInt (i : Int) : F32 := f32n (fpackI fmt32 false i 0)
/-- An integer times a power of two, to binary32. -/
def fofScaled (i : Int) (e : Int) : F32 := f32n (fpackI fmt32 false i e)
/-- Nearest integer, saturated to a range; of not a number, 0. -/
def ftoInt (lo hi : Int) (a : F32) : Int :=
  match up32 a with
  | .nan => 0
  | .inf neg => if neg then lo else hi
  | .fin neg m e => if 200 < e then (if neg then lo else hi) else clampI lo hi (fvToInt neg m e)
/-- i32(x). -/
def fi32 (a : F32) : Int := ftoInt (-2147483648) 2147483647 a

/-! ### binary64 (03 R116) -/

/-- Unpack a binary64 word. -/
def up64 (a : F64) : Fv := funpack fmt64 a.toNat
/-- A binary64 word. -/
def f64n (n : Nat) : F64 := BitVec.ofNat 64 n
/-- Sum. -/
def dadd (a b : F64) : F64 := f64n (faddV fmt64 (up64 a) (up64 b))
/-- Negation. -/
def dneg (a : F64) : F64 := a ^^^ 0x8000000000000000#64
/-- Difference. -/
def dsub (a b : F64) : F64 := dadd a (dneg b)
/-- Product. -/
def dmul (a b : F64) : F64 := f64n (fvPack fmt64 (fmulV (up64 a) (up64 b)))
/-- Quotient. -/
def ddiv (a b : F64) : F64 := f64n (fdivV fmt64 (up64 a) (up64 b))
/-- a < b. -/
def dlt (a b : F64) : Bool := (fltV (up64 a) (up64 b)).getD false
/-- Absolute value. -/
def dabs (a : F64) : F64 := a &&& 0x7FFFFFFFFFFFFFFF#64
/-- An integer to binary64. -/
def dofInt (i : Int) : F64 := f64n (fpackI fmt64 false i 0)
/-- A quotient of two integers to binary64, one rounding; the divisor is above zero. -/
def dofRat (a : Int) (b : Nat) : F64 := f64n (fdivV fmt64 (.fin (decide (a < 0)) a.natAbs 0) (.fin false b 0))
/-- binary32 to binary64, exact. -/
def dofF32 (a : F32) : F64 :=
  match funpack ⟨24, 8, false⟩ a.toNat with
  | .nan => f64n (fnan fmt64)
  | .inf n => f64n (finf fmt64 n)
  | .fin n m e => f64n (fpack fmt64 n m e)
/-- Nearest integer, ties to even, within a range. -/
def dtoInt (lo hi : Int) (a : F64) : Int :=
  match up64 a with
  | .nan => 0
  | .inf neg => if neg then lo else hi
  | .fin neg m e => if 200 < e then (if neg then lo else hi) else clampI lo hi (fvToInt neg m e)

end Sys2Proof.Machine
end

