-- ==== Sys2Proof/Machine/Ops.lean ====
section
/-! DEFINITION. The operations that the chapters share: counters, the time-quality word, recording events with their
rate windows, shares of capacity, the journal, and taking a command from its queue through to its completion. -/
namespace Sys2Proof.Machine

/-! ### Places (00 R3, R4, R18) -/

/-- The variant has the die. -/
def hasDie (s : State) (d : Nat) : Bool := decide (d < Config.dies s.variant)
/-- The variant has the port 4 × die + port. -/
def hasPort (s : State) (p : Nat) : Bool := decide (p < Config.ports s.variant)
/-- The variant has the virtual function. -/
def hasVf (s : State) (v : Nat) : Bool := decide (v < Config.vfs s.variant)

/-! ### Counters (00 R15, R16) -/

/-- The value of a counter. -/
def cval (s : State) (c : Ctr) : U64 := tgetD s.counters c 0
/-- Count one more. -/
def bump (c : Ctr) (s : State) : State := { s with counters := tmod s.counters c 0 (· + 1) }
/-- Count `n` more. -/
def bumpBy (c : Ctr) (n : Nat) (s : State) : State :=
  { s with counters := tmod s.counters c 0 (· + BitVec.ofNat 64 n) }
/-- Raise a peak to a value. -/
def peak (c : Ctr) (n : Nat) (s : State) : State :=
  { s with counters := tmod s.counters c 0 (fun v => if v.toNat < n then BitVec.ofNat 64 n else v) }

/-! ### Time quality (03 R103, R105) -/

/-- Hold age in ticks of RAW. -/
def holdTicks (s : State) : Nat := match s.tim.holdAgeRaw with | some r => s.tim.raw - r | none => 0
/-- Hold age in whole seconds, 0 outside FROZEN, HOLDOVER and HOLDOVER_LIMIT (Table TIM-1). -/
def holdAge (s : State) : Nat :=
  match s.tim.state with
  | .frozen | .holdover | .holdoverLimit => holdTicks s / 500000000
  | _ => 0
/-- What the word is made of now. -/
def snapOf (t : TimSt) (time : MTime) : TqSnap :=
  { raw := t.raw, time, state := t.state, slewing := t.slewing, exA := t.lanA.excluded, exB := t.lanB.excluded,
    asym := t.asymUnverified, utc := t.utcValid, holdRaw := t.holdAgeRaw, e0 := t.e0, a := t.a,
    inacc := max t.lanA.gmInacc t.lanB.gmInacc + max t.lanA.netInacc t.lanB.netInacc }
/-- Estimated maximum error in ns, binary64, from the makings and a hold age in ticks (R105). -/
def errOf (th : ThreshParams) (q : TqSnap) (ticks : Nat) : F64 :=
  match q.state with
  | .frozen | .holdover | .holdoverLimit =>
    let t := dofRat ticks 500000000
    dadd (dadd q.e0 (dmul (dofF32 th.holdK1) t)) (dmul (dofF32 th.holdK2) (dmul t t))
  | _ => dadd (dadd q.a (dofInt q.inacc)) (dofInt 4)
/-- ERR_EST in units of 16 ns; 255 from 4,080 ns and when unknown. -/
def errUnits (th : ThreshParams) (q : TqSnap) (ticks : Nat) : Nat :=
  match q.state with
  | .freerun => 255
  | _ => match up64 (errOf th q ticks) with
    | .fin false m e => satN 255 ((if 0 ≤ e then m <<< e.toNat else m >>> (-e).toNat) / 16)
    | _ => 255
/-- STATE of the time-quality word (Table TIM-2). -/
def tqState : Tq → Nat
  | .locked => 0 | .frozen => 1 | .holdover => 2 | .holdoverLimit => 3 | .acquiring => 4 | .freerun => 5
/-- The time-quality word of its makings (Table TIM-2); SLEWING reads 1 only while the servo runs (log entry 13). -/
def wordOf (th : ThreshParams) (q : TqSnap) (ticks : Nat) : Nat :=
  errUnits th q ticks * 256 + bbit q.utc 7 + bbit (q.slewing && decide (q.state = .locked ∨ q.state = .acquiring)) 6
    + bbit q.exB 5 + bbit q.exA 4 + bbit q.asym 3 + tqState q.state
/-- Estimated maximum error now in ns (R105). -/
def errNs (s : State) : F64 := errOf s.cfg.thresh (snapOf s.tim (now s)) (holdTicks s)
/-- The time-quality word now. -/
def tqWord (s : State) : Nat := wordOf s.cfg.thresh (snapOf s.tim (now s)) (holdTicks s)
/-- The time-quality word at an earlier module time (R106): from what it was made of then, the hold age in module time since
(log entry 119); 0xFF05 before the first change since power good. -/
def tqWordAt (s : State) (t : MTime) : Nat :=
  match s.tim.tqLog.find? (fun e => mle e.time t) with
  | some q =>
    let since := ((munits t - munits q.time) / (2 * two32)).toNat
    wordOf s.cfg.thresh q (match q.holdRaw with | some r => q.raw + since - r | none => 0)
  | none => if s.tim.tqLog.isEmpty then tqWord s else 0xFF05
/-- Keep what the word is made of from here on, where it has changed (R106). -/
def noteQuality (s : State) : State :=
  let q := snapOf s.tim (now s)
  match s.tim.tqLog with
  | e :: _ => if { e with raw := q.raw, time := q.time } = q then s else { s with tim := { s.tim with tqLog := q :: s.tim.tqLog } }
  | [] => { s with tim := { s.tim with tqLog := [q] } }

/-! ### Recording events (16) -/

/-- The capacity of the staging buffer; the record in write stands before it (R486). -/
def stageCap : Nat := 65536
/-- Records in the staging buffer, EVR_STAGE (Table EVR-4). -/
def stagedCount (s : State) : Nat := s.evr.staging.length - 1
/-- The staging buffer has no room. -/
def stageFull (s : State) : Bool := decide (stageCap < s.evr.staging.length)

/-- The stamp of an event: its own, or module time now (R482). -/
def stampOf (s : State) (e : Event) : MTime := e.stamp.getD (now s)

/-- The time-quality word of an event: at its own stamp, or now (Table EVR-1, 03 R103). -/
def flagsOf (s : State) (e : Event) : Nat := match e.stamp with | some t => tqWordAt s t | none => tqWord s
/-- The record of an event with the next SEQ (R480, R484). -/
def recordFor (s : State) (e : Event) : EvRec :=
  let t := stampOf s e
  { seq := s.evr.next, sec := t.sec, ns := t.ns, flags := flagsOf s e,
    epoch := if s.cfg.pair.mode = 1 then 0 else s.pair.epoch, side := s.pair.side, ev := { e with stamp := none } }

/-- Enter one event, or lose it when the staging buffer is full; a run of losses keeps the module time of its first and of its last
(R484, R486). -/
def recordEvent (e : Event) (s : State) : State :=
  if stageFull s then
    let t := now s
    let run := match s.evr.lossRun with | none => (t, 1, t.sec) | some (f, n, _) => (f, n + 1, t.sec)
    bump .evrLost { s with evr := { s.evr with lossRun := some run } }
  else
    let s1 := { s with evr := { s.evr with staging := s.evr.staging ++ [recordFor s e], next := s.evr.next + 1 } }
    peak .evrStagePeak (stagedCount s1) s1

/-- An event of package level (R481). -/
def evPkg (code p1 p2 p3 obj : Nat) : Event := ⟨code, p1, p2, p3, 4, ⟨0, 0, 0⟩, 0, obj % 65536, none⟩
/-- An event of die level (R481). -/
def evDie (code p1 p2 p3 die obj : Nat) : Event := ⟨code, p1, p2, p3, 3, ⟨die, 0, 0⟩, 0, obj % 65536, none⟩
/-- An event of region level. -/
def evRegion (code p1 p2 p3 region obj : Nat) : Event :=
  ⟨code, p1, p2, p3, 2, ⟨region / 4, region % 4, 0⟩, 0, obj % 65536, none⟩
/-- An event of cluster level. -/
def evCluster (code p1 p2 p3 : Nat) (l : Loc) (obj : Nat) : Event := ⟨code, p1, p2, p3, 1, l, 0, obj % 65536, none⟩
/-- An event of system level (R481). -/
def evSys (code p1 p2 p3 obj : Nat) : Event := ⟨code, p1, p2, p3, 5, ⟨0, 0, 0⟩, 0, obj % 65536, none⟩
/-- An event with its own stamp (R482). -/
def evAt (t : MTime) (e : Event) : Event := { e with stamp := some t }
/-- Signed value over a whole parameter (R483). -/
def ps (i : Int) : Nat := twos 64 i

/-- A parity error on a die: counted per storage kind, and recorded with its place (01 R44). The kinds are those of 01 Table ARC-3 in
its order, the two rows of the state store being one, then the switch tables and the logic processors. No table gives the event
a code or parameters: they are free (log entry 133). -/
def parityError (kind level : Nat) (l : Loc) (obj : Nat) (s : State) : State :=
  let f (i : Nat) : Nat := Config.parityEvent kind i
  recordEvent ⟨f 0 % 65536, f 1 % 2 ^ 64, f 2 % 2 ^ 64, f 3 % 2 ^ 64, level, l, 0, obj % 65536, none⟩ (bump (.parity kind l.die) s)

/-- Record an event of package level whose first parameter names no object. -/
def raise (code p1 p2 p3 : Nat) (s : State) : State := recordEvent (evPkg code p1 p2 p3 0) s
/-- Record an event of package level about the object that its first parameter names (R481). -/
def raiseObj (code p1 p2 p3 : Nat) (s : State) : State := recordEvent (evPkg code p1 p2 p3 p1) s

/-- The window open for a code and object (R600). -/
def findWindow (s : State) (code obj : Nat) : Option Window :=
  s.evr.windows.find? (fun w => w.code == code && w.obj == obj)

/-- The event of a counting window: its count in the parameter that its table names. -/
def countedEvent (w : Window) : Option Event :=
  let e := { w.first with stamp := none }
  match w.code with
  | 0x0A03 => some { e with p1 := w.count }
  | 0x0302 | 0x0403 | 0x0404 | 0x0503 => some { e with p2 := w.count }
  | 0x0707 | 0x1004 => some { e with p2 := w.count, p3 := w.extra }
  | 0x0B03 | 0x0B05 => some { e with p3 := w.count }
  | _ => none
/-- 1 s of RAW has passed since the window opened. -/
def windowOver (s : State) (w : Window) : Bool := decide (w.openRaw + rawSec 1 ≤ s.tim.raw)
/-- The window closes, and a counting event is recorded. -/
def closeWindow (w : Window) (s : State) : State :=
  let s1 := { s with evr := { s.evr with windows := s.evr.windows.filter (fun x => !(x.code == w.code && x.obj == w.obj)) } }
  match countedEvent w with
  | some e => recordEvent e s1
  | none => s1
/-- A window whose second has passed closes before an occurrence is judged. -/
def closeOver (code obj : Nat) (s : State) : State :=
  match findWindow s code obj with
  | some w => if windowOver s w then closeWindow w s else s
  | none => s

/-- A rate-limited event that carries no count: recorded at the occurrence that opens the window (R600). -/
def raiseLimited (obj : Nat) (e : Event) (s0 : State) : State :=
  let s := closeOver e.code obj s0
  match findWindow s e.code obj with
  | some _ =>
    { s with evr := { s.evr with windows := s.evr.windows.map (fun w =>
        if w.code == e.code && w.obj == obj then { w with count := w.count + 1 } else w) } }
  | none =>
    let s1 := recordEvent e s
    { s1 with evr := { s1.evr with windows := s1.evr.windows ++ [⟨e.code, obj, s1.tim.raw, 1, e, 0⟩] } }

/-- A counting event: counted in its window and recorded when the window closes; `extra` keeps a greatest value (R600). -/
def raiseCounting (obj n extra : Nat) (e : Event) (s0 : State) : State :=
  let s := closeOver e.code obj s0
  match findWindow s e.code obj with
  | some _ =>
    { s with evr := { s.evr with windows := s.evr.windows.map (fun w =>
        if w.code == e.code && w.obj == obj then { w with count := w.count + n, extra := max w.extra extra } else w) } }
  | none =>
    { s with evr := { s.evr with windows := s.evr.windows ++ [⟨e.code, obj, s.tim.raw, n, e, extra⟩] } }

/-! ### Switched domains (19 R565, R566) -/

/-- State of a domain, and RAW of its entry. -/
def domainSt (s : State) (die dom : Nat) : Nat × Nat := tgetD s.pwr.domains (die, dom) (0, 0)
/-- The volatile slots of KENNEL are cleared when the security domain of die 0 wakes after a trip in RETAIN (17 R527). -/
def wakeKeys (die dom st : Nat) (s : State) : State :=
  if die = 0 ∧ dom = 11 ∧ st = 0 ∧ s.key.pendTamperEvent = true ∧ s.key.tripped = true then { s with key := { s.key with slots := [] } } else s
/-- A domain takes a state; the time in the old one is counted in ns (Table PWR-7). -/
def setDomain (die dom st : Nat) (s : State) : State :=
  let x := domainSt s die dom
  let s1 := wakeKeys die dom st (bumpBy (.pwrResid die dom x.1) (2 * (s.tim.raw - x.2)) s)
  { s1 with pwr := { s1.pwr with domains := tset s1.pwr.domains (die, dom) (st, s.tim.raw) } }
/-- An object comes to a domain: one deeper than IDLE goes ON (19 R565, R568). -/
def hostDomain (die dom : Nat) (s : State) : State :=
  if 2 ≤ (domainSt s die dom).1 then bump (.pwrWake die dom) (setDomain die dom 0 s) else s
/-- A node or task comes to a region: its compute and its memory domain host it. -/
def hostRegion (l : Loc) (s : State) : State := hostDomain l.die (4 + l.region) (hostDomain l.die l.region s)
/-- A domain wakes (Table PWR-7). -/
def wakeDomain (die dom : Nat) (s : State) : State := bump (.pwrWake die dom) (setDomain die dom 0 s)

/-! ### Shares of capacity (15 R462 to R464) -/

/-- The state of a VF; OFF where not listed. -/
def vfSt (s : State) (v : Nat) : VfSt := tgetD s.vfn.vfs v {}
/-- The VF exists (R457). -/
def vfExists (s : State) (v : Nat) : Bool := s.vfn.vfEnable && decide (v < s.vfn.numVfs)
/-- The function is the PF, or a VF that exists. -/
def funcExists (s : State) (f : Nat) : Bool := f == 0 || vfExists s (f - 1)
/-- A command that names a VF while it is RESETTING is busy (15 R471). -/
def funcBusy (func : Nat) (s : State) : Bool := func != 0 && decide ((vfSt s (func - 1)).admission = .resetting)
/-- The capacity C of a resource (Table VFN-1). -/
def capacity (s : State) (r : Nat) : Nat :=
  let d := Config.dies s.variant
  match r with
  | 0 => 32 * d * 12800000000 * s.cfg.placeLimit / 1000
  | 1 => 4 * d * 4096
  | 2 => 16384
  | _ => 65536
/-- N, the VFs that are not OFF (R462). -/
def vfCount (s : State) : Nat := (s.vfn.vfs.filter (fun e => decide (e.2.o.obj ≠ .off))).length
/-- The floor of a resource for a count of VFs (R462). -/
def floorFor (s : State) (fraction n r : Nat) : Nat := if n = 0 then 0 else capacity s r * fraction / (1000 * n)
/-- The floor of a resource (R462). -/
def vfFloor (s : State) (r : Nat) : Nat := floorFor s s.cfg.fraction (vfCount s) r
/-- The grants of a resource in force over all VFs. -/
def grantSum (s : State) (r : Nat) : Nat := sumN (s.vfn.vfs.map (fun e => nth e.2.grants r 0))
/-- The PF's remainder (R463), or a VF's share: floor and grant. -/
def share (s : State) (func r : Nat) : Nat :=
  if func = 0 then capacity s r - vfCount s * vfFloor s r - grantSum s r
  else if (vfSt s (func - 1)).o.obj = .off then 0
  else vfFloor s r + nth (vfSt s (func - 1)).grants r 0
/-- The staging area of a function (02 R75). -/
def staged (s : State) (func : Nat) : List Staged := tgetD s.cmd.staging func []
/-- Queue entries in use by a function (Table VFN-1). -/
def queueUse (s : State) (func : Nat) : Nat :=
  (s.cmd.outst.filter (fun o => o.func == func && o.done.isNone)).length + (staged s func).length
/-- Buffer cells that a packet needs: its parameter block and its output (Table VFN-1). -/
def cellsFor (load : Bool) (pblk out : Nat) : Nat :=
  let c := (pblk + 4095) / 4096 + (out + 4095) / 4096
  if load then min 64 c else c

/-! ### Statuses (Table CMD-6) -/

/-- ST_OK. -/
def stOk : Nat := 0x00
/-- ST_PENDING. -/
def stPending : Nat := 0x01
/-- ST_LATE. -/
def stLate : Nat := 0x02
/-- ST_NOT_SUPPORTED. -/
def stNotSupported : Nat := 0x10
/-- ST_DENIED. -/
def stDenied : Nat := 0x11
/-- ST_TAMPER. -/
def stTamper : Nat := 0x12
/-- ST_GEN_MISMATCH. -/
def stGenMismatch : Nat := 0x13
/-- ST_QUEUE_FULL. -/
def stQueueFull : Nat := 0x14
/-- ST_BUSY. -/
def stBusy : Nat := 0x15
/-- ST_PAST. -/
def stPast : Nat := 0x16
/-- ST_FAILED. -/
def stFailed : Nat := 0x1F

/-! ### The journal (02 R88 to R91) -/

/-- Entries of the journal ring. -/
def jnlSize : Nat := 131072

/-- Kind of an opcode (Table CMD-5). -/
def isConfig (op : Nat) : Bool := decide (op % 256 < 0x40)
/-- READ kind (Table CMD-5). -/
def isRead (op : Nat) : Bool := decide (0x80 ≤ op % 256)
/-- The command is journalled (R74). -/
def journalled (op : Nat) (h : Hdr) : Bool := !(isRead op && h.nojournal)

/-- Write the entry with ACCEPT (R89). -/
def jnlAccept (op : Nat) (h : Hdr) (s : State) : State :=
  let seq := s.cmd.jnlNext
  let e : JEntry :=
    { seq, gen := s.cmd.gen, tag := h.tag, opcode := op, func := h.func, qp := h.qp,
      jflags := bbit h.strict 0 + bbit h.genchk 1 + bbit (decide (0 < h.pblkLen)) 2, status := 0xFF, accept := 0xA5, done := 0 }
  { s with cmd := { s.cmd with jnl := tset s.cmd.jnl (seq % jnlSize) e, jnlNext := seq + 1,
                               jnlOldest := max s.cmd.jnlOldest (seq + 1 - jnlSize) } }

/-- Write STATUS and DONE (R90). -/
def jnlDone (seq st : Nat) (s : State) : State :=
  match tget s.cmd.jnl (seq % jnlSize) with
  | some e => if e.seq = seq then
      { s with cmd := { s.cmd with jnl := tset s.cmd.jnl (seq % jnlSize) { e with status := st, done := 0x5A } } } else s
  | none => s

/-! ### Completions (02 R64 to R67, R70) -/

/-- Unreleased completions of a queue pair. -/
def unreleased (s : State) (f q : Nat) : Nat := (s.cmd.cpls.filter (fun c => c.func == f && c.qp == q)).length
/-- Packets of a queue pair taken and not posted. -/
def takenCount (s : State) (f q : Nat) : Nat := (s.cmd.outst.filter (fun o => o.func == f && o.qp == q)).length

/-- Raise an MSI-X vector (R70). -/
def msixRaise (f v : Nat) (s : State) : State := { s with cmd := { s.cmd with msix := tmod s.cmd.msix (f, v) 0 (· + 1) } }

/-- Post one completion: write it, advance the tail with PHASE, and signal as R70 gives. -/
def postCompletion (o : Outst) (st : Nat) (res : Result) (s : State) : State :=
  match tget s.cmd.qps (o.func, o.qp) with
  | none => s
  | some q =>
    let c : Completion := ⟨o.func, o.qp, o.tag, st, q.phase, o.opcode, o.jseq, res⟩
    let tail := (q.cqTail + 1) % 2 ^ q.cqLog2
    let un := q.unsignalled + 1
    let fire := decide (q.coalCount ≤ un)
    let q1 := { q with cqTail := tail, phase := if tail = 0 then !q.phase else q.phase,
                       unsignalled := if fire then 0 else un,
                       firstUnsig := if q.unsignalled = 0 then s.tim.raw else q.firstUnsig }
    let s1 := { s with cmd := { s.cmd with cpls := s.cmd.cpls ++ [c], qps := tset s.cmd.qps (o.func, o.qp) q1 } }
    if fire then msixRaise o.func q.vector s1 else s1

/-- Bus Master Enable of a function (15 R461). -/
def busMasterOn (s : State) (f : Nat) : Bool := tgetD s.cmd.busMaster f true
/-- Post what can be posted, each queue in ring order: a packet not completed holds those behind it (R64), and so does a function whose
Bus Master Enable is 0 (15 R461). -/
def postReady : List Outst → List (Nat × Nat) → State → State
  | [], _, s => s
  | o :: l, blocked, s =>
    if blocked.contains (o.func, o.qp) then
      postReady l blocked { s with cmd := { s.cmd with outst := s.cmd.outst ++ [o] } }
    else match o.done with
      | some (st, res) => if busMasterOn s o.func then postReady l blocked (postCompletion o st res s)
          else postReady l ((o.func, o.qp) :: blocked) { s with cmd := { s.cmd with outst := s.cmd.outst ++ [o] } }
      | none => postReady l ((o.func, o.qp) :: blocked) { s with cmd := { s.cmd with outst := s.cmd.outst ++ [o] } }

/-- Post every completion whose turn has come. -/
def flushOutst (s : State) : State := postReady s.cmd.outst [] { s with cmd := { s.cmd with outst := [] } }

/-- Complete a command that was taken and has waited (R82, R90). -/
def completeCmd (jseq st : Nat) (res : Result) (s : State) : State :=
  let s1 := jnlDone jseq st s
  flushOutst { s1 with cmd := { s1.cmd with outst := s1.cmd.outst.map (fun o =>
    if o.jseq == jseq && o.done.isNone then { o with done := some (st, res) } else o) } }

/-! ### Serving a packet (02 R68, R81, R82, R89) -/

/-- What the effect of an accepted command answers: its status, result and state, or that it waits. -/
inductive OpRes where
  | done (st : Nat) (res : Result) (s : State)
  | wait (s : State)

/-- Done with ST_OK and no result. -/
def okRes (s : State) : OpRes := .done stOk 0 s
/-- Refused after acceptance with a status. -/
def failRes (st : Nat) (s : State) : OpRes := .done st 0 s

/-- A packet as the package controller sees it: its header, its opcode, and what its chapter says of it. -/
structure Packet where
  h : Hdr
  opcode : Nat
  /-- A VF issuing it is denied. -/
  pfOnly : Bool
  /-- It names a part that the variant lacks (R4, R5). -/
  unsupported : State → Bool := fun _ => false
  /-- Further causes of ST_DENIED. -/
  denied : State → Bool := fun _ => false
  /-- It needs a key, or belongs to the keys class (17 R526). -/
  needsKey : State → Bool := fun _ => false
  /-- A restricted module serves it although it is not READ kind (17 R529). -/
  restrictedOk : Bool := false
  /-- It waits for the restore of the configuration (19 R572). -/
  busyBefore : Bool := false
  /-- It stages a setting that finds no room (R82: checked after acceptance, before ST_BUSY). -/
  noRoom : State → Bool := fun _ => false
  /-- Bytes of output, for the buffer cells. -/
  outBytes : Nat := 0
  /-- It streams an image through the cells (Table VFN-1). -/
  isLoad : Bool := false
  /-- Its failure itself acts (R83). -/
  failActs : Bool := false
  /-- What it does once accepted, given its journal sequence. -/
  eff : Nat → State → OpRes

/-- The acceptance checks in their order (R82): the failing status, if any. -/
def acceptCheck (p : Packet) (s : State) : Option Nat :=
  if p.unsupported s then some stNotSupported
  else if (p.pfOnly && decide (p.h.func ≠ 0)) || p.denied s then some stDenied
  else if (s.key.restricted && !(isRead p.opcode || p.restrictedOk)) || (s.key.tripped && p.needsKey s) then some stTamper
  else if p.h.genchk && decide (p.h.expGen ≠ s.cmd.gen) then some stGenMismatch
  else if decide (share s p.h.func 2 < queueUse s p.h.func + 1) then some stQueueFull
  else if decide (share s p.h.func 3 < tgetD s.vfn.cells p.h.func 0 + cellsFor p.isLoad p.h.pblkLen p.outBytes) then
    some stQueueFull
  else none

/-- A share refusal of a VF is counted (Table VFN-6). -/
def countRefusal (p : Packet) (st : Nat) (s : State) : State :=
  if st = stQueueFull ∧ p.h.func ≠ 0 then bump (.vfn (p.h.func - 1) 0) s else s

/-- A CONFIG-kind command that finds its function's staging share full after acceptance is counted too (Table VFN-2). -/
def countStageRefusal (p : Packet) (st : Nat) (s : State) : State := if isConfig p.opcode then countRefusal p st s else s

/-- The effect of an accepted packet: ST_QUEUE_FULL for a full staging area (R82), then ST_BUSY before the restore where 19 R572
says so. -/
def runEff (p : Packet) (jseq : Nat) (s : State) : OpRes :=
  if p.noRoom s then failRes stQueueFull s
  else if p.busyBefore && !s.pwr.restored then failRes stBusy s else p.eff jseq s

/-- Push a taken packet with its completion, and post what can be posted. -/
def pushDone (p : Packet) (jseq st : Nat) (res : Result) (s : State) : State :=
  flushOutst { s with cmd := { s.cmd with outst := s.cmd.outst ++
    [⟨p.h.func, p.h.qp, p.h.tag, p.opcode, jseq, some (st, res)⟩] } }

/-- Serve a packet that has been taken: acceptance, effect, DONE, completion. A status of 0x10 or above has changed
nothing but for the commands that R83 names; a VF's refusal for its share is counted. -/
def serve (p : Packet) (s : State) : State :=
  match acceptCheck p s with
  | some st => pushDone p 0 st 0 (countRefusal p st s)
  | none =>
    let j := journalled p.opcode p.h
    let seq := if j then s.cmd.jnlNext else 0
    let s1 := if j then jnlAccept p.opcode p.h s else s
    match runEff p seq s1 with
    | .done st res s2 =>
      let s3 := if st < 0x10 || p.failActs then s2 else countStageRefusal p st s1
      pushDone p seq st res (if j then jnlDone seq st s3 else s3)
    | .wait s2 => { s2 with cmd := { s2.cmd with outst := s2.cmd.outst ++ [⟨p.h.func, p.h.qp, p.h.tag, p.opcode, seq, none⟩] } }

/-- The function's queues are served: the PF, or a VF that is ON and OPEN (15 R458). -/
def funcServed (s : State) (f : Nat) : Bool :=
  f == 0 || (decide ((vfSt s (f - 1)).o.obj = .on) && decide ((vfSt s (f - 1)).admission = .open_))
/-- Queue pair 0 registers of a function. -/
def aqOf (s : State) (f : Nat) : Aq := tgetD s.cmd.aq f {}

/-- A packet of the queue pair can be taken now (02 R61, R63, R67; 15 R458, R461). -/
def canTake (s : State) (f q : Nat) : Bool :=
  match tget s.cmd.qps (f, q) with
  | none => false
  | some qp =>
    decide (s.pwr.phase = .running) && s.cmd.ready && (q != 0 || (aqOf s f).en) && busMasterOn s f && funcServed s f
      && decide (unreleased s f q + takenCount s f q < 2 ^ qp.cqLog2)

/-- Packets waiting in a submission queue. -/
def ringWaiting (qp : Qp) : Nat := (qp.sqTail + 2 ^ qp.sqLog2 - qp.sqHead) % 2 ^ qp.sqLog2

/-- A doorbell of the queue pair is heard: the pair is enabled or created and its function is not a VF outside ON
(02 R96, 15 R458). -/
def heard (s : State) (f q : Nat) : Bool :=
  thas s.cmd.qps (f, q) && (q != 0 || (aqOf s f).en) && (f == 0 || decide ((vfSt s (f - 1)).o.obj = .on))

/-- Take a packet from the head of its ring and serve it. -/
def takeServe (p : Packet) (s : State) : State :=
  match tget s.cmd.qps (p.h.func, p.h.qp) with
  | none => s
  | some qp => serve p { s with cmd := { s.cmd with
      qps := tset s.cmd.qps (p.h.func, p.h.qp) { qp with sqHead := (qp.sqHead + 1) % 2 ^ qp.sqLog2 }
      rrLast := (p.h.func, p.h.qp) } }

/-- Submit a packet at its ring's tail: it is served at once when its queue can be served and holds no packet before it,
and waits in the ring otherwise (02 R64, R67, R68). A packet for a pair that is not there is not heard (R96). DESIGN CHOICE (log
entry 142): a ring of 2^SQ_LOG2 entries holds one packet less than that, waiting or uncompleted, and one more is not heard. -/
def submit (i : Instr) (p : Packet) (s : State) : State :=
  match tget s.cmd.qps (p.h.func, p.h.qp) with
  | none => s
  | some qp =>
    if !heard s p.h.func p.h.qp then s
    else if 2 ^ qp.sqLog2 ≤ ringWaiting qp + takenCount s p.h.func p.h.qp + 1 then s
    else
      let wasEmpty := ringWaiting qp == 0
      let s1 := { s with cmd := { s.cmd with
        qps := tset s.cmd.qps (p.h.func, p.h.qp) { qp with sqTail := (qp.sqTail + 1) % 2 ^ qp.sqLog2 } } }
      if wasEmpty && canTake s p.h.func p.h.qp then takeServe p s1
      else { s1 with cmd := { s1.cmd with held := s1.cmd.held ++ [i] } }

/-- Bytes of a result: value at a byte offset. -/
def resB (off v : Nat) : Result := BitVec.ofNat 128 (v <<< (8 * off))

/-! ### Staging (02 R75) -/

/-- A function's staging area has no room for one more setting within its share of queue entries (15 Table VFN-2): the command
itself still holds its entry, and what it stages needs another (02 R82). DEDUCED (log entry 118). -/
def noStageRoom (func : Nat) (s : State) : Bool := decide (share s func 2 < queueUse s func + 2)
/-- Add a setting to the issuing function's staging area. One that a later command replaces stays in the area, though it has no
effect any more (R75): DESIGN CHOICE (log entry 141). -/
def stageRes (h : Hdr) (jseq op : Nat) (x : Setting) (s : State) : OpRes :=
  okRes { s with cmd := { s.cmd with staging := tset s.cmd.staging h.func (staged s h.func ++ [⟨jseq, op, if h.pblkLen = 0 then 64 else 16 + h.pblkLen, x⟩]) } }

/-- The packet of a CONFIG-kind command: range check, then staging (02 R75). -/
def configPacket (h : Hdr) (op : Nat) (inRange : State → Bool) (x : Setting) : Packet :=
  { h, opcode := op, pfOnly := true, busyBefore := true, noRoom := noStageRoom h.func,
    eff := fun j s => if inRange s then stageRes h j op x s else failRes stFailed s }

/-- What the module writes to a host buffer at an address, under the function's own requester ID (02 R72, 15 R461). -/
def hostWrite (func buf : Nat) (d : Bytes) (s : State) : State :=
  { s with cmd := { s.cmd with hostOut := tset s.cmd.hostOut (Config.requester func, buf) d } }

/-! ### Free values -/

/-- The next free value, below a bound, and the state that has drawn it. -/
def freeNat (bound : Nat) (s : State) : Nat × State := (Config.freeValue s.free % bound, { s with free := s.free + 1 })

/-! ### Periodic work and the admission record -/

/-- A period has passed since the last time, or there was none. -/
def periodOver (s : State) (last : Option Nat) (ticks : Nat) : Bool :=
  match last with | some r => decide (r + ticks ≤ s.tim.raw) | none => true
/-- Periodic work of a kind on a unit: nothing before its period has passed. Kinds 0 health report, 1 golden vector, 2 cluster
self-test, 3 eye of a port, 4 eye of a lane, 5 LEASH loopback, 6 known-answer tests, 7 consolidation, 8 die skew exchange, 9 a record of the event recorder,
10 the cell, 11 temperatures, 12 the input, 13 and 14 re-masks of a slot's volatile keys and of its PERSIST key. DESIGN
CHOICE (log entry 138). -/
def every (kind unit ticks : Nat) (f : State → State) (s : State) : State :=
  if periodOver s (tget s.pair.lastRun (kind, unit)) ticks then
    f { s with pair := { s.pair with lastRun := tset s.pair.lastRun (kind, unit) s.tim.raw } }
  else s
/-- Enter a GOOSE message or a command into the admission record of the cycle (14 R434). -/
def noteAdmit (x : AdmitItem) (s : State) : State := { s with pair := { s.pair with admitOther := s.pair.admitOther ++ [x] } }

/-- A mirrored object is written, whatever the value: its dirty bit is set (14 R435). -/
def noteWritten (k : PageKey) (s : State) : State :=
  if s.pair.written.contains k then s else { s with pair := { s.pair with written := s.pair.written ++ [k] } }

/-! ### Health flags (14 Table PAIR-9) -/

/-- Set a bit of the health flags. -/
def setFlag (bit : Nat) (on : Bool) (s : State) : State :=
  { s with pair := { s.pair with flags := if on then s.pair.flags ||| (1#32 <<< bit) else s.pair.flags &&& ~~~(1#32 <<< bit) } }

end Sys2Proof.Machine
end

