-- ==== Sys2Proof/Machine/Objects.lean ====
section
/-! DEFINITION. Enable-able objects: what an enable and a disable do by state (09 Table GRF-6), and the ends of STARTING
and DRAINING (09 R292, R293). -/
namespace Sys2Proof.Machine

/-- What follows a change of an object's state. -/
inductive ObjAct where
  | nothing | start | drain | cancel
  deriving DecidableEq, Repr, Inhabited

/-- Enable (Table GRF-6): the new state, the status, and what follows. -/
def objEnable (o : ObjSt) : ObjSt × Nat × ObjAct :=
  match o.obj with
  | .off => ({ o with obj := .starting, drainBooked := false, enPending := false }, stOk, .start)
  | .starting => if o.drainBooked then ({ o with drainBooked := false }, stOk, .cancel) else (o, stOk, .nothing)
  | .on => (o, stOk, .nothing)
  | .draining => ({ o with enPending := true }, stPending, .nothing)

/-- Disable (Table GRF-6). -/
def objDisable (o : ObjSt) : ObjSt × Nat × ObjAct :=
  match o.obj with
  | .off => (o, stOk, .nothing)
  | .starting => if o.drainBooked then (o, stOk, .nothing) else ({ o with drainBooked := true }, stOk, .nothing)
  | .on => ({ o with obj := .draining }, stOk, .drain)
  | .draining => if o.enPending then ({ o with enPending := false }, stOk, .cancel) else (o, stOk, .nothing)

/-- Enable or disable by the flag of the command. -/
def objChange (enable : Bool) (o : ObjSt) : ObjSt × Nat × ObjAct := if enable then objEnable o else objDisable o

/-- STARTING ends: ON, or DRAINING when a drain is booked (Table GRF-6). -/
def objStarted (o : ObjSt) : ObjSt × ObjAct :=
  if o.drainBooked then ({ o with obj := .draining, drainBooked := false }, .drain) else ({ o with obj := .on }, .nothing)

/-- DRAINING ends: OFF, or STARTING at once when an enable is pending (R293). -/
def objDrained (o : ObjSt) : ObjSt × ObjAct :=
  if o.enPending then ({ obj := .starting }, .start) else ({}, .nothing)

/-- OBJ as a number. -/
def objNum : Obj → Nat
  | .off => 0 | .starting => 1 | .on => 2 | .draining => 3

/-- EV_PENDING_CANCEL (Table GRF-12): class byte and object, journal sequence of the cancelling command. -/
def evCancel (cls obj jseq : Nat) (s : State) : State := recordEvent (evPkg 0x0703 (cls + obj * 256) jseq 0 obj) s
/-- EV_PENDING_START (Table GRF-12). -/
def evStart (cls obj : Nat) (s : State) : State := recordEvent (evPkg 0x0702 (cls + obj * 256) (now s).sec 0 obj) s

end Sys2Proof.Machine
end

