-- ==== Sys2Proof/Machine/Rtc.lean ====
section
/-! DEFINITION. The calendar clock of the backup domain: its calendar, its counting with TRIM, its conversion to MTIME,
loads and the alarm (18 R540 to R555). -/
namespace Sys2Proof.Machine

/-- Leap years (18 R541). -/
def leapYear (y : Nat) : Bool := y % 4 == 0 && (y % 100 != 0 || y % 400 == 0)
/-- Days of a month (18 R541). -/
def monthDays (y m : Nat) : Nat :=
  match m with
  | 2 => if leapYear y then 29 else 28
  | 4 | 6 | 9 | 11 => 30
  | _ => 31

/-- Days from 1970-01-01 to a date from March 1 of the year 0 on (18 R544). -/
def dayNumber (y m d : Nat) : Nat :=
  let y1 := if m ≤ 2 then y - 1 else y
  let mp := (m + 9) % 12
  y1 * 365 + y1 / 4 - y1 / 100 + y1 / 400 + (153 * mp + 2) / 5 + (d - 1) - 719468

/-- The date of a day number from 1970-01-01. -/
def dateOfDays (n : Nat) : Nat × Nat × Nat :=
  let z := n + 719468
  let era := z / 146097
  let doe := z % 146097
  let yoe := (doe - doe / 1460 + doe / 36524 - doe / 146096) / 365
  let doy := doe - (365 * yoe + yoe / 4 - yoe / 100)
  let mp := (5 * doy + 2) / 153
  let d := doy - (153 * mp + 2) / 5 + 1
  let m := if mp < 10 then mp + 3 else mp - 9
  (yoe + era * 400 + (if m ≤ 2 then 1 else 0), m, d)

/-- A valid date of 18 R547. -/
def dateValid (c : Calendar) : Bool :=
  decide (2000 ≤ c.year ∧ c.year ≤ 2399 ∧ 1 ≤ c.month ∧ c.month ≤ 12 ∧ 1 ≤ c.day ∧ c.day ≤ monthDays c.year c.month
    ∧ c.hour ≤ 23 ∧ c.min ≤ 59 ∧ c.sec ≤ 59 ∧ c.subsec ≤ 32767)

/-- Seconds of a calendar value from 1970-01-01. -/
def calSecs (c : Calendar) : Nat := dayNumber c.year c.month c.day * 86400 + c.hour * 3600 + c.min * 60 + c.sec
/-- Ticks of a calendar value from 1970-01-01. -/
def calTicks (c : Calendar) : Nat := calSecs c * 32768 + c.subsec
/-- Where a calendar value stands against an alarm's whole second: all of an inserted second 60 comes before the next 00:00:00 (18
R543, R553). -/
def calPlace (c : Calendar) : Nat := calTicks (if c.sec = 60 then { c with sec := 59, subsec := 32767 } else c)
/-- The calendar value of a count of ticks. -/
def calOfTicks (t : Nat) : Calendar :=
  let s := t / 32768
  let (y, m, d) := dateOfDays (s / 86400)
  ⟨y, m, d, s % 86400 / 3600, s % 3600 / 60, s % 60, t % 32768⟩

/-- The last value, at which the RTC holds (18 R542). -/
def calLast : Calendar := ⟨2399, 12, 31, 23, 59, 59, 32767⟩

/-- Advance a calendar value by ticks; an inserted second 60 is followed by 00:00:00 (18 R543). -/
def calAdvance (c : Calendar) (n : Nat) : Calendar :=
  let v :=
    if c.sec = 60 then
      (if c.subsec + n < 32768 then { c with subsec := c.subsec + n }
       else calOfTicks (dayNumber c.year c.month c.day * 86400 * 32768 + 86400 * 32768 + (c.subsec + n - 32768)))
    else calOfTicks (calTicks c + n)
  if calTicks calLast ≤ calTicks v then calLast else v

/-- 1/128 RAW ticks in a tick of the backup oscillator: 500,000,000 × 128 / 32,768. -/
def tickUnits : Nat := 1953125

/-- Oscillator ticks since the RTC was brought up to date; none while it is halted. The oscillator runs at its nominal
rate against RAW (log entry 20). -/
def rtcTicks (s : State) : Nat := if s.bkd.halted then 0 else (s.tim.raw * 128 - s.bkd.rtcRaw) / tickUnits

/-- Ticks counted over a number of oscillator ticks, with the accumulator of TRIM (18 R550): the count and the new value. -/
def trimCount (b : BkdSt) (n : Nat) : Nat × Nat :=
  let tot := b.trimAcc + n * b.trim.natAbs
  let k := tot / 33554432
  (if 0 ≤ b.trim then n + k else n - k, tot % 33554432)

/-- The RTC now. -/
def rtcNow (s : State) : Calendar :=
  if s.bkd.halted then s.bkd.rtc else calAdvance s.bkd.rtc (trimCount s.bkd (rtcTicks s)).1

/-- RTC ticks left of the power-on request (18 R554). -/
def reqLeft (s : State) (left : Nat) : Nat := left - (trimCount s.bkd (rtcTicks s)).1
/-- Bring the RTC's stored value up to date. -/
def rtcSync (s : State) : State :=
  if s.bkd.halted then s
  else
    let n := rtcTicks s
    { s with bkd := { s.bkd with rtc := rtcNow s, trimAcc := (trimCount s.bkd n).2, req := s.bkd.req.map (reqLeft s),
                                 rtcRaw := s.bkd.rtcRaw + n * tickUnits } }

/-- The MTIME of an RTC value (18 R544); an inserted second converts with the OFS before the leap. -/
def rtcMtime (s : State) (c : Calendar) : MTime :=
  let ofs := if c.sec = 60 then s.bkd.ofs - 1 else s.bkd.ofs
  ⟨((calSecs c : Int) + ofs).toNat, c.subsec * 1000000000 / 32768, 0⟩

/-- The RTC counts as valid for module time (18 R542). -/
def rtcGood (s : State) : Bool := s.bkd.valid && !s.bkd.overrange

/-- UTC now, as seconds from 1970 and ticks (18 R552). -/
def utcTicks (s : State) : Nat :=
  ((munits (now s) - s.tim.utcOffset * secUnits) * 32768 / secUnits).toNat

/-- A load that moves the RTC to or past an armed alarm disarms it unfired (18 R553). -/
def alarmPassed (s : State) : State :=
  match s.bkd.alarm with
  | some a =>
    if calTicks a ≤ calPlace s.bkd.rtc then
      raise 0x0F08 2 (rtcMtime s a).sec 0 { s with bkd := { s.bkd with alarm := none } }
    else s
  | none => s

/-- Load the RTC with a value and let it count from it at the next tick; an interval of 18 R551 needs VALID throughout. -/
def rtcLoad (c : Calendar) (s0 : State) : State :=
  let s := rtcSync s0
  alarmPassed { s with bkd := { s.bkd with rtc := c, rtcRaw := s.tim.raw * 128, valid := true,
                                           trimStart := if s.bkd.valid then s.bkd.trimStart else some ((now s).sec + 1) } }

/-- The RTC's lead over UTC, in ticks. -/
def rtcLead (s : State) : Int := (calTicks (rtcNow s) : Int) - utcTicks s
/-- Compare the RTC with UTC: where 18 R552 says so, a load is due at the next whole second, which is one of UTC too; never while
halted. -/
def rtcAlign (s : State) : State :=
  if s.bkd.halted then s
  else if !s.bkd.valid || (decide (s.cfg.alignEn = 1) && decide (32768 < (rtcLead s).natAbs * 1000)) then
    { s with bkd := { s.bkd with alignAt := some (s.bkd.alignAt.getD ((now s).sec + 1)) } }
  else s
/-- A whole second is reached: a load that is due takes place, unless the RTC is halted (18 R552). -/
def rtcAlignDue (s : State) : State :=
  match s.bkd.alignAt with
  | none => s
  | some t =>
    if (now s).sec < t then s
    else
      let s1 := { s with bkd := { s.bkd with alignAt := none } }
      if s.bkd.halted then s1
      else
        let c := calOfTicks (utcTicks s)
        let s2 := rtcLoad c s1
        raise 0x0F04 (ps (divZ (rtcLead s * 1000000) 32768)) (rtcMtime s2 c).sec 0 s2

end Sys2Proof.Machine
end

