-- ==== Sys2Proof/Machine/Time.lean ====
section
/-! DEFINITION. Module time, PTP and holdover (03): parameter sets, the servo, path-step watching, time quality, the
pulse pins, and the commands of the time class. -/
namespace Sys2Proof.Machine

/-! ### Parameter sets (R100, R101) -/

/-- The greatest RATE (R99). -/
def rateMax : Int := 549755813887
/-- RATE limited to its range. -/
def rateClamp (r : Int) : Int := clampI (-549755813888) rateMax r

/-- Bring a reached next set into force (R100). -/
def settleSet (s : State) : State :=
  match s.tim.next with
  | some n => if n.act ≤ s.tim.raw then { s with tim := { s.tim with cur := n, next := none, stepPend := 0, past := s.tim.cur :: s.tim.past } } else s
  | none => s

/-- Ticks of RAW between sending a set and its ACT: 2 µs (R110). DESIGN CHOICE (log entry 12). -/
def actLead : Nat := 1000

/-- A time moved by a count of 2^−32 ns. -/
def shiftTime (u : Int) (m : MTime) : MTime := mtimeOfUnits (munits m + u)
/-- Write a new set that changes only RATE and the continuity fields (R101, R110); a step that waits in the next set stays with
it. -/
def writeRate (rate : Int) (s : State) : State :=
  let s1 := settleSet s
  let act := s1.tim.raw + actLead
  { s1 with tim := { s1.tim with next := some ⟨shiftTime s1.tim.stepPend (convert s1.tim.cur act 0), act, rateClamp rate, act⟩ } }

/-- Picoseconds in units of 2^−32 ns. -/
def psUnits (p : Int) : Int := p * two32 / 1000

/-- Step OFFSET at this RAW by an offset in ps (R119). DESIGN CHOICE (log entry 120): a next set that still waits for its ACT is
dropped with the RATE that it carries, and the RATE in force stays. -/
def stepOffset (theta : Int) (s : State) : State :=
  let s1 := settleSet s
  let r := s1.tim.raw
  let o := shiftTime (psUnits theta + s1.tim.stepPend) (convert s1.tim.cur r 0)
  { s1 with tim := { s1.tim with cur := ⟨o, r, s1.tim.cur.rate, r⟩, next := none, stepPend := 0, past := s1.tim.cur :: s1.tim.past } }
/-- Step OFFSET by an offset in ps with the next set, its ACT as far ahead as R110 asks (R117). -/
def stepAhead (theta : Int) (s : State) : State :=
  let s1 := settleSet s
  let act := s1.tim.raw + actLead
  let rate := match s1.tim.next with | some n => n.rate | none => s1.tim.cur.rate
  let u := psUnits theta + s1.tim.stepPend
  { s1 with tim := { s1.tim with next := some ⟨shiftTime u (convert s1.tim.cur act 0), act, rate, act⟩, stepPend := u } }

/-! ### Time-quality STATE (R104, R105) -/

/-- The states in which hold age runs. -/
def holdState : Tq → Bool
  | .frozen | .holdover | .holdoverLimit => true
  | _ => false

/-- Enter a STATE: hold age, E₀, the servo's restart marks, the counts, and EV_TQ_CHANGE with both words. DESIGN CHOICE (log
entry 121): the count of 4 results over LOCK_THRESH starts again when a hold ends and STATE goes from FROZEN to LOCKED. -/
def setTq (q : Tq) (s : State) : State :=
  if s.tim.state = q then s
  else
    let old := tqWord s
    let wasHold := holdState s.tim.state
    let e0 := errNs s
    let fromIdle := decide (s.tim.state = .holdover ∨ s.tim.state = .holdoverLimit ∨ s.tim.state = .freerun)
    let t0 := { s.tim with state := q }
    let t1 := if holdState q then
        (if wasHold then t0 else { t0 with holdAgeRaw := some t0.raw, e0 := e0 })
      else { t0 with holdAgeRaw := none }
    let t2 := match q with
      | .acquiring => { t1 with firstInAcq := true, cntLock := 0, lastResult := if fromIdle then none else t1.lastResult }
      | .locked => { t1 with everLocked := true, cntUnlock := 0 }
      | _ => t1
    let t3 := if q = .holdover then { t2 with ocxo0 := s.hwi.ocxo } else t2
    let s1 := setFlag 8 (decide (q ≠ .locked)) { s with tim := t3 }
    let s2 := match q with
      | .holdover => writeRate (dtoInt (-rateMax - 1) rateMax
          (dmul (dmul s1.tim.f (dofRat 1 1000000000)) (dofInt 281474976710656))) { s1 with tim := { s1.tim with slewing := false } }
      | _ => s1
    recordEvent (evPkg 0x0101 old (tqWord s2) 0 0) (noteQuality s2)

/-! ### LANs -/

/-- The state of LAN A (0) or LAN B. -/
def lanSt (s : State) (l : Nat) : LanSt := if l = 0 then s.tim.lanA else s.tim.lanB
/-- Write the state of a LAN, whose exclusion and inaccuracies the time-quality word shows. -/
def setLan (l : Nat) (x : LanSt) (s : State) : State :=
  noteQuality (if l = 0 then { s with tim := { s.tim with lanA := x } } else { s with tim := { s.tim with lanB := x } })
/-- The other LAN. -/
def otherLan (l : Nat) : Nat := if l = 0 then 1 else 0
/-- The port of a LAN (R112). -/
def lanPort (s : State) (l : Nat) : Nat := if l = 0 then s.cfg.ptp.portA else s.cfg.ptp.portB

/-- A selected master whose announce receipt timeout has not run out. -/
def lanSelected (x : LanSt) : Bool := x.gm.isSome && x.annRunning
/-- The LAN is admitted (R104). -/
def lanAdmitted (x : LanSt) : Bool := lanSelected x && x.reference.isSome && !x.excluded && x.suspend == 0
/-- Some LAN is admitted. -/
def anyAdmitted (s : State) : Bool := lanAdmitted s.tim.lanA || lanAdmitted s.tim.lanB
/-- Both LANs have the same grandmaster selected. -/
def sameGm (s : State) : Bool :=
  lanSelected s.tim.lanA && lanSelected s.tim.lanB && s.tim.lanA.gm == s.tim.lanB.gm
/-- The grandmaster of the LAN is in use: the only one, the same, or the winner of the dataset comparison (R113). -/
def gmInUse (s : State) (l : Nat) : Bool :=
  let x := lanSt s l
  let y := lanSt s (otherLan l)
  lanSelected x && (!lanSelected y || x.gm == y.gm || Config.bmcaBetter x.dataset y.dataset)

/-- No LAN admitted: STATE changes as Table TIM-3 gives, and a hold is cancelled (Table TIM-6). -/
def checkAdmission (s : State) : State :=
  if anyAdmitted s then s
  else
    let s1 := if s.tim.hold.isSome then
        { s with tim := { s.tim with hold := none, lanA := { s.tim.lanA with stepped := false }, lanB := { s.tim.lanB with stepped := false } } }
      else s
    match s.tim.state with
    | .locked => setTq .holdover s1
    | .frozen | .acquiring => setTq (if s.tim.everLocked then .holdover else .freerun) s1
    | _ => s1

/-- The filtered path delay: the median of the last 5 values (R121). -/
def filtered (x : LanSt) : Int := median x.delays

/-- End a hold: STATE returns to what it froze (Table TIM-3). -/
def endHold (s : State) : State :=
  match s.tim.hold with
  | none => s
  | some h =>
    let s1 := { s with tim := { s.tim with hold := none } }
    match h.from_ with
    | some q => if s.tim.state = .frozen then setTq q s1 else s1
    | none => s1

/-- The new delay of a LAN becomes its reference. -/
def acceptDelay (l : Nat) (s : State) : State :=
  let x := lanSt s l
  setLan l { x with reference := some (filtered x), stepped := false } s

/-- Accept the delays of every stepped LAN of a hold. -/
def acceptHold (h : Hold) (s : State) : State :=
  let s1 := if bitN h.lans 0 then acceptDelay 0 s else s
  if bitN h.lans 1 then acceptDelay 1 s1 else s1

/-! ### The servo (R116, R117) -/

/-- SLEW_MAX in ppb. -/
def slewPpb (s : State) : F64 := dofInt (s.cfg.thresh.slewMax * 1000 : Nat)
/-- Clamp a binary64 to ± a bound. -/
def dclamp (b x : F64) : F64 := if dlt b x then b else if dlt x (dneg b) then dneg b else x

/-- Seconds of module time since the previous admitted result, limited to 1/64 s to 16 s; 1 s for a first one. -/
def servoDelta (s : State) (t : MTime) : F64 :=
  match s.tim.lastResult with
  | none => dofInt 1
  | some p => dofRat (clampI (secUnits / 64) (16 * secUnits) (munits t - munits p)) secUnits.toNat

/-- The result exceeds LOCK_THRESH. -/
def overLock (s : State) (theta : Int) : Bool := decide (s.cfg.thresh.lockThresh * 1000 < theta.natAbs)

/-- The servo's arithmetic on one result: F, A, RATE and SLEWING (R116). -/
def servoStep (theta : Int) (t : MTime) (s : State) : State :=
  let th := dofRat theta 1000
  let q := ddiv th (servoDelta s t)
  let f := dadd s.tim.f (ddiv q (dofInt 16))
  let p := ddiv q (dofInt 2)
  let sl := slewPpb s
  let past := overLock s theta
  let r := if past then dadd f (if theta < 0 then dneg sl else sl) else dadd f (dclamp sl p)
  let rate := dtoInt (-rateMax - 1) rateMax (dmul (dmul r (dofRat 1 1000000000)) (dofInt 281474976710656))
  let a := if s.tim.firstInAcq then dabs th else dadd s.tim.a (ddiv (dsub (dabs th) s.tim.a) (dofInt 8))
  writeRate rate { s with tim := { s.tim with
    f := f, a := a, theta := theta, slewing := past, firstInAcq := false, lastResult := some t } }

/-- The counts of Table TIM-3 after a result. -/
def servoCounts (theta : Int) (s : State) : State :=
  let past := overLock s theta
  match s.tim.state with
  | .acquiring =>
    if past then { s with tim := { s.tim with cntLock := 0 } }
    else
      let n := s.tim.cntLock + 1
      if 8 ≤ n then setTq .locked { s with tim := { s.tim with cntLock := 0 } }
      else { s with tim := { s.tim with cntLock := n } }
  | .locked =>
    if past then
      let n := s.tim.cntUnlock + 1
      if 4 ≤ n then setTq .acquiring { s with tim := { s.tim with cntUnlock := 0 } }
      else { s with tim := { s.tim with cntUnlock := n } }
    else { s with tim := { s.tim with cntUnlock := 0 } }
  | _ => s

/-- A result enters ACQUIRING from FREERUN, HOLDOVER and HOLDOVER_LIMIT (Table TIM-3). -/
def enterAcq (s : State) : State :=
  match s.tim.state with
  | .freerun | .holdover | .holdoverLimit => setTq .acquiring s
  | _ => s

/-- ACQUIRING entered by the step of R117, from whichever STATE: the counts and the servo's marks start again, and the next
interval runs from this result in the stepped time (log entry 122). -/
def acquireStepped (theta : Int) (t : MTime) (s : State) : State :=
  let s1 := setTq .acquiring s
  { s1 with tim := { s1.tim with cntLock := 0, firstInAcq := true, lastResult := some (shiftTime (psUnits theta) t) } }
/-- One admitted result: the step before the restore (R117), or the servo (R116) and the counts. DESIGN CHOICE (log entry 121):
the result that enters ACQUIRING itself counts among the 8 of Table TIM-3. -/
def admitResult (theta : Int) (t : MTime) (s : State) : State :=
  noteQuality (
    if !s.pwr.restored && !s.tim.startStepped && decide (s.cfg.thresh.stepLimit * 1000000 < theta.natAbs) then
      let s1 := stepAhead theta { s with tim := { s.tim with startStepped := true, theta := theta } }
      acquireStepped theta t (raise 0x0109 (ps (divZ theta 1000)) 0 0 s1)
    else servoCounts theta (servoStep theta t (enterAcq s)))

/-! ### Sync results (R113, R114, R121 to R125) -/

/-- Latency of a port in a mode, ingress and egress in ps (R109, Table TIM-4). -/
def latency (s : State) (port mode : Nat) : Nat × Nat :=
  (tget s.cfg.asym (port, mode)).getD (match mode with
    | 0 => (28160, 35840) | 1 => (51200, 43520) | 2 => (112640, 74240) | 3 => (71680, 87040) | _ => (133120, 112640))
/-- MODE in force of a port (04). -/
def portMode (s : State) (port : Nat) : Nat := (tgetD s.net.ports port {}).mode
/-- CABLE_ASYM of a port, ps. -/
def cableAsym (s : State) (port : Nat) : Int := tgetD s.cfg.cable port 0

/-- A receive stamp of a port as MTIME: the captured stamp less the port's ingress latency (R107, R108). -/
def rxStamp (s : State) (port raw sub : Nat) : MTime :=
  mtimeOfUnits (munits (mtimeAt s raw sub) - psUnits (latency s port (portMode s port)).1)

/-- PATH_STEP_THRESH in ps. -/
def stepThresh (s : State) : Nat := s.cfg.thresh.pathStepThresh * 1000

/-- Within PATH_STEP_THRESH. -/
def near (s : State) (a b : Int) : Bool := decide ((a - b).natAbs ≤ stepThresh s)

/-- A declared path step with no hold in progress: Table TIM-5. The answer says whether the servo takes this result. DESIGN
CHOICE (log entry 123): the Sync that declares a step which Table TIM-5 verifies goes to the servo when its path delay is near the
new reference. -/
def decideStep (l : Nat) (path med ref : Int) (s : State) : State × Bool :=
  let o := otherLan l
  let x := lanSt s l
  let y := lanSt s o
  if lanAdmitted y && !y.stepped && sameGm s then
    if decide (stepThresh s < (x.ofs - y.ofs).natAbs) then
      let s1 := setLan l { x with excluded := true, refOld := some ref, stepped := false } s
      (raiseObj 0x0104 l (x.ofs - y.ofs).natAbs 0 s1, false)
    else
      let s1 := setLan l { x with reference := some med } s
      (raiseObj 0x0107 l (ps (med - ref)) 0 s1, near s path med)
  else
    let s1 := setLan l { x with stepped := true } s
    let frozen := match s.tim.state with | .locked | .acquiring => some s.tim.state | _ => none
    let s2 := { s1 with tim := { s1.tim with hold := some ⟨1 <<< l, s1.tim.raw, frozen⟩ } }
    (if frozen.isSome then setTq .frozen s2 else s2, false)

/-- Every stepped LAN's median is back within PATH_STEP_THRESH of its reference (Table TIM-6). DESIGN CHOICE (log entry 144): a LAN
whose grandmaster changed during the hold stays stepped, and its missing reference counts as 0. -/
def holdReturned (s : State) (h : Hold) : Bool :=
  [0, 1].all (fun l => !bitN h.lans l || near s (filtered (lanSt s l)) ((lanSt s l).reference.getD 0))

/-- The step test on a LAN that has a reference: the new state, and whether the servo takes the result. -/
def stepTest (l : Nat) (path : Int) (s : State) : State × Bool :=
  let x := lanSt s l
  match x.reference with
  | none => (s, false)
  | some ref =>
    let med := filtered x
    if x.excluded then
      let ro := x.refOld.getD ref
      if near s med ro then
        let s1 := setLan l { x with excluded := false, reference := some ro, refOld := none } s
        (raiseObj 0x0105 l 0 0 s1, near s path ro)
      else (s, false)
    else match s.tim.hold with
      | some h =>
        if bitN h.lans l then
          if holdReturned s h then
            let s1 := setLan 0 { s.tim.lanA with stepped := false } s
            let s2 := setLan 1 { s1.tim.lanB with stepped := false } s1
            (endHold s2, near s path ref)
          else (s, false)
        else if near s med ref then (if near s path ref then setLan l { x with reference := some med } s else s, false)
        else
          let s1 := raiseObj 0x0103 l (ps (med - ref)) 0 (setLan l { x with stepped := true } s)
          ({ s1 with tim := { s1.tim with hold := some { h with lans := h.lans ||| (1 <<< l) } } }, false)
      | none =>
        if !near s med ref then decideStep l path med ref (raiseObj 0x0103 l (ps (med - ref)) 0 s)
        else if !near s path ref then (s, false)
        else (setLan l { x with reference := some med } s, true)

/-- One Sync of a LAN with its receive stamp, the master's time and the correctionField. DESIGN CHOICE (log entry 124): after a
suspension has started, TIM_LAN_x_DLY shows its last value until 5 new values have come. -/
def syncResult (l raw sub : Nat) (origin : MTime) (corr : Int) (s : State) : State :=
  let port := lanPort s l
  let t := rxStamp s port raw sub
  let path := tgetD s.tim.linkDelay port 0 + cableAsym s port + corr
  let ofs := ((munits origin - munits t) * 1000) / two32 + path
  let x := lanSt s l
  let delays := (x.delays ++ [path]).drop ((x.delays.length + 1) - 5)
  let x1 := { x with delays := delays, ofs := ofs, dly := if delays.length = 5 then median delays else x.dly }
  if 0 < x.suspend then
    let n := x.suspend - 1
    checkAdmission (setLan l { x1 with suspend := n, reference := if n = 0 then some (median delays) else none } s)
  else if delays.length < 5 then setLan l x1 s
  else
    let x2 := if x1.reference.isNone then { x1 with reference := some (median delays) } else x1
    let (s1, take) := stepTest l path (setLan l x2 s)
    let s2 := checkAdmission s1
    let s3 := if take && lanAdmitted (lanSt s2 l) && gmInUse s2 l && s2.tim.hold.isNone then admitResult ofs t s2 else s2
    if s3.tim.state = .locked ∧ s3.bkd.valid = false then rtcAlign s3 else s3

/-- The module's clock takes messages of its own domain alone (R112). -/
def ofDomain (s : State) (domain : Nat) : Bool := domain == s.cfg.ptp.domain
/-- A Sync (R113): of a one-step master a result at once; of a two-step master it waits for its Follow_Up. -/
def execPtpSync (m : SyncMsg) (s : State) : Host.Outcome State Fault Refusal :=
  .next (if !ofDomain s m.domain then s else if m.twoStep then setLan m.lan { lanSt s m.lan with twoStep := some m } s
    else syncResult m.lan m.stampRaw m.stampSub m.origin m.corr s)

/-- A Follow_Up gives the origin and the correction of the Sync that waits (R113, R121). -/
def execPtpFollowUp (lan : Nat) (f : FollowUp) (corr : Int) (s : State) : Host.Outcome State Fault Refusal :=
  .next (match (if ofDomain s f.domain then (lanSt s lan).twoStep else none) with
    | none => s
    | some m => syncResult lan m.stampRaw m.stampSub f.origin corr (setLan lan { lanSt s lan with twoStep := none } s))

/-- The UTC fields of a grandmaster in use (Table TIM-1), and OFS in MRAM, which is rewritten when UTC_OFFSET changes or becomes valid
(18 R544). -/
def takeUtc (m : AnnounceMsg) (s : State) : State :=
  let s1 := { s with tim := { s.tim with
    utcOffset := m.utcOffset, utcValid := m.utcValid, leap61 := m.leap61, leap59 := m.leap59,
    timeTraceable := m.timeTraceable, freqTraceable := m.freqTraceable } }
  noteQuality (if m.utcValid && (m.utcOffset != s.tim.utcOffset || !s.tim.utcValid) then { s1 with bkd := { s1.bkd with ofs := m.utcOffset } } else s1)

/-- An Announce (R113, R114): selection on its LAN, and what a change of grandmaster suspends. DESIGN CHOICE (log entry 125): a
change on an excluded LAN drops the reference that stood before its step, so that R125 judges its return by the fresh one; a change
during a hold leaves the hold's LANs as they are (log entry 144). -/
def execPtpAnnounce (m : AnnounceMsg) (s : State) : Host.Outcome State Fault Refusal :=
  if !ofDomain s m.domain then .next s
  else
  let x := lanSt s m.lan
  let keep := { x with dataset := m.dataset, annRunning := true, annRaw := s.tim.raw, gmInacc := m.gmInacc,
                       netInacc := m.netInacc }
  let s1 :=
    if x.gm = some m.gm then setLan m.lan keep s
    else if lanSelected x && !Config.bmcaBetter m.dataset x.dataset then s
    else match x.gm with
      | none => setLan m.lan { keep with gm := some m.gm } s
      | some _ =>
        let s2 := setLan m.lan { keep with gm := some m.gm, suspend := 8, delays := [], reference := none, refOld := none,
                                           stepped := false, twoStep := none } s
        checkAdmission (raiseObj 0x0102 m.lan m.gm 0 s2)
  .next (if (lanSt s1 m.lan).gm = some m.gm ∧ gmInUse s1 m.lan = true then takeUtc m s1 else s1)

/-- RAW at which the announce receipt timeout of a LAN runs out: ANN_TIMEOUT announce intervals of 1 s after its last Announce
(R113). The interval is the profiles': PRESUMED (log entry 126). -/
def annDeadline (s : State) (lan : Nat) : Nat := (lanSt s lan).annRaw + rawSec s.cfg.ptp.annTimeout
/-- The announce receipt timeout of a LAN runs out (R104, R113). -/
def execAnnounceReceiptTimeout (lan : Nat) (s : State) : Host.Outcome State Fault Refusal :=
  .next (if (lanSt s lan).annRunning = true ∧ annDeadline s lan ≤ s.tim.raw then checkAdmission (setLan lan { lanSt s lan with annRunning := false } s) else s)

/-- A hold has run for PATH_STEP_HOLD: the new delays become references, unverified (R123). -/
def execPathStepHoldExpiry (s : State) : Host.Outcome State Fault Refusal :=
  .next (match s.tim.hold with
    | none => s
    | some h =>
      if s.tim.raw < h.startRaw + rawSec s.cfg.thresh.pathStepHold then s
      else
        let ch (l : Nat) : Nat :=
          if bitN h.lans l then ps (filtered (lanSt s l) - (lanSt s l).reference.getD 0) else 0
        let s1 := acceptHold h s
        let s2 := { s1 with tim := { s1.tim with asymUnverified := true } }
        endHold (raise 0x0106 h.lans (ch 0) (ch 1) (noteQuality s2)))

/-- Hold age has reached HOLD_T1 in HOLDOVER (Table TIM-3). -/
def execHoldT1Expiry (s : State) : Host.Outcome State Fault Refusal :=
  .next (if s.tim.state = .holdover ∧ s.cfg.thresh.holdT1 ≤ holdAge s then setTq .holdoverLimit s else s)

/-- The OCXO zone is more than HOLD_TEMP from its value at entry into HOLDOVER (Table TIM-3); 0.1 °C. -/
def ocxoAway (s : State) (temp : Int) : Bool := decide (s.cfg.thresh.holdTemp < (temp - s.tim.ocxo0).natAbs)
/-- A measurement of the OCXO zone that is too far from its value at entry into HOLDOVER. -/
def execHoldTempExceeded (temp : Int) (s : State) : Host.Outcome State Fault Refusal :=
  .next (
    let s1 := { s with hwi := { s.hwi with ocxo := temp } }
    if s.tim.state = .holdover ∧ ocxoAway s temp = true then setTq .holdoverLimit s1 else s1)

/-- RAW reaches the ACT of the next set (R100). -/
def execParameterSetActivate (s : State) : Host.Outcome State Fault Refusal := .next (settleSet s)

/-! ### PPS pins (R127) -/

/-- A rising edge of PPS_IN, stamped; only measured. DESIGN CHOICE (log entry 143): the error is rounded toward zero to 250 ps, and
an edge half a second from both whole seconds counts as early. -/
def execPpsInEdge (raw sub : Nat) (s : State) : Host.Outcome State Fault Refusal :=
  let u := munits (mtimeAt s raw sub)
  let d := (u + secUnits / 2) % secUnits - secUnits / 2
  .next { s with tim := { s.tim with ppsRaw := some raw, ppsErr := divZ (d * 4) two32 } }

/-- PPS_OUT is high: from its rise for its high time. -/
def ppsLevel (s : State) : Bool :=
  match s.tim.ppsRise with | some r => decide (s.tim.raw < r + rawMs s.tim.ppsOut) | none => false
/-- A whole second of module time is reached, within 4 ns, and PPS_OUT has not risen in it. -/
def ppsDue (s : State) : Bool :=
  decide ((now s).ns < 4) && (match s.tim.ppsRise with | some r => decide ((mtimeAt s r 0).sec ≠ (now s).sec) | none => true)
/-- PPS_OUT rises at a whole second: high for 100 ms in LOCKED and 200 ms in any other STATE. An alignment of the RTC that is due
takes place at that second (18 R552). -/
def execPpsOutPulse (s : State) : Host.Outcome State Fault Refusal :=
  .next (if ppsDue s then
      rtcAlignDue { s with tim := { s.tim with ppsOut := if s.tim.state = .locked then 100 else 200, ppsRise := some s.tim.raw } }
    else s)

/-! ### Registers -/


/-- A write to TIM_CAPTURE (R102). -/
def execTimCapture (func go : Nat) (s : State) : Host.Outcome State Fault Refusal :=
  .next (if go % 2 = 1 ∧ funcExists s func = true then
      { s with tim := { s.tim with caps := tset s.tim.caps func ⟨s.tim.raw, now s, tqWord s⟩ } }
    else s)

/-! ### Commands (R128) -/

/-- TIM_PTP_CONFIG: ranges of Table TIM-9, ports on one die (R112). -/
def timPtpConfigPacket (h : Hdr) (p : PtpParams) : Packet :=
  { configPacket h 0x0100 (fun _ => decide (p.profile ≤ 1 ∧ p.domain ≤ 255 ∧ p.portA / 4 = p.portB / 4 ∧ p.portA ≠ p.portB
      ∧ 2 ≤ p.annTimeout ∧ p.annTimeout ≤ 10)) (.ptp p) with
    unsupported := fun s => !hasPort s p.portA || !hasPort s p.portB }
/-- TIM_PTP_CONFIG. -/
def execTimPtpConfig (h : Hdr) (p : PtpParams) (s : State) : Host.Outcome State Fault Refusal :=
  .next (submit (.timPtpConfig h p) (timPtpConfigPacket h p) s)

/-- TIM_ASYM_SET (R109). -/
def timAsymSetPacket (h : Hdr) (p : AsymParams) : Packet :=
  { configPacket h 0x0101 (fun _ => decide ((p.mode ≤ 4 ∨ p.mode = 0xFF) ∧ p.ingress ≤ 1000000 ∧ p.egress ≤ 1000000
      ∧ -1000000 ≤ p.cableAsym ∧ p.cableAsym ≤ 1000000)) (.asym p) with
    unsupported := fun s => !hasPort s p.port }
/-- TIM_ASYM_SET. -/
def execTimAsymSet (h : Hdr) (p : AsymParams) (s : State) : Host.Outcome State Fault Refusal :=
  .next (submit (.timAsymSet h p) (timAsymSetPacket h p) s)

/-- Zero, or within a range (R128). -/
def zeroOr (v lo hi : Nat) : Bool := decide (v = 0 ∨ (lo ≤ v ∧ v ≤ hi))
/-- A binary32 from 0 to a bound. DESIGN CHOICE (log entry 127): subnormals read as zero, as in 10 R309, so that a negative
subnormal is within the range. -/
def f32Within (hi x : F32) : Bool := fle 0 x && fle x hi

/-- TIM_THRESH_SET (Table TIM-9). -/
def timThreshSetPacket (h : Hdr) (p : ThreshParams) : Packet :=
  configPacket h 0x0102 (fun _ => zeroOr p.pathStepThresh 20 10000 && zeroOr p.pathStepHold 1 3600
    && zeroOr p.lockThresh 50 10000 && zeroOr p.slewMax 1 1000 && zeroOr p.stepLimit 1 1000000
    && zeroOr p.holdT1 60 86400 && zeroOr p.holdTemp 5 100
    && f32Within 0x447A0000#32 p.holdK1 && f32Within 0x447A0000#32 p.holdK2) (.thresh p)
/-- TIM_THRESH_SET. -/
def execTimThreshSet (h : Hdr) (p : ThreshParams) (s : State) : Host.Outcome State Fault Refusal :=
  .next (submit (.timThreshSet h p) (timThreshSetPacket h p) s)

/-- What ACCEPT_PATH does (R124, R125, R129). -/
def acceptPath (lan : Nat) (s : State) : State :=
  let s1 := if (lanSt s lan).excluded then
      let x := lanSt s lan
      raiseObj 0x0105 lan 1 0 (setLan lan { x with excluded := false, reference := some (filtered x), refOld := none } s)
    else s
  let s2 := match s1.tim.hold with
    | some h => endHold (raise 0x0108 h.lans 0 0 (acceptHold h s1))
    | none => s1
  noteQuality { s2 with tim := { s2.tim with asymUnverified := false } }
/-- ACCEPT_PATH (0x0140). -/
def acceptPathPacket (h : Hdr) (lan : Nat) : Packet :=
  { h, opcode := 0x0140, pfOnly := true, restrictedOk := true,
    eff := fun _ s => if lan ≤ 1 then okRes (acceptPath lan s) else failRes stFailed s }
/-- ACCEPT_PATH. -/
def execAcceptPath (h : Hdr) (lan : Nat) (s : State) : Host.Outcome State Fault Refusal :=
  .next (submit (.acceptPath h lan) (acceptPathPacket h lan) s)

/-- TIM_STEP (R119, R120): it waits until AT_SEC. -/
def timStepPacket (h : Hdr) (atSec : Nat) : Packet :=
  { h, opcode := 0x0141, pfOnly := true, restrictedOk := true,
    eff := fun j s =>
      if s.tim.step.isSome then failRes stBusy s
      else if h.strict && mlt ⟨atSec, 0, 0⟩ (now s) then failRes stPast s
      else if atSec < (now s).sec + 2 then failRes stFailed s
      else .wait { s with tim := { s.tim with step := some ⟨atSec, h.func, h.qp, j⟩ } } }
/-- TIM_STEP. -/
def execTimStep (h : Hdr) (atSec : Nat) (s : State) : Host.Outcome State Fault Refusal :=
  .next (submit (.timStep h atSec) (timStepPacket h atSec) s)

/-- TIM_STATUS (Table TIM-8). -/
def timStatusPacket (h : Hdr) : Packet :=
  { h, opcode := 0x0180, pfOnly := false,
    eff := fun _ s => .done stOk (resB 0 (tqWord s) ||| resB 4 (holdAge s) ||| resB 8 (ps s.tim.theta)) s }
/-- TIM_STATUS. -/
def execTimStatus (h : Hdr) (s : State) : Host.Outcome State Fault Refusal :=
  .next (submit (.timStatus h) (timStatusPacket h) s)

end Sys2Proof.Machine
end

