-- ==== Sys2Proof/Machine/Buffer.lean ====
section
/-! DEFINITION. Ports as the switch sees them, and the cell buffer of a die: queues, reserves, the shared pool, admission
and release (04 R142, R148, R149; 05 R164 to R171, R183). -/
namespace Sys2Proof.Machine

/-! ### Port settings and states (04) -/

/-- The default settings of a port (Table NET-6, R148). -/
def portDefault (p : Nat) : PortParams :=
  ⟨0, 0, if p % 2 = 0 then p + 1 else p - 1, p % 2, 0xC0, 1, 0, 10, 2000, 10000, 1000, 10000⟩
/-- The settings of a port in force. -/
def portCfg (s : State) (p : Nat) : PortParams := tgetD s.cfg.ports p (portDefault p)
/-- PREEMPT_EN of a port (Table NET-6). -/
def preemptEn (c : PortParams) : Bool := bitN c.preempt 0
/-- VERIFY_DIS of a port (Table NET-6). -/
def verifyDis (c : PortParams) : Bool := bitN c.preempt 1
/-- The state of a port. -/
def portSt (s : State) (p : Nat) : PortSt := tgetD s.net.ports p {}
/-- Write the state of a port. -/
def setPort (p : Nat) (x : PortSt) (s : State) : State := { s with net := { s.net with ports := tset s.net.ports p x } }
/-- MODE of a configuration (Table NET-1). -/
def modeOf (c : PortParams) : Nat := if c.speed = 0 then min c.fec 2 else 3 + min c.fec 1
/-- The port is paired (R148). -/
def paired (s : State) (p : Nat) : Bool := (portCfg s p).partner != 0xFF
/-- The LAN of a port: 0 A, 1 B, 2 the third kind of an unpaired port (05 R173). -/
def lanOf (s : State) (p : Nat) : Nat := if paired s p then (portCfg s p).lan else 2
/-- The class is an express class of the port (R149). -/
def isExpress (s : State) (p cls : Nat) : Bool := bitN (portCfg s p).express cls
/-- Bits per 10 ns, for the duration of quanta: 25 Gb/s or 10 Gb/s. -/
def quantumTicks (s : State) (p q : Nat) : Nat := if (portCfg s p).speed = 0 then q * 1024 / 100 else q * 256 / 10

/-- A down port for a class (R142). -/
def downFor (s : State) (p cls : Nat) : Bool :=
  let x := portSt s p
  match x.o.obj with
  | .on => match x.link with
    | .up => false
    | .down => true
    | .holding => isExpress s p cls
  | _ => true

/-- NET counters by place. -/
def ncnt (p k : Nat) (s : State) : State := bump (.net p k) s

/-! ### Cells and queues (05 R166 to R170) -/

/-- Cells of a frame. -/
def cellsOf (len : Nat) : Nat := (len + 255) / 256
/-- MIN and CAP of a queue. -/
def queueCfg (s : State) (die dest cls : Nat) : Nat × Nat := tgetD s.cfg.swcQueues (die, dest, cls) (128, 4096)
/-- A chain. -/
def chainOf (s : State) (id : Nat) : Option CellChain := s.swc.chains.find? (fun c => c.id == id)
/-- Cells of a chain. -/
def chainCells (s : State) (id : Nat) : Nat := match chainOf s id with | some c => c.cells | none => 0
/-- Copies in a queue, in arrival order. -/
def queueCopies (s : State) (die dest cls : Nat) : List Copy :=
  s.swc.copies.filter (fun c => c.die == die && c.dest == dest && c.cls == cls)
/-- Copies to a destination. -/
def destCopies (s : State) (die dest : Nat) : List Copy := s.swc.copies.filter (fun c => c.die == die && c.dest == dest)
/-- Occupancy of a queue (R168). -/
def occupancy (s : State) (die dest cls : Nat) : Nat := sumN ((queueCopies s die dest cls).map (fun c => chainCells s c.chain))
/-- Sum of MIN over the queues of a die, with a table of settings (R167). -/
def minSum (t : Tbl (Nat × Nat × Nat) (Nat × Nat)) (die : Nat) : Nat :=
  sumN ((List.range 64).map (fun q => (tgetD t (die, q / 8, q % 8) (128, 4096)).1))
/-- Pool cells in use on a die. -/
def poolUsed (s : State) (die : Nat) : Nat :=
  sumN ((s.swc.chains.filter (fun c => c.die == die && c.reserve.isNone)).map (·.cells))
/-- Free pool cells of a die, SWC_POOL (Table SWC-4). -/
def poolFree (s : State) (die : Nat) : Nat := 65536 - minSum s.cfg.swcQueues die - poolUsed s die

/-- How a queue admits a copy of `n` cells (R169): from its reserve, from the pool, or not at all. -/
inductive Admission where
  | reserve | pool | refused
  deriving DecidableEq, Repr, Inhabited

/-- The admission decision of a queue (R169). -/
def admitCopy (s : State) (die dest cls n : Nat) : Admission :=
  let occ := occupancy s die dest cls
  let mc := queueCfg s die dest cls
  if occ + n ≤ mc.1 then .reserve
  else if occ + n - mc.1 ≤ mc.2 ∧ n ≤ poolFree s die then .pool
  else .refused

/-- A refused copy is counted, and an empty pool recorded (R169, Table SWC-7). -/
def tailDrop (die dest cls : Nat) (s : State) : State :=
  let s1 := bump (.swcTailDrop die (8 * dest + cls)) s
  if poolFree s1 die = 0 then raiseLimited die (evDie 0x0303 die (8 * dest + cls) 0 die die) s1 else s1

/-- A cell of a chain has failed parity (R184). -/
def chainBad (s : State) (id : Nat) : Bool := match chainOf s id with | some ch => ch.bad | none => false
/-- A cell of a chain fails parity at a read of a die: every later copy meets the same error (R184). -/
def spoilChain (die id : Nat) (s : State) : State :=
  parityError 5 3 ⟨die, 0, 0⟩ die { s with swc := { s.swc with chains := s.swc.chains.map (fun ch => if ch.id == id then { ch with bad := true } else ch) } }
/-- Release copies: they leave their queues, and a chain without references returns its cells (R170). -/
def releaseCopies (drop : Copy → Bool) (s : State) : State :=
  let left := s.swc.copies.filter (fun c => !drop c)
  { s with swc := { s.swc with copies := left, chains := s.swc.chains.filter (fun ch => left.any (fun c => c.chain == ch.id)) } }

/-- The time unit and the management core of a die take the copies that wait for them, or meet their parity error (R183, R184).
DESIGN CHOICE (log entry 16): they take them at the die's next frame, or at the cycle boundary. -/
def takeInner (die : Nat) (s : State) : State :=
  let own (c : Copy) : Bool := c.die == die && decide (6 ≤ c.dest)
  releaseCopies own (foldSt (fun c s => if chainBad s c.chain then bump (.swcParityDrop die c.dest) s else s)
    (s.swc.copies.filter own) s)

/-- What a chain is charged to: the reserve of the lowest-numbered queue that admits it when every one admits from its reserve,
and the pool otherwise (R170). -/
def chargeOf (cls : Nat) (adm : List (Nat × Admission)) : Option Nat :=
  if adm.all (fun d => d.2 == .reserve) then some (8 * (adm.foldl (fun m d => min m d.1) 8) + cls) else none
/-- Hold one chain with a reference for each destination that keeps its copy. `adm` gives every queue that admits the frame, and
`most` the cells charged at the admission; those that the frame did not use return when it ends (R170, R171, R183). -/
def queueChain (die cls cells most : Nat) (adm : List (Nat × Admission)) (keep : List Nat) (i : CopyInfo) (s : State) : State :=
  match adm with
  | [] => s
  | _ =>
    let id := s.swc.nextChain
    let ch (n : Nat) : CellChain := ⟨id, die, n, chargeOf cls adm, false⟩
    let used := poolUsed { s with swc := { s.swc with chains := s.swc.chains ++ [ch most] } } die
    let s1 := peak (.swcPoolPeak die) used s
    if keep.isEmpty then s1
    else { s1 with swc := { s1.swc with
      nextChain := id + 1, chains := s1.swc.chains ++ [ch cells],
      copies := s1.swc.copies ++ keep.map (fun d => ⟨id, die, d, cls, i⟩) } }

/-- Multicast, broadcast and unicast addresses. -/
def isBcast (da : Nat) : Bool := da == 0xFFFFFFFFFFFF
/-- A group address: the low bit of its first octet. -/
def isMcast (da : Nat) : Bool := bitN da 40
/-- Count by kind of address: `k` is the unicast counter's place. -/
def castCount (p k da : Nat) (s : State) : State :=
  if isBcast da then ncnt p (k + 2) s else if isMcast da then ncnt p (k + 1) s else ncnt p k s

/-- Entries of a port's FIFO of transmit stamps (Table NET-4). -/
def stampCap : Nat := 64
/-- The transmit stamp of a port for a frame that began at a RAW and sub-tick: with the port's egress latency added (03 R107). -/
def txStamp (s : State) (p raw sub : Nat) : MTime := shiftTime (psUnits (latency s p (portMode s p)).2) (mtimeAt s raw sub)
/-- The amount that the transparent clock adds: the residence time in module time, and the ingress link delay with CABLE_ASYM,
ps (03 R115). -/
def tcAmount (s : State) (r : RxInfo) (t : MTime) : Int :=
  ((munits t - munits r.stamp) * 1000) / two32 + tgetD s.tim.linkDelay r.port 0 + cableAsym s r.port
/-- The turnaround of a Pdelay_Req, which its one-step Pdelay_Resp carries, ps (03 R115). -/
def turnaround (r : RxInfo) (t : MTime) : Int := ((munits t - munits r.stamp) * 1000) / two32
/-- A PTP message leaves a port with its correctionField as the transparent clock makes it: an event message in flight, a two-step
Sync through its Follow_Up (03 R115). -/
def ptpOut (p : Nat) (i : CopyInfo) (stamp : MTime) (s : State) : State :=
  let sent (m : PtpMsg) (s : State) : State := { s with net := { s.net with ptpTx := tset s.net.ptpTx p m } }
  match i.body, i.rx with
  | .ptp m, none => sent m s
  | .ptp m, some r =>
    let c := tcAmount s r stamp
    (match m.kind with
      | .general => sent m s
      | .pdelayResp => sent { m with corr := m.corr + turnaround r stamp } s
      | .followUp => sent { m with corr := m.corr + tgetD s.swc.tcCorr (p, m.id) 0 }
          { s with swc := { s.swc with tcCorr := tdel s.swc.tcCorr (p, m.id) } }
      | .sync => if m.twoStep then sent m { s with swc := { s.swc with tcCorr := tset s.swc.tcCorr (p, m.id) c } }
          else sent { m with corr := m.corr + c } s
      | _ => sent { m with corr := m.corr + c } s)
  | _, _ => s
/-- A PTP event frame has been stamped; a stamp that finds the FIFO full is lost, and counted too (Table NET-4). -/
def stampOut (p : Nat) (stamp : MTime) (s : State) : State :=
  let x := portSt s p
  let s1 := ncnt p 35 s
  if stampCap ≤ x.txStamps.length then ncnt p 36 s1 else setPort p { x with txStamps := x.txStamps ++ [stamp] } s1
/-- A frame that began at a RAW leaves the MAC completely (Table NET-4); a trailer that the port appends counts among its octets.
The sub-tick of an event frame's stamp is a free value: no row carries it (log entry 129). -/
def txCounts (p : Nat) (i : CopyInfo) (raw : Nat) (s : State) : State :=
  let s1 := castCount p 22 i.da (ncnt p 21 (bumpBy (.net p 20) (i.len + if i.prp.isSome then 6 else 0) s))
  let s2 := if i.prp.isSome then ncnt p 33 s1 else s1
  let s3 := if i.supervision then ncnt p 34 s2 else s2
  let (sub, s4) := if i.ptpEvent then freeNat 8 s3 else (0, s3)
  let stamp := txStamp s4 p raw sub
  let s5 := ptpOut p i stamp s4
  if i.ptpEvent then stampOut p stamp s5 else s5

/-- Offer one own frame to ports of a die: dropped at a down port, admitted or tail-dropped at each of the others, and held as
one chain with a reference for each admitted copy (05 R169, R183); a port that is OFF takes nothing and counts nothing
(04 R135). -/
def offerOwn (ports : List Nat) (cls : Nat) (i : CopyInfo) (s : State) : State :=
  let live := ports.filter (fun p => decide ((portSt s p).o.obj ≠ .off))
  let die := (ports.headD 0) / 4
  let n := cellsOf i.len
  let adm := (live.filter (fun p => !downFor s p cls)).map (fun p => (p % 4, admitCopy s die (p % 4) cls n))
  let ok := adm.filter (fun d => d.2 != .refused)
  let s1 := foldSt (fun p s => if downFor s p cls then ncnt p (38 + cls) s else s) live s
  let s2 := foldSt (fun d s => if d.2 == .refused then tailDrop die d.1 cls s else s) adm s1
  queueChain die cls n n ok (ok.map (·.1)) i s2

/-- The lower port of a pair, which names its sequence counters. -/
def pairKey (s : State) (p : Nat) : Nat := if paired s p then min p (portCfg s p).partner else p
/-- The ports that a publication on a port leaves by: both of a pair, or the one (04 R148). -/
def outPorts (s : State) (p : Nat) : List Nat := if paired s p then [min p (portCfg s p).partner, max p (portCfg s p).partner] else [p]

/-- Send an own frame by a port, or by both ports of its pair, with the sequence number of the trailer that a paired port appends
(04 R148). -/
def sendOwn (port cls seq : Nat) (i : CopyInfo) (s : State) : State :=
  offerOwn (outPorts s port) cls { i with prp := if paired s port then some seq else none } s

/-- The next sequence number of the own identity on a pair (04 R148). -/
def ownSeq (s : State) (port : Nat) : Nat := tgetD s.net.prpOwn (pairKey s port) 0
/-- The own identity's counter of a pair advances. -/
def nextOwnSeq (port : Nat) (s : State) : State :=
  if paired s port then { s with net := { s.net with prpOwn := tset s.net.prpOwn (pairKey s port) ((ownSeq s port + 1) % 65536) } } else s

/-- Send a frame of the own identity, which takes its number from the pair's counter (04 R148). -/
def sendIdentity (port cls : Nat) (i : CopyInfo) (s : State) : State := nextOwnSeq port (sendOwn port cls (ownSeq s port) i s)
/-- Send a frame of the own identity by one port alone, with the trailer of its pair (04 R148). -/
def sendPort (port cls : Nat) (i : CopyInfo) (s : State) : State :=
  nextOwnSeq port (offerOwn [port] cls { i with prp := if paired s port then some (ownSeq s port) else none } s)

end Sys2Proof.Machine
end

