-- ==== Sys2Proof/Machine/Ports.lean ====
section
/-! DEFINITION. Network ports (04): object and link states, link loss with frames queued, preemption, egress, flow control
and its watchdog, cages, management ports, and the commands of the ports class. -/
namespace Sys2Proof.Machine

/-! ### Flushing (R139 to R144) -/

/-- Frames per class packed one byte a class, saturating at 255 (Table NET-7). -/
def classBytes (l : List Copy) : Nat :=
  sumN ((List.range 8).map (fun c => min 255 (l.filter (fun x => x.cls == c)).length <<< (8 * c)))

/-- Flush the copies of a port that meet a test, count each, and record one EV_LINK_FLUSH when any was flushed (R144). -/
def flushPort (port why : Nat) (test : Copy → Bool) (s : State) : State :=
  let gone := (destCopies s (port / 4) (port % 4)).filter test
  if gone.isEmpty then s
  else
    let s1 := foldSt (fun c s => ncnt port (38 + c.cls) s) gone s
    let s2 := releaseCopies (fun c => c.die == port / 4 && c.dest == port % 4 && test c) s1
    let x := portSt s2 port
    let s3 := setPort port { x with begun := match x.begun with | some b => if test b.copy then none else some b | none => none } s2
    recordEvent (evDie 0x0203 port (classBytes gone) why (port / 4) port) s3

/-- The copy's transmission has begun on the port. -/
def hasBegun (s : State) (port : Nat) (c : Copy) : Bool := match (portSt s port).begun with | some b => b.copy == c | none => false

/-- End every pause and every watchdog hold of a port (R147). -/
def clearPauses (x : PortSt) : PortSt := { x with paused := 0, pauseStart := [], pauseEnd := [], wdHold := 0, wdHoldRaw := [] }
/-- Preemption ends with the link (R151). -/
def clearVerify (x : PortSt) : PortSt := { x with verify := 0, preemptActive := false, verTries := 0 }

/-- An UP link is lost: HOLDING, or DOWN with LINK_HOLD 0; express frames, frames begun, or all frames are flushed. -/
def linkLost (port cause : Nat) (s : State) : State :=
  let x := portSt s port
  if x.link ≠ .up then s
  else
    let hold := (portCfg s port).linkHold
    let l : Link := if hold = 0 then .down else .holding
    let s1 := setPort port { clearVerify (clearPauses x) with link := l, holdRaw := s.tim.raw, lastChange := (now s).sec } s
    let s2 := recordEvent (evDie 0x0201 port cause 0 (port / 4) port) (ncnt port 37 s1)
    flushPort port 0 (fun c => hold == 0 || isExpress s port c.cls || hasBegun s port c) s2

/-- LINK_HOLD runs out in HOLDING: DOWN, and every queued frame is flushed (R142). -/
def holdExpired (port : Nat) (s : State) : State :=
  flushPort port 1 (fun _ => true) (setPort port { clearPauses (portSt s port) with link := .down, lastChange := (now s).sec } s)

/-- The hold of a port has run out. -/
def holdDue (s : State) (port : Nat) : Bool :=
  decide ((portSt s port).holdRaw + rawUs (portCfg s port).linkHold ≤ s.tim.raw)

/-- The link comes UP: verify starts, or preemption becomes active without it (R151). -/
def linkUp (port : Nat) (s : State) : State :=
  let c := portCfg s port
  let x := { portSt s port with link := .up, lastChange := (now s).sec }
  let x1 := if preemptEn c then
      (if verifyDis c then { x with preemptActive := true } else { x with verify := 1, verTries := 1, verRaw := s.tim.raw })
    else x
  recordEvent (evDie 0x0202 port x.mode 0 (port / 4) port) (setPort port x1 s)

/-! ### Link events (R136, R137) -/

/-- A fault condition has been present for 10 µs (Table NET-2). -/
def execLinkFault (port cause : Nat) (s : State) : Host.Outcome State Fault Refusal :=
  .next (match (portSt s port).o.obj with
    | .on | .draining => linkLost port cause s
    | _ => s)

/-- The cage holds a module that is accepted at the configured speed (R134). -/
def cageAccepts (s : State) (cage : Nat) : Bool :=
  let c := tgetD s.net.cages cage {}
  c.present && c.usable && c.speeds.contains (portCfg s (4 * cage)).speed
/-- No fault condition for 1 ms (Table NET-2); the ports of a cage without an accepted module stay DOWN (R134). -/
def execLinkClear (port : Nat) (s : State) : Host.Outcome State Fault Refusal :=
  .next (if ((portSt s port).o.obj ≠ .on ∧ (portSt s port).o.obj ≠ .draining) ∨ cageAccepts s (port / 4) = false then s
    else match (portSt s port).link with
      | .up => s
      | .down => linkUp port s
      | .holding => linkUp port (if holdDue s port then holdExpired port s else s))

/-- The state of a management port. -/
def mgmtSt (s : State) (m : Nat) : MgmtSt := tgetD s.net.mgmt m {}
/-- The settings of a management port (Table NET-6). -/
def mgmtCfg (s : State) (m : Nat) : MgmtParams := tgetD s.cfg.mgmt m ⟨1, 2000, 10000⟩

/-- Write the state of a management port. -/
def setMgmt (m : Nat) (x : MgmtSt) (s : State) : State := { s with net := { s.net with mgmt := tset s.net.mgmt m x } }
/-- A management port as the port parameter of its events and counters, 0x80 or 0x81. -/
def mgmtPort (m : Nat) : Nat := 0x80 + m
/-- The waiting frames of a management port go out while its link is UP and it is not paused. DESIGN CHOICE (log entry 130): a
committed ENABLE 0 leaves the port's link and its waiting frames as they are, and those may still go out. -/
def mgmtDrain (m : Nat) (s : State) : State :=
  let x := mgmtSt s m
  let p := mgmtPort m
  if x.link = .up ∧ x.paused = false then
    foldSt (fun len s => ncnt p 22 (ncnt p 21 (bumpBy (.net p 20) len s))) x.queued (setMgmt m { x with queued := [] } s)
  else s
/-- The management core sends a frame: it waits while the link holds, and is dropped and counted while it is DOWN. -/
def mgmtSend (m len : Nat) (s : State) : State :=
  let x := mgmtSt s m
  if (mgmtCfg s m).enable = 0 then s
  else if x.link = .down then ncnt (mgmtPort m) 38 s
  else mgmtDrain m (setMgmt m { x with queued := x.queued ++ [len] } s)
/-- Flush the waiting frames of a management port (R144, R157). -/
def mgmtFlush (m why : Nat) (s : State) : State :=
  let x := mgmtSt s m
  let n := x.queued.length
  if n = 0 then s
  else recordEvent (evDie 0x0203 (mgmtPort m) (min 255 n) why m (mgmtPort m))
    (bumpBy (.net (mgmtPort m) 38) n (setMgmt m { x with queued := [] } s))
/-- A management link is lost (R157); every pause ends (R147). -/
def mgmtLost (m : Nat) (s : State) : State :=
  let hold := (mgmtCfg s m).linkHold
  let x := mgmtSt s m
  let s1 := setMgmt m { x with link := if hold = 0 then .down else .holding, holdRaw := s.tim.raw, paused := false, wdHold := false } s
  let s2 := recordEvent (evDie 0x0201 (mgmtPort m) 0 0 m (mgmtPort m)) (ncnt (mgmtPort m) 37 s1)
  if hold = 0 then mgmtFlush m 0 s2 else s2
/-- LINK_HOLD of a management port has run out. -/
def mgmtHoldDue (s : State) (m : Nat) : Bool :=
  decide ((mgmtSt s m).link = .holding ∧ (mgmtSt s m).holdRaw + rawUs (mgmtCfg s m).linkHold ≤ s.tim.raw)
/-- Its frames are flushed and its link is DOWN. -/
def mgmtExpired (m : Nat) (s : State) : State := mgmtFlush m 1 (setMgmt m { mgmtSt s m with link := .down } s)

/-- LINK_HOLD runs out; a management port is named as in its events, 0x80 and 0x81 (R142, R157). -/
def execLinkHoldExpiry (port : Nat) (s : State) : Host.Outcome State Fault Refusal :=
  .next (if port = 0x80 ∨ port = 0x81 then (if mgmtHoldDue s (port - 0x80) then mgmtExpired (port - 0x80) s else s)
    else if (portSt s port).link = .holding ∧ holdDue s port = true then holdExpired port s else s)

/-- A management link changes (R156, R157). -/
def execMgmtLinkChange (mport : Nat) (up : Bool) (s : State) : Host.Outcome State Fault Refusal :=
  .next (if 1 < mport ∨ (mgmtCfg s mport).enable = 0 then s
    else if up then
      (if (mgmtSt s mport).link = .up then s
      else
        let s1 := if mgmtHoldDue s mport then mgmtExpired mport s else s
        mgmtDrain mport (recordEvent (evDie 0x0202 (mgmtPort mport) 0 0 mport (mgmtPort mport))
          (setMgmt mport { mgmtSt s1 mport with link := .up } s1)))
    else if (mgmtSt s mport).link = .up then mgmtLost mport s
    else s)

/-! ### Enable and disable (R135, R146, R162) -/

/-- Entry into DRAINING (R146): express frames are flushed, and every frame when the link is not UP. -/
def portDrain (port : Nat) (s : State) : State :=
  let x := portSt s port
  let s1 := setPort port { clearPauses x with drainRaw := s.tim.raw } s
  flushPort port 3 (fun c => decide (x.link ≠ .up) || isExpress s port c.cls) s1

/-- Entry into STARTING (R135). -/
def portStart (port : Nat) (s : State) : State :=
  hostDomain (port / 4) 9 (setPort port { portSt s port with startRaw := s.tim.raw, link := .down } s)

/-- Enable or disable a port, by command or by scheduled action (09 Table GRF-6). -/
def portChange (port : Nat) (en : Bool) (jseq : Nat) (s : State) : State × Nat :=
  let x := portSt s port
  let (o, st, act) := objChange en x.o
  let s1 := setPort port { x with o := o } s
  (match act with
    | .nothing => s1
    | .start => portStart port s1
    | .drain => portDrain port s1
    | .cancel => evCancel 0x02 port jseq s1, st)

/-- The PCS and MAC of a port are loaded: ON with the link DOWN, or DRAINING when a drain is booked (R135). -/
def execPortStarted (port : Nat) (s : State) : Host.Outcome State Fault Refusal :=
  .next (let x := portSt s port
    if x.o.obj ≠ .starting then s
    else
      let (o, act) := objStarted x.o
      let s1 := setPort port { x with o := o, link := .down, mode := modeOf (portCfg s port) } s
      if act = .drain then portDrain port s1 else s1)

/-- The drain of a port ends: its queues are empty, or LINK_HOLD has run (R146). -/
def portOff (port : Nat) (s : State) : State :=
  let s1 := flushPort port 2 (fun _ => true) s
  let x := portSt s1 port
  let s2 := if x.link = .up then
      recordEvent (evDie 0x0201 port 5 0 (port / 4) port) (ncnt port 37 s1) else s1
  let (o, act) := objDrained x.o
  let changed := if x.link = .up then (now s).sec else x.lastChange
  let s3 := setPort port { clearVerify (clearPauses x) with o := o, link := .down, begun := none, lastChange := changed } s2
  if act = .start then evStart 0x02 port (portStart port s3) else s3

/-- DRAINING of a port ends. -/
def execPortDrainEnd (port : Nat) (s : State) : Host.Outcome State Fault Refusal :=
  .next (let x := portSt s port
    if x.o.obj = .draining ∧ ((destCopies s (port / 4) (port % 4)).isEmpty = true
        ∨ x.drainRaw + rawUs (portCfg s port).linkHold ≤ s.tim.raw) then portOff port s
    else s)

/-! ### Preemption (R151) -/

/-- The first respond mPacket: verification succeeds. -/
def execPreemptRespond (port : Nat) (s : State) : Host.Outcome State Fault Refusal :=
  .next (let x := portSt s port
    if x.verify = 1 ∧ preemptEn (portCfg s port) = true then
      recordEvent (evDie 0x0205 port 0 0 (port / 4) port) (setPort port { x with verify := 2, preemptActive := true } s)
    else s)

/-- VERIFY_TIME has passed without a respond: another verify mPacket, up to 3, and then failure. -/
def execPreemptVerifyTimeout (port : Nat) (s : State) : Host.Outcome State Fault Refusal :=
  .next (let x := portSt s port
    if x.verify = 1 ∧ x.verRaw + rawMs (portCfg s port).verifyTime ≤ s.tim.raw then
      if x.verTries < 3 then setPort port { x with verTries := x.verTries + 1, verRaw := s.tim.raw } s
      else recordEvent (evDie 0x0205 port 1 0 (port / 4) port) (setPort port { x with verify := 3 } s)
    else s)

/-! ### Flow control (R153, R155) -/

/-- Unpause classes of a mask. -/
def unpause (mask : Nat) (x : PortSt) : PortSt :=
  { x with paused := (x.paused &&& (0xFF - mask % 256)),
           pauseStart := x.pauseStart.filter (fun e => !bitN mask e.1),
           pauseEnd := x.pauseEnd.filter (fun e => !bitN mask e.1) }

/-- One class takes a quantum: 0 ends its pause, another value starts or renews it. -/
def pauseClass (s : State) (port cls q : Nat) (x : PortSt) : PortSt :=
  if q = 0 then unpause (1 <<< cls) x
  else { x with paused := x.paused ||| (1 <<< cls),
                pauseStart := if bitN x.paused cls then x.pauseStart else tset x.pauseStart cls s.tim.raw,
                pauseEnd := tset x.pauseEnd cls (s.tim.raw + quantumTicks s port q) }

/-- A received PAUSE or PFC frame of 64 octets is counted. -/
def pauseCounts (port : Nat) (pfc : Bool) (s : State) : State :=
  ncnt port (if pfc then 11 else 10) (ncnt port 13 (ncnt port 3 (ncnt port 1 (bumpBy (.net port 0) 64 s))))
/-- A management port obeys PAUSE, not PFC; one quantum is 512 ns at 1 Gb/s (R153, R156, R157). DESIGN CHOICE (log entry 131): a
PFC frame received there counts as a frame, and not in NET_RX_PFC. -/
def mgmtPause (m : Nat) (pfc : Bool) (q : Nat) (s : State) : State :=
  let x := mgmtSt s m
  if (mgmtCfg s m).enable = 0 then s
  else if pfc then ncnt (mgmtPort m) 3 (ncnt (mgmtPort m) 1 (ncnt (mgmtPort m) 13 (bumpBy (.net (mgmtPort m) 0) 64 s)))
  else
    let s1 := pauseCounts (mgmtPort m) false s
    if x.wdHold then ncnt (mgmtPort m) 12 s1
    else if q = 0 then mgmtDrain m (setMgmt m { x with paused := false } s1)
    else setMgmt m { x with paused := true, pauseStart := if x.paused then x.pauseStart else s.tim.raw, pauseEnd := s.tim.raw + 256 * q } s1
/-- A port takes a pause frame: ignored for classes on watchdog hold, obeyed for the others. -/
def portPause (port : Nat) (pfc : Bool) (classes : Nat) (quanta : List Nat) (s : State) : State :=
  let x := portSt s port
  let mask := if pfc then classes % 256 else 0xFF
  let s1 := pauseCounts port pfc s
  let s2 := if mask &&& x.wdHold = 0 then s1 else ncnt port 12 s1
  let act := (List.range 8).filter (fun c => bitN mask c && !bitN x.wdHold c)
  setPort port (act.foldl (fun x c => pauseClass s port c (nth quanta (if pfc then c else 0) 0) x) (portSt s2 port)) s2
/-- A PAUSE or PFC frame is received. -/
def execPauseFrame (port : Nat) (pfc : Bool) (classes : Nat) (quanta : List Nat) (s : State) : Host.Outcome State Fault Refusal :=
  .next (if port = 0x80 ∨ port = 0x81 then mgmtPause (port - 0x80) pfc (nth quanta 0 0) s
    else if (portSt s port).o.obj ≠ .on then s
    else portPause port pfc classes quanta s)

/-- The pause of a class, or of a management port, runs out. -/
def execPauseExpiry (port cls : Nat) (s : State) : Host.Outcome State Fault Refusal :=
  .next (if port = 0x80 ∨ port = 0x81 then
      let m := port - 0x80
      let x := mgmtSt s m
      if x.paused = true ∧ x.pauseEnd ≤ s.tim.raw then mgmtDrain m (setMgmt m { x with paused := false } s) else s
    else
      let x := portSt s port
      match tget x.pauseEnd cls with
      | some e => if e ≤ s.tim.raw then setPort port (unpause (1 <<< cls) x) s else s
      | none => s)

/-- Classes paused for longer than PAUSE_WD_LIMIT, of the earliest start: the mask and the start. -/
def wdTripped (s : State) (port : Nat) : Nat × Nat :=
  let x := portSt s port
  let due := x.pauseStart.filter (fun e => bitN x.paused e.1 && decide (e.2 + rawUs (portCfg s port).pauseWdLimit < s.tim.raw))
  let t := due.foldl (fun m e => min m e.2) s.tim.raw
  (sumN ((due.filter (fun e => e.2 == t)).map (fun e => 1 <<< e.1)), t)

/-- The watchdog of a port trips: one event names the classes of one reception (R155). -/
def wdTrip (port : Nat) (s : State) : State :=
  let (mask, t) := wdTripped s port
  if mask = 0 then s
  else
    let x := portSt s port
    let cl := (List.range 8).filter (bitN mask)
    let x1 := { unpause mask x with wdHold := x.wdHold ||| mask,
                                    wdHoldRaw := cl.foldl (fun t c => tset t c s.tim.raw) x.wdHoldRaw }
    let s1 := foldSt (fun c s => ncnt port (46 + c) s) cl (setPort port x1 s)
    recordEvent (evDie 0x0204 port mask ((s.tim.raw - t) / 500) (port / 4) port) s1
/-- The fixed watchdog of a management port: 10 ms (R157). -/
def mgmtTrip (m : Nat) (s : State) : State :=
  let x := mgmtSt s m
  if x.paused = true ∧ x.pauseStart + rawMs 10 < s.tim.raw then
    let s1 := foldSt (fun c s => ncnt (mgmtPort m) (46 + c) s) (List.range 8)
      (setMgmt m { x with paused := false, wdHold := true, wdHoldRaw := s.tim.raw } s)
    mgmtDrain m (recordEvent (evDie 0x0204 (mgmtPort m) 0xFF ((s.tim.raw - x.pauseStart) / 500) m (mgmtPort m)) s1)
  else s
/-- The pause watchdog trips. -/
def execPauseWdTrip (port : Nat) (s : State) : Host.Outcome State Fault Refusal :=
  .next (if port = 0x80 ∨ port = 0x81 then mgmtTrip (port - 0x80) s else wdTrip port s)

/-- PAUSE_WD_HOLD ends: the classes obey flow control again; 1 s on a management port. -/
def execPauseWdHoldEnd (port : Nat) (s : State) : Host.Outcome State Fault Refusal :=
  .next (if port = 0x80 ∨ port = 0x81 then
      let x := mgmtSt s (port - 0x80)
      if x.wdHold = true ∧ x.wdHoldRaw + rawSec 1 ≤ s.tim.raw then setMgmt (port - 0x80) { x with wdHold := false } s else s
    else
      let x := portSt s port
      let cl := (List.range 8).filter (fun c => bitN x.wdHold c &&
        decide (tgetD x.wdHoldRaw c 0 + rawMs (portCfg s port).pauseWdHold ≤ s.tim.raw))
      let mask := sumN (cl.map (fun c => 1 <<< c))
      if mask = 0 then s
      else setPort port { x with wdHold := x.wdHold &&& (0xFF - mask), wdHoldRaw := x.wdHoldRaw.filter (fun e => !bitN mask e.1) } s)

/-! ### Cages (R134, 20 R584) -/

/-- A cage module is inserted: accepted when its map declares four usable lanes at the configured speed and a power class
from 1 to 4. -/
def execCageInsert (cage : Nat) (fourLanes : Bool) (speeds : List Nat) (powerClass : Nat) (s : State) :
    Host.Outcome State Fault Refusal :=
  .next (if !hasDie s cage then s
    else
      let usable := fourLanes && decide (1 ≤ powerClass ∧ powerClass ≤ 4)
      let s1 := { s with net := { s.net with cages := tset s.net.cages cage ⟨true, usable, speeds⟩ } }
      recordEvent (evDie 0x0206 cage (if cageAccepts s1 cage then 0 else 2) 0 cage cage) s1)

/-- A cage module is removed: every enabled port of the cage with its link UP loses it with cause 3. -/
def execCageRemove (cage : Nat) (s : State) : Host.Outcome State Fault Refusal :=
  .next (if !hasDie s cage || !(tgetD s.net.cages cage {}).present then s
    else
      let s1 := { s with net := { s.net with cages := tset s.net.cages cage {} } }
      let s2 := recordEvent (evDie 0x0206 cage 1 0 cage cage) s1
      foldSt (fun n s => linkLost (4 * cage + n) 3 s) [0, 1, 2, 3] s2)

/-! ### Egress (R150, 05 R184) -/

/-- The classes that may transmit now, from 7 down, with the first copy of each. -/
def eligible (s : State) (port : Nat) : List Copy :=
  ([7, 6, 5, 4, 3, 2, 1, 0].filter (fun c => !bitN (portSt s port).paused c)).filterMap
    (fun c => ((queueCopies s (port / 4) (port % 4) c).filter (fun x => !hasBegun s port x)).head?)

/-- RAW at which the transmission of a copy began: now, for one whose row begins and ends it (03 R107). -/
def frameStart (s : State) (port : Nat) (c : Copy) : Nat :=
  match (portSt s port).begun with
  | some b => if b.copy == c then b.frameRaw else s.tim.raw
  | none => s.tim.raw
/-- A copy leaves: transmitted completely, or dropped when a cell fails parity at the read (05 R184). -/
def transmit (port : Nat) (c : Copy) (parityBad : Bool) (s : State) : State :=
  let bad := parityBad || chainBad s c.chain
  let x := portSt s port
  let s1 := setPort port { x with begun := match x.begun with | some b => if b.copy == c then none else some b | none => none } s
  let s2 := if bad then bump (.swcParityDrop c.die c.dest) (if parityBad then spoilChain c.die c.chain s1 else s1)
    else txCounts port c.info (frameStart s port c) s1
  releaseCopies (fun d => d == c) s2

/-- Bytes of the fragment in transmission, from the line rate: 6.25 or 2.5 bytes a tick of RAW. -/
def fragBytes (s : State) (port : Nat) (b : Begun) : Nat :=
  (s.tim.raw - b.startRaw) * (if (portCfg s port).speed = 0 then 25 else 10) / 4
/-- The minimum size of a fragment that is not the last (R152). -/
def minFragment (s : State) (port : Nat) : Nat := ((portCfg s port).addFrag + 1) * 64
/-- The frame in transmission has reached a point at which it can be interrupted (R150, R152). -/
def canInterrupt (s : State) (port : Nat) (b : Begun) : Bool := decide (minFragment s port ≤ fragBytes s port b)
/-- Every byte of the frame in transmission has been sent. -/
def allSent (s : State) (port : Nat) (b : Begun) : Bool := decide (b.copy.info.len ≤ b.sent + fragBytes s port b)
/-- An express frame interrupts the preemptable frame in transmission, once the fragment is long enough (R150, R152). -/
def interrupt (port : Nat) (b : Begun) (s : State) : State :=
  ncnt port 30 (setPort port { portSt s port with begun := some { b with held := true, sent := b.sent + max (minFragment s port) (fragBytes s port b) } } s)
/-- The interrupted frame goes on with another fragment. -/
def resume (port : Nat) (b : Begun) (s : State) : State :=
  ncnt port 29 (setPort port { portSt s port with begun := some { b with held := false, startRaw := s.tim.raw } } s)

/-- What a port transmits while a frame's transmission has begun (R150): the express frame that interrupts it or that finds it
interrupted, nothing while the fragment is too short for the interruption, or the frame itself. -/
def transmitBegun (port : Nat) (b : Begun) (parityBad beginOnly : Bool) (s : State) : State :=
  let x := portSt s port
  match (if x.preemptActive && !isExpress s port b.copy.cls then (eligible s port).find? (fun e => isExpress s port e.cls) else none) with
  | some e =>
    if b.held then transmit port e parityBad s
    else if allSent s port b then transmit port b.copy parityBad s
    else if canInterrupt s port b then transmit port e parityBad (interrupt port b s)
    else s
  | none =>
    let s1 := if b.held then resume port b s else s
    if b.held && beginOnly then s1 else transmit port b.copy parityBad s1
/-- A port transmits its next frame (R150). `beginOnly` begins or resumes a frame and leaves it in transmission. -/
def execEgressTransmit (port : Nat) (parityBad : Bool) (beginOnly : Bool) (s : State) : Host.Outcome State Fault Refusal :=
  .next (let x := portSt s port
    if x.link ≠ .up ∨ (x.o.obj ≠ .on ∧ x.o.obj ≠ .draining) then s
    else match x.begun with
      | some b => transmitBegun port b parityBad beginOnly s
      | none =>
        match (eligible s port).head? with
        | none => s
        | some c => if beginOnly then setPort port { x with begun := some ⟨c, false, 0, s.tim.raw, s.tim.raw⟩ } s else transmit port c parityBad s)

/-! ### PRP supervision and peer delay (R148, 03 R115) -/

/-- The supervision frame of a pair. -/
def supervisionInfo : CopyInfo :=
  { da := 0x01154E000100, len := 64, prp := none, ptpEvent := false, supervision := true, body := .other, rx := none }
/-- Each pair sends its supervision frame every 2 s: from the own identity, on both ports, under one sequence number. -/
def execPrpSupervisionSend (port : Nat) (s : State) : Host.Outcome State Fault Refusal :=
  .next (if !hasPort s port || !paired s port || !periodOver s (tget s.net.supRaw (pairKey s port)) (rawSec 2) then s
    else sendIdentity port 0 supervisionInfo { s with net := { s.net with supRaw := tset s.net.supRaw (pairKey s port) s.tim.raw } })

/-- The frame length of a peer-delay message, from IEEE 1588 over Ethernet: 14 + 54 + 4. PRESUMED (log entry 14). -/
def pdelayLen : Nat := 72
/-- A peer-delay message of the module, an event message; a response remembers when its request came. -/
def pdelayInfo (kind : PtpKind) (rx : Option RxInfo) : CopyInfo :=
  { da := 0x0180C200000E, len := pdelayLen, prp := none, ptpEvent := true, supervision := false, body := .ptp ⟨kind, false, 0, 0⟩, rx }
/-- A port answers a Pdelay_Req with a one-step Pdelay_Resp; the sub-tick of the receive stamp is a free value (log entry 129).
DESIGN CHOICE (log entry 146): the module's own peer-delay messages wait in class 7. -/
def execPtpPdelayReq (port : Nat) (s : State) : Host.Outcome State Fault Refusal :=
  .next (if (portSt s port).o.obj = .on then
      let (q, s1) := freeNat 8 s
      sendPort port 7 (pdelayInfo .pdelayResp (some ⟨port, rxStamp s1 port s1.tim.raw q⟩)) s1
    else s)
/-- A port sends its own Pdelay_Req every 1 s (03 R115), in class 7 (log entry 146, DESIGN CHOICE). -/
def execPdelayReqSend (port : Nat) (s : State) : Host.Outcome State Fault Refusal :=
  .next (let x := portSt s port
    if x.o.obj = .on ∧ periodOver s x.pdelayRaw (rawSec 1) = true then
      sendPort port 7 (pdelayInfo .pdelayReq none) (setPort port { x with pdelayRaw := some s.tim.raw } s)
    else s)
/-- A Pdelay_Resp gives the link delay of its port; the time unit takes the transmit stamps that wait. -/
def execPtpPdelayResp (port : Nat) (delay : Int) (s : State) : Host.Outcome State Fault Refusal :=
  .next (if (portSt s port).o.obj = .on then
      setPort port { portSt s port with txStamps := [] } { s with tim := { s.tim with linkDelay := tset s.tim.linkDelay port delay } }
    else s)

/-! ### Commands (R161) -/

/-- NET_PORT_CONFIG (Table NET-6). -/
def netPortConfigPacket (h : Hdr) (port : Nat) (p : PortParams) : Packet :=
  { configPacket h 0x0200 (fun _ => decide (p.speed ≤ 1 ∧ p.fec ≤ 2 ∧ (p.partner = 0xFF ∨ p.partner / 4 = port / 4) ∧ p.lan ≤ 1
      ∧ p.express ≤ 255 ∧ p.preempt ≤ 3 ∧ p.addFrag ≤ 3 ∧ 1 ≤ p.verifyTime ∧ p.verifyTime ≤ 128 ∧ 1518 ≤ p.maxFrame ∧ p.maxFrame ≤ 9216
      ∧ 100 ≤ p.pauseWdLimit ∧ p.pauseWdLimit ≤ 1000000 ∧ 1 ≤ p.pauseWdHold ∧ p.pauseWdHold ≤ 60000 ∧ p.linkHold ≤ 1000000))
      (.port port p) with
    unsupported := fun s => !hasPort s port || (p.partner != 0xFF && !hasPort s p.partner) }
/-- NET_PORT_CONFIG. -/
def execNetPortConfig (h : Hdr) (port : Nat) (p : PortParams) (s : State) : Host.Outcome State Fault Refusal :=
  .next (submit (.netPortConfig h port p) (netPortConfigPacket h port p) s)

/-- NET_MGMT_CONFIG (Table NET-6). -/
def netMgmtConfigPacket (h : Hdr) (mport : Nat) (p : MgmtParams) : Packet :=
  configPacket h 0x0201 (fun _ => decide (mport ≤ 1 ∧ p.enable ≤ 1 ∧ 1518 ≤ p.maxFrame ∧ p.maxFrame ≤ 9216
    ∧ p.linkHold ≤ 1000000)) (.mgmt mport p)
/-- NET_MGMT_CONFIG. -/
def execNetMgmtConfig (h : Hdr) (mport : Nat) (p : MgmtParams) (s : State) : Host.Outcome State Fault Refusal :=
  .next (submit (.netMgmtConfig h mport p) (netMgmtConfigPacket h mport p) s)

/-- NET_PORT_ENABLE (R135, R146). -/
def netPortEnablePacket (h : Hdr) (port enable : Nat) : Packet :=
  { h, opcode := 0x0240, pfOnly := true, busyBefore := true, unsupported := fun s => !hasPort s port,
    eff := fun j s => if 1 < enable then failRes stFailed s
      else let r := portChange port (enable == 1) j s; .done r.2 0 r.1 }
/-- NET_PORT_ENABLE. -/
def execNetPortEnable (h : Hdr) (port enable : Nat) (s : State) : Host.Outcome State Fault Refusal :=
  .next (submit (.netPortEnable h port enable) (netPortEnablePacket h port enable) s)

/-- LINK as a number (Table NET-3). -/
def linkNum : Link → Nat
  | .down => 0 | .up => 1 | .holding => 2
/-- NET_PORT_STATE (Table NET-3). -/
def portWord (s : State) (p : Nat) : Nat :=
  let x := portSt s p
  let c := tgetD s.net.cages (p / 4) {}
  x.wdHold * 2 ^ 24 + x.paused * 2 ^ 16 + bbit (cageAccepts s (p / 4)) 14 + bbit c.present 13 + x.mode * 1024 + x.verify * 256
    + bbit x.preemptActive 7 + linkNum x.link * 16 + objNum x.o.obj
/-- NET_PORT_STATUS (Table NET-5). -/
def netPortStatusPacket (h : Hdr) (port : Nat) : Packet :=
  { h, opcode := 0x0280, pfOnly := false, unsupported := fun s => !hasPort s port,
    eff := fun _ s => .done stOk (resB 0 (portWord s port) ||| resB 8 (portSt s port).lastChange) s }
/-- NET_PORT_STATUS. -/
def execNetPortStatus (h : Hdr) (port : Nat) (s : State) : Host.Outcome State Fault Refusal :=
  .next (submit (.netPortStatus h port) (netPortStatusPacket h port) s)

end Sys2Proof.Machine
end

