-- ==== Sys2Proof/Machine/Switch.lean ====
section
/-! DEFINITION. The switch core (05): lookup, learning, the duplicate filter, cut-through, delivery to the destinations of
a die, crossing to other dies, and the commands of the switch class. -/
namespace Sys2Proof.Machine

/-- Settings of a port for forwarding, with the defaults of Table SWC-6. -/
def fwdCfg (s : State) (p : Nat) : PortFwd := tgetD s.cfg.portFwd p ⟨0, 1, 0, 0⟩

/-- Class and VID of a received frame (R165). -/
def classVid (s : State) (port : Nat) (f : Frame) : Nat × Nat :=
  let c := fwdCfg s port
  match f.tag with
  | none => (c.defClass, c.pvid)
  | some (pcp, vid) => (pcp % 8, if vid = 0 then c.pvid else vid)

/-! ### Lookup (R172, Table SWC-2) -/

/-- The valid static entry of a key on a die, with its index. -/
def staticFind (s : State) (die mac vid : Nat) : Option (Nat × McastEntry) :=
  (s.cfg.mcast.find? (fun e => e.1.1 == die && e.2.valid == 1 && e.2.mac == mac && e.2.vid == vid)).map (fun e => (e.1.2, e.2))
/-- The learned entry of a key on a die. -/
def learnedFind (s : State) (die mac vid : Nat) : Option Learned :=
  s.swc.learned.find? (fun l => l.die == die && l.mac == mac && l.vid == vid)

/-- What a lookup answers: its row, the ports, the consumers, and the static index. -/
structure Lookup where
  row : Nat
  ports : Nat
  consumers : Nat
  index : Nat
  deriving DecidableEq, Repr, Inhabited

/-- The forwarding decision for a good frame (Table SWC-2); a learned entry that failed parity is not found. -/
def lookup (s : State) (port da vid : Nat) (learnedBad : Bool) : Lookup :=
  let die := port / 4
  if da = 0x0180C200000E then ⟨2, 0, 4, 0xFFFF⟩
  else if da / 16 = 0x0180C200000 then ⟨3, 0, 8, 0xFFFF⟩
  else if da = Config.factoryMac then ⟨4, 0, 8, 0xFFFF⟩
  else match staticFind s die da vid with
    | some (i, e) => ⟨5, e.ports, e.consumers, i⟩
    | none =>
      let flood := (fwdCfg s port).flood
      if isBcast da then ⟨7, flood, 8, 0xFFFF⟩
      else if isMcast da then ⟨9, 0, 0, 0xFFFF⟩
      else match (if learnedBad then none else learnedFind s die da vid) with
        | some l => ⟨6, 1 <<< l.port, 0, 0xFFFF⟩
        | none => ⟨8, flood, 0, 0xFFFF⟩

/-- The ports that stay after R173: not the ingress port, no port of another LAN, no port that is OFF. -/
def allowedPorts (s : State) (port mask : Nat) : List Nat :=
  (List.range (Config.ports s.variant)).filter (fun p =>
    bitN mask p && p != port && lanOf s p == lanOf s port && decide ((portSt s p).o.obj ≠ .off))

/-! ### Learning (R175) -/

/-- Entries of the learned table. -/
def learnCap : Nat := 32768

/-- The lowest free index of a die's table. DESIGN CHOICE (log entry 132): where an entry stands in it. -/
def freeSlot (s : State) (die : Nat) : Nat :=
  (firstFrom (fun i => !s.swc.learned.any (fun l => l.die == die && l.slot == i)) (learnCap + 1) 0).getD 0
/-- Learn the source of a frame received without error on a LEARN port. -/
def learn (port sa vid : Nat) (s : State) : State :=
  let die := port / 4
  if (fwdCfg s port).learn = 0 then s
  else match learnedFind s die sa vid with
    | some _ => { s with swc := { s.swc with learned := s.swc.learned.map (fun l =>
        if l.die == die && l.mac == sa && l.vid == vid then { l with port := port, usedRaw := s.tim.raw } else l) } }
    | none =>
      if learnCap ≤ (s.swc.learned.filter (fun l => l.die == die)).length then
        raiseCounting die 1 0 (evDie 0x0302 die 0 0 die die) (bump (.swcLearnFull die) s)
      else { s with swc := { s.swc with learned := s.swc.learned ++ [⟨die, sa, vid, port, s.tim.raw, freeSlot s die⟩] } }

/-! ### The duplicate filter (R176, R177) -/

/-- Entries of the duplicate filter. -/
def ddCap : Nat := 16384

/-- Pass the filter: the answer says whether the copy is delivered. -/
def ddPass (port : Nat) (f : Frame) (copies : Nat) (s : State) : State × Bool :=
  match f.prp, f.body with
  | some t, .sv _ | some t, .goose _ | some t, .other =>
    if !paired s port then (s, true)
    else
      let die := port / 4
      let here (e : DdEntry) : Bool := e.die == die && e.sa == f.sa && e.seq == t.seq
      if s.swc.dd.any here then
        (bumpBy (.swcDdDiscard die) copies { s with swc := { s.swc with dd := s.swc.dd.filter (fun e => !here e) } }, false)
      else
        let mine := s.swc.dd.filter (fun e => e.die == die)
        let s1 := if ddCap ≤ mine.length then
            match mine with
            | [] => s
            | o :: _ => bump (.swcDdForgot die) { s with swc := { s.swc with dd := s.swc.dd.erase o } }
          else s
        ({ s1 with swc := { s1.swc with dd := s1.swc.dd ++ [⟨die, f.sa, t.seq, s1.tim.raw⟩] } }, true)
  | _, _ => (s, true)

/-! ### Delivery on a die (R169, R178, R183) -/

/-- A PTP message is an event message (03 R115). -/
def isEvent : PtpKind → Bool
  | .followUp | .general => false
  | _ => true
/-- What a copy carries on its way out. -/
def copyInfo (f : Frame) (rx : RxInfo) : CopyInfo :=
  { da := f.da, len := f.len, prp := none, ptpEvent := match f.body with | .ptp m => isEvent m.kind | _ => false, supervision := false,
    body := f.body, rx := some rx }

/-- A copy for a port is cut through (R178). -/
def cutThrough (s : State) (src p cls : Nat) : Bool :=
  let x := portSt s p
  let beginning := match x.begun with
    | some b => isExpress s p b.copy.cls || !x.preemptActive
    | none => false
  isExpress s p cls && (portCfg s src).speed == (portCfg s p).speed && x.link == .up && x.o.obj == .on
    && !bitN x.paused cls && !beginning
    && ((List.range 8).filter (fun k => decide (cls ≤ k) && (k == cls || isExpress s p k))).all
        (fun k => (queueCopies s (p / 4) (p % 4) k).isEmpty)

/-- A cut-through copy goes onto the wire with the frame: it interrupts a preemptable frame at the next point that the minimum
fragment allows, or follows one that ends before that point (04 R150), and ends with an invalid FCS when the frame's FCS fails
(R178, R181). DESIGN CHOICE (log entry 151): a copy so ended counts in neither NET_TX_OCTETS nor NET_TX_FRAMES. -/
def sendCut (p : Nat) (i : CopyInfo) (good : Bool) (s : State) : State :=
  let s1 := match (portSt s p).begun with
    | some b => if b.held then s
      else if b.copy.info.len ≤ b.sent + max (minFragment s p) (fragBytes s p b) then transmit p b.copy false s
      else interrupt p b s
    | none => s
  let s2 := bump (.swcCutThrough (p / 4)) s1
  if good then txCounts p i s2.tim.raw s2 else bump (.swcBadCut (p / 4) (p % 4)) s2

/-- The ports to which a frame is cut through: the conditions of R178 hold and the queue admits the longest frame (R171). -/
def cutPorts (s : State) (src cls : Nat) (ports : List Nat) : List Nat :=
  ports.filter (fun p => !downFor s p cls && cutThrough s src p cls
    && admitCopy s (p / 4) (p % 4) cls (cellsOf (portCfg s src).maxFrame) != .refused)
/-- Some copy of a frame with a bad FCS had been cut through before its end (R181). -/
def anyCut (s : State) (src cls : Nat) (ports : List Nat) : Bool := !(cutPorts s src cls ports).isEmpty

/-- Deliver a frame to destinations of one die: each decides alone, and what is stored forms one chain. A frame that is cut
through to some port is admitted everywhere by the cells of the longest frame, and what it did not use returns at its end (R171).
`consumers` are the internal destinations 4 to 7 as their mask. The time unit, the management core
and the engines take theirs when they come to them (log entry 16). A port that is OFF takes nothing (04 R135). -/
def deliver (die src cls : Nat) (f : Frame) (good : Bool) (rx : RxInfo) (allPorts : List Nat) (consumers : Nat) (s : State) : State :=
  let ports := allPorts.filter (fun p => decide ((portSt s p).o.obj ≠ .off))
  let n := cellsOf f.len
  let most := cellsOf (portCfg s src).maxFrame
  let i := copyInfo f rx
  let down := ports.filter (fun p => downFor s p cls)
  let up := ports.filter (fun p => !downFor s p cls)
  let cut := cutPorts s src cls ports
  let cutRefused := up.filter (fun p => cutThrough s src p cls && !cut.contains p)
  let store := up.filter (fun p => !cutThrough s src p cls)
  let inner := (List.range 4).filter (bitN consumers)
  let charged := if cut.isEmpty then n else most
  let dests := store.map (· % 4) ++ inner.map (· + 4)
  let adm := dests.map (fun d => (d, admitCopy s die d cls charged))
  let taken := adm.filter (fun d => d.2 != .refused)
  let cutAdm := cut.map (fun p => (p % 4, admitCopy s die (p % 4) cls most))
  let s1 := foldSt (fun p s => ncnt p (38 + cls) s) down s
  let s2 := foldSt (fun p s => tailDrop die (p % 4) cls s) cutRefused s1
  let s3 := foldSt (fun d s => if d.2 == .refused then tailDrop die d.1 cls s else s) adm s2
  let keep := if good then taken.map (·.1) else []
  let s4 := queueChain die cls n charged (cutAdm ++ taken) keep i s3
  let s5 := foldSt (fun p s => sendCut p i good s) cut s4
  if good then s5 else foldSt (fun d s => bump (.swcBadCut die d.1) s) taken s5

/-! ### Frames received (R172 to R182) -/

/-- Counters of a received frame under a MAX_FRAME (04 Table NET-4). -/
def rxCountsMax (p max : Nat) (f : Frame) (s : State) : State :=
  let s1 := bumpBy (.net p 0) f.len s
  let s2 := if max < f.len then ncnt p 8 s1 else s1
  if !f.fcsOk then ncnt p (if f.len < 64 then 7 else 5) s2
  else
    let b := if f.len = 64 then 0 else if f.len < 128 then 1 else if f.len < 256 then 2 else if f.len < 512 then 3
      else if f.len < 1024 then 4 else if f.len < 1519 then 5 else 6
    let s3 := if f.len < 64 then ncnt p 6 s2
      else if max < f.len then s2
      else ncnt p (13 + b) (castCount p 2 f.da (ncnt p 1 s2))
    match f.prp with
    | some t => (if t.lan != lanOf s p then ncnt p 32 else id) (ncnt p 31 s3)
    | none => s3

/-- Counters of a frame on an external port, with those of the MAC merge sublayer. -/
def rxCounts (p : Nat) (f : Frame) (s : State) : State :=
  let s1 := rxCountsMax p (portCfg s p).maxFrame f s
  if f.frags = 0 then s1 else ncnt p 25 (bumpBy (.net p 28) f.frags s1)
/-- The counter of a fault, with the octets of what it spoils, good or bad (04 R138, Table NET-4). -/
def faultCount (p : Nat) (f : Frame) (s : State) : State :=
  let s1 := bumpBy (.net p 0) f.len s
  match f.fault with
  | .none => s
  | .pcs => ncnt p 9 s1
  | .assembly => ncnt p 26 (bumpBy (.net p 28) f.frags s1)
  | .smd => ncnt p 27 s1

/-- A frame without error and of an allowed length. -/
def goodFrame (s : State) (p : Nat) (f : Frame) : Bool := f.fcsOk && decide (64 ≤ f.len ∧ f.len ≤ (portCfg s p).maxFrame)

/-- Cross the fabric once for each other die that has destinations (R182). -/
def crossOthers (src cls : Nat) (f : Frame) (rx : RxInfo) (ports : List Nat) (s : State) : State :=
  let dies := (List.range (Config.dies s.variant)).filter (fun d => d != src / 4 && ports.any (fun p => p / 4 == d))
  { s with swc := { s.swc with fabric := s.swc.fabric ++ dies.map (fun d =>
      ⟨d, src, sumN ((ports.filter (fun p => p / 4 == d)).map (fun p => 1 <<< p)), cls, f, rx⟩) } }

/-- Forward a frame by its lookup (R172, R173, R176, R183). DESIGN CHOICE (log entry 148): the duplicate filter stands before the
admission, so that a copy which its queue then refuses has made its entry. -/
def forward (port cls : Nat) (f : Frame) (good : Bool) (rx : RxInfo) (k : Lookup) (s : State) : State :=
  let ports := allowedPorts s port k.ports
  let die := port / 4
  let mine := ports.filter (fun p => p / 4 == die)
  if good then
    let s0 := if k.row = 9 ∨ (k.row = 8 ∧ ports.isEmpty = true) then bump (.swcUnknownDrop die) s else s
    let filt := k.consumers &&& 10
    let nf := (if bitN filt 1 then 1 else 0) + (if bitN filt 3 then 1 else 0)
    let (s1, pass) := if filt = 0 then (s0, true) else ddPass port f nf s0
    let cons := if pass then k.consumers else k.consumers &&& 5
    crossOthers port cls f rx ports (deliver die port cls f true rx mine cons s1)
  else if anyCut s port cls ports then
    crossOthers port cls f rx ports (deliver die port cls f false rx mine k.consumers s)
  else s

/-- A static entry fails parity at a lookup: the frame is dropped and counted, and the entry waits to be rewritten (R185). -/
def staticFault (die index : Nat) (s : State) : State :=
  let s1 := recordEvent (evDie 0x0301 die 0 index die die) (bump (.parity 9 die) (bump (.swcTableParity die) s))
  if s1.swc.badStatic.contains (die, index) then s1 else { s1 with swc := { s1.swc with badStatic := s1.swc.badStatic ++ [(die, index)] } }
/-- A learned entry fails parity at a lookup: it is removed (R185). -/
def learnedFault (die mac vid : Nat) (s : State) : State :=
  match learnedFind s die mac vid with
  | some l => recordEvent (evDie 0x0301 die 1 l.slot die die) { bump (.parity 9 die) s with swc := { s.swc with
      learned := s.swc.learned.filter (fun l => !(l.die == die && l.mac == mac && l.vid == vid)) } }
  | none => s
/-- A frame received on a management port, which has neither PRP nor preemption counters (R157). -/
def mgmtReceive (port : Nat) (f : Frame) (s : State) : State :=
  if (mgmtCfg s (port - 0x80)).enable ≠ 1 then s
  else match f.fault with
    | .none => rxCountsMax port (mgmtCfg s (port - 0x80)).maxFrame { f with prp := none } s
    | .pcs => ncnt port 9 (bumpBy (.net port 0) f.len s)
    | _ => s

/-- A frame is received on an external port and stamped (R172, 03 R107). `staticParity`: the table entry that matches fails parity
(R185). -/
def execFrameReceive (port raw sub : Nat) (f : Frame) (staticParity : Bool) (s : State) : Host.Outcome State Fault Refusal :=
  .next (if port = 0x80 ∨ port = 0x81 then mgmtReceive port f s
    else if !hasPort s port || decide ((portSt s port).o.obj ≠ .on) then s
    else if f.fault ≠ .none then faultCount port f s
    else
      let rx : RxInfo := ⟨port, rxStamp s port raw sub⟩
      let die := port / 4
      let good := goodFrame s port f
      let (cls, vid) := classVid s port f
      let s1 := rxCounts port f (takeInner die s)
      let learned (s : State) : State := if good then learn port f.sa vid s else s
      let hit := staticFind s1 die f.da vid
      let group := decide (f.da / 16 = 0x0180C200000) || decide (f.da = Config.factoryMac)
      match (if group then none else hit) with
      | some (i, _) =>
        if staticParity || s1.swc.badStatic.contains (die, i) then learned (staticFault die i s1)
        else forward port cls f good rx (lookup s1 port f.da vid false) (learned s1)
      | none =>
        let bad := staticParity && hit.isNone && (learnedFind s1 die f.da vid).isSome
        let s2 := if bad then learnedFault die f.da vid s1 else s1
        forward port cls f good rx (lookup s2 port f.da vid bad) (learned s2))

/-- Two frames of one flow: from one die to one die, with the same addresses and class (01 R36). -/
def sameFlow (x y : Crossing) : Bool :=
  x.die == y.die && x.src / 4 == y.src / 4 && x.cls == y.cls && x.frame.sa == y.frame.sa && x.frame.da == y.frame.da
/-- The crossing with an operand's frame that has come to the head of its flow: the frames of one flow keep their order (01 R36). -/
def arriving (s : State) (die src ports cls : Nat) (f : Frame) : Option Crossing :=
  match s.swc.fabric.find? (fun x => x.die == die && x.src == src && x.ports == ports && x.cls == cls && x.frame == f) with
  | some x => if s.swc.fabric.find? (sameFlow x) = some x then some x else none
  | none => none
/-- A frame that crosses the fabric reaches a die: each queue decides there (R182). -/
def execFabricFrameArrive (die src : Nat) (ports : Nat) (cls : Nat) (f : Frame) (s : State) : Host.Outcome State Fault Refusal :=
  .next (match arriving s die src ports cls f with
    | some x =>
      let s1 := takeInner die { s with swc := { s.swc with fabric := s.swc.fabric.erase x } }
      let l := (List.range (Config.ports s.variant)).filter (fun p => bitN ports p && p / 4 == die)
      deliver die src cls f (goodFrame s src f) x.rx l 0 s1
    | none => s)

/-- The management core rewrites a static entry that failed parity (R185). -/
def execStaticEntryRewrite (die index : Nat) (s : State) : Host.Outcome State Fault Refusal :=
  .next { s with swc := { s.swc with badStatic := s.swc.badStatic.filter (fun e => e != (die, index)) } }

/-- An entry unused as a source for AGE seconds is removed (R175). -/
def execLearnedEntryAge (die mac vid : Nat) (s : State) : Host.Outcome State Fault Refusal :=
  .next { s with swc := { s.swc with learned := s.swc.learned.filter (fun l =>
    !(l.die == die && l.mac == mac && l.vid == vid && decide (l.usedRaw + rawSec s.cfg.age ≤ s.tim.raw))) } }

/-- A duplicate-filter entry is removed after DD_AGE (R176). -/
def execDdEntryAge (die sa seq : Nat) (s : State) : Host.Outcome State Fault Refusal :=
  .next { s with swc := { s.swc with dd := s.swc.dd.filter (fun e =>
    !(e.die == die && e.sa == sa && e.seq == seq && decide (e.raw + rawMs s.cfg.ddAge ≤ s.tim.raw))) } }

/-! ### Commands (R187) -/

/-- Every port of a mask is one the variant has. -/
def portsKnown (s : State) (mask : Nat) : Bool := decide (mask < 2 ^ Config.ports s.variant)

/-- SWC_QUEUE_CONFIG. -/
def swcQueueConfigPacket (h : Hdr) (p : SwcQueueParams) : Packet :=
  { configPacket h 0x0300 (fun _ => decide (p.dest ≤ 7 ∧ 0 < p.classes ∧ p.classes ≤ 255 ∧ p.min ≤ 4096 ∧ p.cap ≤ 65536))
      (.swcQueue p) with
    unsupported := fun s => !hasDie s p.die }
/-- SWC_QUEUE_CONFIG. -/
def execSwcQueueConfig (h : Hdr) (p : SwcQueueParams) (s : State) : Host.Outcome State Fault Refusal :=
  .next (submit (.swcQueueConfig h p) (swcQueueConfigPacket h p) s)

/-- SWC_MCAST_SET. -/
def swcMcastSetPacket (h : Hdr) (die index : Nat) (e : McastEntry) : Packet :=
  { configPacket h 0x0301 (fun _ => decide (index ≤ 16383 ∧ e.valid ≤ 1 ∧ e.vid ≤ 4094 ∧ e.consumers ≤ 15)) (.mcast die index e) with
    unsupported := fun s => !hasDie s die || !portsKnown s e.ports }
/-- SWC_MCAST_SET. -/
def execSwcMcastSet (h : Hdr) (die index : Nat) (e : McastEntry) (s : State) : Host.Outcome State Fault Refusal :=
  .next (submit (.swcMcastSet h die index e) (swcMcastSetPacket h die index e) s)

/-- SWC_PORT_FWD. -/
def swcPortFwdPacket (h : Hdr) (port : Nat) (p : PortFwd) : Packet :=
  { configPacket h 0x0302 (fun _ => decide (p.defClass ≤ 7 ∧ 1 ≤ p.pvid ∧ p.pvid ≤ 4094 ∧ p.learn ≤ 1)) (.portFwd port p) with
    unsupported := fun s => !hasPort s port || !portsKnown s p.flood }
/-- SWC_PORT_FWD. -/
def execSwcPortFwd (h : Hdr) (port : Nat) (p : PortFwd) (s : State) : Host.Outcome State Fault Refusal :=
  .next (submit (.swcPortFwd h port p) (swcPortFwdPacket h port p) s)

/-- SWC_AGING. -/
def swcAgingPacket (h : Hdr) (age ddAge : Nat) : Packet :=
  configPacket h 0x0303 (fun _ => decide (10 ≤ age ∧ age ≤ 3600 ∧ 10 ≤ ddAge ∧ ddAge ≤ 1000)) (.aging age ddAge)
/-- SWC_AGING. -/
def execSwcAging (h : Hdr) (age ddAge : Nat) (s : State) : Host.Outcome State Fault Refusal :=
  .next (submit (.swcAging h age ddAge) (swcAgingPacket h age ddAge) s)

/-- SWC_LEARN_FLUSH removes the learned entries of a port, or of all ports. -/
def swcLearnFlushPacket (h : Hdr) (port : Nat) : Packet :=
  { h, opcode := 0x0340, pfOnly := true, unsupported := fun s => port != 0xFF && !hasPort s port,
    eff := fun _ s =>
      let gone := s.swc.learned.filter (fun l => port == 0xFF || l.port == port)
      .done stOk (resB 0 gone.length)
        { s with swc := { s.swc with learned := s.swc.learned.filter (fun l => !(port == 0xFF || l.port == port)) } } }
/-- SWC_LEARN_FLUSH. -/
def execSwcLearnFlush (h : Hdr) (port : Nat) (s : State) : Host.Outcome State Fault Refusal :=
  .next (submit (.swcLearnFlush h port) (swcLearnFlushPacket h port) s)

/-- SWC_MCAST_READ. DESIGN CHOICE (log entry 150): an invalid entry reads as zero in every field. -/
def swcMcastReadPacket (h : Hdr) (die index : Nat) : Packet :=
  { h, opcode := 0x0380, pfOnly := false, unsupported := fun s => !hasDie s die,
    eff := fun _ s =>
      if 16383 < index then failRes stFailed s
      else
        let e := tgetD s.cfg.mcast (die, index) ⟨0, 0, 0, 0, 0⟩
        .done stOk (resB 0 e.mac ||| resB 6 e.vid ||| resB 8 e.ports ||| resB 12 e.consumers ||| resB 13 e.valid) s }
/-- SWC_MCAST_READ. -/
def execSwcMcastRead (h : Hdr) (die index : Nat) (s : State) : Host.Outcome State Fault Refusal :=
  .next (submit (.swcMcastRead h die index) (swcMcastReadPacket h die index) s)

/-- SWC_LOOKUP answers the decision for a key from an ingress port. DESIGN CHOICE (log entry 149): a PORT of another die than DIE
fails, and the port mask is the one that R173 leaves. -/
def swcLookupPacket (h : Hdr) (die port mac vid : Nat) : Packet :=
  { h, opcode := 0x0381, pfOnly := false, unsupported := fun s => !hasDie s die || !hasPort s port,
    eff := fun _ s =>
      if port / 4 ≠ die then failRes stFailed s
      else
        let k := lookup s port mac (if vid = 0 then (fwdCfg s port).pvid else vid) false
        let ports := sumN ((allowedPorts s port k.ports).map (fun p => 1 <<< p))
        .done stOk (resB 0 ports ||| resB 4 k.consumers ||| resB 5 k.row ||| resB 8 k.index) s }
/-- SWC_LOOKUP. -/
def execSwcLookup (h : Hdr) (die port mac vid : Nat) (s : State) : Host.Outcome State Fault Refusal :=
  .next (submit (.swcLookup h die port mac vid) (swcLookupPacket h die port mac vid) s)

end Sys2Proof.Machine
end

