-- ==== Sys2Proof/Machine/Leash.lean ====
section
/-! DEFINITION. Sending over LEASH, and shared frames under checked shadow transmission (14 R427 to R432, R441 to R444;
08 R267), with the keys that an engine finds in its slot (17 R508). -/
namespace Sys2Proof.Machine

/-! ### Keys (17 R507, R508) -/

/-- A slot; empty where not listed. -/
def slotSt (s : State) (n : Nat) : SlotSt := tgetD s.key.slots n {}
/-- The CURRENT key of a slot for an engine, when its ENGINE and TYPE are allowed there (Table KEY-3). -/
def engineKey (s : State) (slot engine : Nat) (types : List Nat) : Option Key :=
  match (slotSt s slot).current with
  | some k => if k.engine = engine ∧ types.contains k.type = true ∧ s.key.tripped = false ∧ s.key.restricted = false
      then some k else none
  | none => none

/-! ### CRC-64 (14 R432) -/

/-- The polynomial 0x42F0E1EBA9EA3693, reflected. -/
def crcPoly : BitVec 64 := 0xC96C5795D7870F42#64
/-- One bit of the CRC. -/
def crcBit (c : BitVec 64) : BitVec 64 := if c.getLsbD 0 then (c >>> 1) ^^^ crcPoly else c >>> 1
/-- One byte of the CRC. -/
def crcByte (c : BitVec 64) (b : Nat) : BitVec 64 :=
  crcBit (crcBit (crcBit (crcBit (crcBit (crcBit (crcBit (crcBit (c ^^^ BitVec.ofNat 64 (b % 256)))))))))
/-- The CRC-64 of bytes. -/
def crc64 (l : Bytes) : U64 := ~~~(l.foldl crcByte (~~~0#64))

/-- One bit of the CRC-32 of IEEE 802.3, reflected. -/
def crc32Bit (c : BitVec 32) : BitVec 32 := if c.getLsbD 0 then (c >>> 1) ^^^ 0xEDB88320#32 else c >>> 1
/-- One byte of it. -/
def crc32Byte (c : BitVec 32) (b : Nat) : BitVec 32 :=
  crc32Bit (crc32Bit (crc32Bit (crc32Bit (crc32Bit (crc32Bit (crc32Bit (crc32Bit (c ^^^ BitVec.ofNat 32 (b % 256)))))))))
/-- The CRC-32 of bytes (20 R590). -/
def crc32 (l : Bytes) : BitVec 32 := ~~~(l.foldl crc32Byte (~~~0#32))

/-! ### Routes (01 Table ARC-2, R36) -/

/-- The dies that a frame comes to on its fixed route: on a ZV8 the link to the die that differs in all three bits, and otherwise
the differing bits from the lowest upward; one link on the smaller variants. -/
def route (v : Variant) (a b : Nat) : List Nat :=
  if a = b then []
  else match v with
    | .zv8 =>
      if a ^^^ b = 7 then [b]
      else ([1, 2, 4].foldl (fun (r : Nat × List Nat) m => if (a ^^^ b) &&& m = 0 then r else (r.1 ^^^ m, r.2 ++ [r.1 ^^^ m])) (a, [])).2
    | _ => [b]
/-- Skenos hops between two dies. -/
def hops (v : Variant) (a b : Nat) : Nat := (route v a b).length

/-- The partner's STATE as this module knows it: from the last HEARTBEAT while that confirms it, else from the last token
message (R448, Table PAIR-10). -/
def partnerState (s : State) : Nat := s.pair.heartbeat.getD s.pair.partner

/-! ### Lanes (14 R427, R428, R431) -/

/-- The state of a lane. -/
def laneSt (s : State) (l : Nat) : LaneSt := tgetD s.pair.lanes l {}
/-- Write the state of a lane. -/
def setLane (l : Nat) (x : LaneSt) (s : State) : State := { s with pair := { s.pair with lanes := tset s.pair.lanes l x } }
/-- A lane that carries traffic. -/
def laneOk (s : State) (l : Nat) : Bool := (laneSt s l).up && !(laneSt s l).stopped
/-- Some lane of the package is UP; otherwise LEASH is DOWN (R427). -/
def leashUp (s : State) : Bool := (List.range (Config.lanes s.variant)).any (fun l => (laneSt s l).up)

/-- The lane of a message about an object from a die: the die's lane chosen by object ID, its other lane, then the lanes of
the nearest die that works, lowest first (R430, R431). -/
def laneFor (s : State) (die obj : Nat) : Option Nat :=
  let dies := sortBy (fun a b => decide (hops s.variant die a ≤ hops s.variant die b)) (List.range (Config.dies s.variant))
  (dies.flatMap (fun d => [2 * d + obj % 2, 2 * d + (obj + 1) % 2])).find? (laneOk s)

/-! ### Frames (14 R428, Table PAIR-5) -/

end Sys2Proof.Machine
namespace Sys2Proof.Config

/-- What a LEASH message puts into the payload of its frame; its layout is not given (14 Table PAIR-5; log entry 158). -/
opaque leashPayload : Machine.LeashMsg → Bytes

end Sys2Proof.Config
namespace Sys2Proof.Machine

/-- TYPE of a message (Table PAIR-5). -/
def msgType : LeashMsg → Nat
  | .head _ _ _ => 1 | .admission _ _ => 2 | .page _ _ _ => 3 | .cdigest _ _ => 4 | .fin _ _ _ _ _ => 5 | .fdigest _ _ _ => 6
  | .coef _ _ _ => 7 | .pageReq _ | .pageResp _ _ => 8 | .sync _ _ _ => 9 | .loopback _ _ => 10 | .ack _ | .nak _ => 11
  | .heartbeat _ _ => 12
/-- The payload of a message, of 16 to 4,096 bytes (R428). -/
def payloadOf (m : LeashMsg) : Bytes :=
  let b := Config.leashPayload m
  (b ++ List.replicate 16 0).take (max 16 (min 4096 b.length))
/-- The 16-byte header: TYPE, lane sequence, EPOCH, LENGTH and the nonce counter (R428). -/
def leashHeader (type seq epoch length counter : Nat) : Bytes :=
  [type] ++ leBytes 3 seq ++ leBytes 4 epoch ++ leBytes 2 length ++ leBytes 6 counter
/-- The 96-bit nonce: die, lane, side, a zero byte, a 2-byte zero pad and the nonce counter (R428). -/
def leashNonce (lane side counter : Nat) : Bytes := [lane / 2, lane, side, 0, 0, 0] ++ leBytes 6 counter
/-- The header and the nonce of a frame that a lane sends next. -/
def frameFor (s : State) (l seq : Nat) (m : LeashMsg) : Bytes × Bytes :=
  let n := (laneSt s l).nonce
  (leashHeader (msgType m) seq s.pair.epoch (payloadOf m).length n, leashNonce l s.pair.side n)

/-! ### Changes of the pair state (R420) -/

/-- STATE as a number (Table PAIR-1). -/
def pstateNum : PState → Nat
  | .init => 0 | .syncing => 1 | .standby => 2 | .active => 3 | .solo => 4 | .silent => 5 | .failed => 6
/-- The module is in another pair state, with its event (R420); generation mismatches are counted anew (R440). A module that comes
to STANDBY from ACTIVE awaits no mirror of a cycle before the next (R437). -/
def pairTo (t : Option MTime) (new : PState) (cause : Nat) (s : State) : State :=
  let old := s.pair.state
  recordEvent { evSys 0x0B01 (pstateNum old + 256 * pstateNum new) cause 0 0 with stamp := t }
    { s with pair := { s.pair with state := new, mirrorLost := false, granted := false, genMismatch := 0,
                                   lastMirrorCycle := if old = .active ∧ new = .standby then s.cycleNum else s.pair.lastMirrorCycle },
             hwi := { s.hwi with barkN := if new = .silent ∨ new = .failed then false else if old = .silent then true else s.hwi.barkN } }
/-- Discard every held frame (Table PAIR-6). -/
def discardShadow (s : State) : State := { s with pair := { s.pair with shadow := [] } }
/-- The last lane went down (Table PAIR-2). -/
def leashLost (s : State) : State :=
  if leashUp s then s
  else
    let s1 := { s with pair := { s.pair with heartbeat := none } }
    match s1.pair.state with
    | .syncing => discardShadow (pairTo none .init 10 s1)
    | .active => pairTo none .solo 7 s1
    | _ => s1

/-- The nonce counter of a lane would wrap (R428). -/
def wraps (s : State) (l : Nat) : Bool := decide (2 ^ 48 ≤ (laneSt s l).nonce + 1)
/-- The lane stops until a rekey (R428). -/
def stopLane (l : Nat) (s : State) : State :=
  leashLost (recordEvent (evSys 0x0B06 l 1 3 l) (setLane l { laneSt s l with
    stopped := true, up := false, unacked := [], ackDue := false, loopFail := 0, loopSent := false, tagFails := 0 } s))
/-- Send one LEASH frame on a lane: its sequence and nonce counter advance, and it waits for its ACK (R428, R430). `moved` is its
first sending, on a lane that went down. -/
def laneSend (l : Nat) (msg : LeashMsg) (moved : Option (Nat × Nat)) (s : State) : State :=
  let x := laneSt s l
  bump (.leash l 0) (setLane l { x with
    nonce := x.nonce + 1, txRaw := s.tim.raw, txSeq := (x.txSeq + 1) % 2 ^ 24,
    unacked := x.unacked ++ [⟨x.txSeq, msg, moved⟩], lastFrame := some (frameFor s l x.txSeq msg) } s)
/-- Where a frame of a lane was sent first. -/
def firstSent (l : Nat) (f : SentFrame) : Option (Nat × Nat) := if f.moved.isSome then f.moved else some (l, f.seq)
/-- Send on the lane of a die and object. A lane whose nonce counter would wrap stops instead, and its traffic moves, at most
once for each lane (R428, R431). -/
def sendOver : Nat → LeashMsg → Option (Nat × Nat) → Nat → Nat → State → State
  | 0, _, _, _, _, s => s
  | k + 1, msg, moved, die, obj, s => match laneFor s die obj with
    | none => s
    | some l =>
      if wraps s l then
        sendOver k msg moved (l / 2) l ((laneSt s l).unacked.foldl (fun s f => sendOver k f.msg (firstSent l f) (l / 2) l s) (stopLane l s))
      else laneSend l msg moved s

/-- The key that LEASH frames need (R428). -/
def leashKey (s : State) : Bool := (engineKey s s.cfg.pair.leashSlot 2 [0]).isSome

/-- Send a LEASH message of a type about an object of a die; nothing is sent without a lane or without the key. -/
def leashSend (msg : LeashMsg) (die obj : Nat) (s : State) : State :=
  if leashKey s then sendOver (Config.lanes s.variant) msg none die obj s else s
/-- The frames of a lane that went down move to the lane that takes over its traffic (R430, R431). -/
def moveFrames (l : Nat) (frames : List SentFrame) (s : State) : State :=
  if leashKey s then frames.foldl (fun s f => sendOver (Config.lanes s.variant) f.msg (firstSent l f) (l / 2) l s) s else s

/-! ### Shared frames (R441 to R443) -/

/-- The next sequence number of the shared identity on a pair (08 R267). -/
def sharedSeq (s : State) (port : Nat) : Nat := tgetD s.sig.prpShared (pairKey s port) 0
/-- Set it. -/
def setSharedSeq (port n : Nat) (s : State) : State :=
  { s with sig := { s.sig with prpShared := tset s.sig.prpShared (pairKey s port) (n % 65536) } }

/-- A published GOOSE frame is counted in SIG_GP_TX (08 Table SIG-11). -/
def countTx (key : ShadowKey) (s : State) : State := if key.kind = 0 then bump (.gpTx key.ctx) s else s
/-- Queue a shared frame with a sequence number. -/
def queueShared (f : HeldFrame) (seq : Nat) (s : State) : State :=
  countTx f.key (if paired s f.port then sendOwn f.port f.cls seq f.info s else sendOwn f.port f.cls 0 f.info s)

/-- Queue a shared frame with this module's own next number. -/
def queueOwnSeq (f : HeldFrame) (s : State) : State :=
  let n := sharedSeq s f.port
  let s1 := queueShared f n s
  if paired s f.port then setSharedSeq f.port (n + 1) s1 else s1

/-- Queue a held frame unchecked (Table PAIR-6). -/
def queueUnchecked (f : HeldFrame) (s : State) : State :=
  let s1 := queueOwnSeq f s
  bump (.pair 5) { s1 with pair := { s1.pair with uncheckedSince := true } }

/-- Act on a frame digest and its frame (Table PAIR-6). -/
def judgeFrame (f : HeldFrame) (prpSeq : Nat) (crc : U64) (s : State) : State :=
  if f.crc = crc then
    let s1 := queueShared f prpSeq s
    let s2 := if paired s f.port then setSharedSeq f.port (max (sharedSeq s f.port) (prpSeq + 1)) s1 else s1
    bump (.pair 3) s2
  else
    raiseCounting (f.key.kind * 65536 + f.key.ctx) 1 0
      (evSys 0x0B03 (f.key.kind + 256 * f.key.ctx) f.key.a 0 f.key.ctx) (bump (.pair 4) s)

/-- Frames in shadow on a die. -/
def shadowCap : Nat := 4096

/-- Make room in the shadow hold of a die: the oldest held frame is queued at once as unchecked (R443). -/
def shadowRoom (die : Nat) (s : State) : State :=
  let mine := s.pair.shadow.filter (fun f => f.port / 4 == die)
  if mine.length < shadowCap then s
  else match mine with
    | [] => s
    | f :: _ => queueUnchecked f { s with pair := { s.pair with shadow := s.pair.shadow.erase f } }

/-- An ACTIVE module queues a shared frame and sends its digest (R441). -/
def queueActive (f : HeldFrame) (s : State) : State :=
  leashSend (.fdigest f.key (if paired s f.port then sharedSeq s f.port else 0) f.crc) (f.port / 4) f.key.ctx (queueOwnSeq f s)
/-- A shared frame is formed: sent at once by an ACTIVE module, with its digest, or by a SOLO module; held by a STANDBY
module; and not sent in any other pair state (08 R267, R441, R442). -/
def sendShared (key : ShadowKey) (port cls : Nat) (info : CopyInfo) (content : List Int) (s : State) : State :=
  let f : HeldFrame := ⟨key, crc64 (Config.frameBytes content), port, cls, info, s.tim.raw, 0⟩
  match s.pair.state with
  | .active => queueActive f s
  | .solo => queueOwnSeq f s
  | .standby =>
    match s.pair.early.find? (fun e => e.key == key) with
    | some e => judgeFrame f e.prpSeq e.crc { s with pair := { s.pair with early := s.pair.early.erase e } }
    | none =>
      let s1 := shadowRoom (port / 4) s
      { s1 with pair := { s1.pair with shadow := s1.pair.shadow ++ [f] } }
  | _ => s

/-- Queue every held frame at once, unchecked (promotion, Table PAIR-6), an ACTIVE module with its digest (R441). -/
def releaseShadow (s : State) : State :=
  foldSt (if s.pair.state = .active then queueActive else queueOwnSeq) s.pair.shadow { s with pair := { s.pair with shadow := [] } }

end Sys2Proof.Machine
end

