-- ==== Sys2Proof/Machine/Staging.lean ====
section
/-! DEFINITION. Configurations as data (02 R75 to R80): applying a staged setting, the latest committed configuration, the
stored size, and who writes which signal (08 R241). -/
namespace Sys2Proof.Machine

/-! ### Applying a setting (R75, R76, R80) -/

/-- Note the stored form of a setting under its opcode and object; a removal takes it away. -/
def note (x : Staged) (obj : Nat) (present : Bool) (c : Cfg) : Cfg :=
  { c with stored := if present then tset c.stored (x.opcode, obj) x.bytes else tdel c.stored (x.opcode, obj) }
/-- Define or remove one signal. -/
def applySig (c : Cfg) (e : SigEntry) : Cfg :=
  { c with signals := if e.valid then tset c.signals e.id e.sig else tdel c.signals e.id }
/-- One class of SWC_QUEUE_CONFIG. -/
def applyQueue (x : Staged) (p : SwcQueueParams) (c : Cfg) (k : Nat) : Cfg :=
  if bitN p.classes k then
    note x ((p.die * 8 + p.dest) * 8 + k) true { c with swcQueues := tset c.swcQueues (p.die, p.dest, k) (p.min, p.cap) }
  else c

/-- The thresholds of TIM_THRESH_SET over those before it: a zero leaves a threshold as it is, but for HOLD_K1 and HOLD_K2
(03 R128). -/
def mergeThresh (a p : ThreshParams) : ThreshParams :=
  let pick (old new : Nat) : Nat := if new = 0 then old else new
  { pathStepThresh := pick a.pathStepThresh p.pathStepThresh, pathStepHold := pick a.pathStepHold p.pathStepHold,
    lockThresh := pick a.lockThresh p.lockThresh, slewMax := pick a.slewMax p.slewMax, stepLimit := pick a.stepLimit p.stepLimit,
    holdT1 := pick a.holdT1 p.holdT1, holdTemp := pick a.holdTemp p.holdTemp, holdK1 := p.holdK1, holdK2 := p.holdK2 }

/-- Two settings of one field, so that the later replaces the earlier (02 R75). -/
def sameField : Setting → Setting → Bool
  | .cycleLen _, .cycleLen _ | .ptp _, .ptp _ | .aging _ _, .aging _ _ | .heelPin _ _, .heelPin _ _ | .sharedId _, .sharedId _
  | .plmPolicy _ _ _, .plmPolicy _ _ _ | .lgcConfig _ _, .lgcConfig _ _ | .loopConfig _, .loopConfig _ | .pairConfig _, .pairConfig _
  | .vfnPolicy _, .vfnPolicy _ | .keyConfig _ _, .keyConfig _ _ | .bkdConfig _ _, .bkdConfig _ _ | .pwrPolicy _, .pwrPolicy _ => true
  | .asym a, .asym b => a.port == b.port && a.mode == b.mode
  | .port a _, .port b _ | .mgmt a _, .mgmt b _ | .portFwd a _, .portFwd b _ | .gsSub a _, .gsSub b _ | .gpDef a _, .gpDef b _
  | .svpDef a _, .svpDef b _ | .plmGroup a _ _, .plmGroup b _ _ | .ownerDies a _, .ownerDies b _ | .lgcTask a _ _, .lgcTask b _ _
  | .vfProt a _, .vfProt b _ | .chain a _ _, .chain b _ _ => a == b
  | .mcast a i _, .mcast b j _ => a == b && i == j
  | .svSub a _, .svSub b _ | .svSub a _, .svUnsub b | .svUnsub a, .svSub b _ | .svUnsub a, .svUnsub b => a == b
  | .graphLoad _ a, .graphLoad _ b => a.graph == b.graph
  | .graphLoad _ a, .graphUnload b => a.graph == b
  | .graphUnload a, .graphLoad _ b => a == b.graph
  | .graphUnload a, .graphUnload b => a == b
  | _, _ => false
/-- What later commands leave of a staged one: nothing when one replaces it, and of a SIG_DEFINE the signals that no later one
names. -/
def leftOf (later : List Staged) (x : Staged) : Option Staged :=
  match x.setting with
  | .sigDefine l =>
    let named := later.flatMap (fun y => match y.setting with | .sigDefine m => m.map (·.id) | _ => [])
    some { x with setting := .sigDefine (l.filter (fun e => !named.contains e.id)) }
  | _ => if later.any (fun y => sameField x.setting y.setting) then none else some x
/-- The staged commands that still count (02 R75). -/
def inEffect : List Staged → List Staged
  | [] => []
  | x :: l => (leftOf l x).toList ++ inEffect l

/-- Apply one staged setting to a configuration. -/
def applySetting (c : Cfg) (x : Staged) : Cfg :=
  match x.setting with
  | .cycleLen n => note x 0 true { c with cycleLen := n }
  | .ptp p => note x 0 true { c with ptp := p }
  | .asym p => note x (p.port * 8 + p.mode) true
      { c with asym := tset c.asym (p.port, p.mode) (p.ingress, p.egress), cable := tset c.cable p.port p.cableAsym }
  | .thresh p => note x 0 true { c with thresh := mergeThresh c.thresh p }
  | .port k p => note x k true { c with ports := tset c.ports k p }
  | .mgmt k p => note x k true { c with mgmt := tset c.mgmt k p }
  | .swcQueue p => (List.range 8).foldl (applyQueue x p) c
  | .mcast d i e => note x (d * 16384 + i) (e.valid == 1)
      { c with mcast := if e.valid = 1 then tset c.mcast (d, i) e else tdel c.mcast (d, i) }
  | .portFwd k p => note x k true { c with portFwd := tset c.portFwd k p }
  | .aging a d => note x 0 true { c with age := a, ddAge := d }
  | .svSub n v => note x n true { c with streams := tset c.streams n v }
  | .svUnsub n => note { x with opcode := 0x0401 } n false { c with streams := tdel c.streams n }
  | .chain n v p => note x n v { c with chains := if v then tset c.chains n p else tdel c.chains n }
  | .heelPin e k => note x 0 true { c with pinEn := e, pinClear := k }
  | .sigDefine l => l.foldl applySig c
  | .gsSub n v => note x n true { c with gs := tset c.gs n v }
  | .gpDef n v => note x n true { c with gp := tset c.gp n v }
  | .svpDef n v => note x n true { c with svp := tset c.svp n v }
  | .sharedId m => note x 0 true { c with sharedMac := m }
  | .graphLoad o g => note { x with bytes := g.imageLen + 16 } g.graph true { c with graphs := tset c.graphs g.graph (o, g) }
  | .graphUnload g => note { x with opcode := 0x0700 } g false { c with graphs := tdel c.graphs g }
  | .plmGroup g v p => note x g v { c with groups := if v then tset c.groups g p else tdel c.groups g }
  | .ownerDies f d => note x f true { c with ownerDies := tset c.ownerDies f d }
  | .plmPolicy a b d => note x 0 true { c with placeLimit := a, consolidate := b, deferWarn := d }
  | .lgcTask t v g => note { x with bytes := g.imageLen + 16 } t v
      { c with tasks := if v then tset c.tasks t g else tdel c.tasks t }
  | .lgcConfig m r => note x 0 true { c with modeSrc := m, restartMode := r }
  | .loopConfig p => note x 0 true { c with loop := some p }
  | .pairConfig p => note x 0 true { c with pair := p }
  | .vfnPolicy f => note x 0 true { c with fraction := f }
  | .vfProt v p => note x v true { c with vfProt := tset c.vfProt v p }
  | .keyConfig e r => note x 0 true { c with extEn := e, rollMs := r }
  | .bkdConfig t a => note x 0 true { c with trimEn := t, alignEn := a }
  | .pwrPolicy l => note x 0 true { c with maxState := l }

/-- The configuration of the latest commit (R76). -/
def latestCfg (s : State) : Cfg := match s.commits.getLast? with | some c => c.cfg | none => s.cfg
/-- What a commit of a function's staging area would produce. -/
def candidate (s : State) (func : Nat) : Cfg := (staged s func).foldl applySetting (latestCfg s)

/-- The graph (0) or task (1) that a staged command loads, defines or removes. -/
def stagedObj (x : Staged) : Option (Nat × Nat) :=
  match x.setting with
  | .graphLoad _ g => some (0, g.graph)
  | .graphUnload g => some (0, g)
  | .lgcTask t _ _ => some (1, t)
  | _ => none

/-! ### The stored size (R80) -/

/-- Signals in ascending ID. -/
def sortedSigs (c : Cfg) : List (Nat × SigDef) := sortBy (fun a b => decide (a.1 ≤ b.1)) c.signals
/-- Runs of consecutive IDs with equal entries. -/
def sigRuns : List (Nat × SigDef) → Nat
  | [] => 0
  | [_] => 1
  | a :: b :: l => sigRuns (b :: l) + (if b.1 = a.1 + 1 ∧ b.2 = a.2 then 0 else 1)
/-- The size of a configuration's stored form, in bytes. -/
def storedSize (c : Cfg) : Nat := 32 * sigRuns (sortedSigs c) + sumN (c.stored.map (·.2))
/-- A bank of the configuration store. -/
def bankSize : Nat := 18874368

/-! ### Signals and their writers (08 R241, 12 R386, R388) -/

/-- The declaration of a signal in a task. -/
def declOf (img : LogicImage) (id : Nat) : Option SigDef := (img.decls.find? (fun e => e.id == id)).map (·.sig)
/-- The definition of a signal: by SIG_DEFINE, or by the declaration of the task that writes it. -/
def defOf (c : Cfg) (id : Nat) : Option SigDef :=
  match tget c.signals id with
  | some d => some d
  | none => c.tasks.findSome? (fun e => declOf e.2 id)

/-- The one writer of a signal. -/
inductive Writer where
  | node (graph id : Nat) | task (n : Nat) | gs (ctx : Nat) | gp (ctx : Nat)
  deriving DecidableEq, Repr, Inhabited
/-- The SOURCE that a writer's signals have (08 Table SIG-1). -/
def writerSource : Writer → Nat
  | .node _ _ => 0 | .task _ => 1 | .gs _ => 2 | .gp _ => 2

/-- What the SIG_WRITE nodes of a graph write. -/
def graphWrites (img : GraphImage) : List (Writer × Nat) :=
  (List.zip (List.range img.nodes.length) img.nodes).flatMap (fun p =>
    if p.2.operator = 0x0A01 then
      ((paramsOf p.2).map (fun w => nth w 0 0)).eraseDups.map (fun sig => (.node img.graph (img.nodeBase + p.1), sig))
    else [])
/-- What a task declares. -/
def taskWrites (t : Nat) (img : LogicImage) : List (Writer × Nat) := img.decls.map (fun e => (.task t, e.id))
/-- What a subscription writes: its mapped signals and its status signal. -/
def gsWrites (n : Nat) (g : GsContext) : List (Writer × Nat) :=
  (((g.map.map (·.signal)) ++ [g.statusSig]).filter (· != 0xFFFFFFFF)).eraseDups.map (fun sig => (.gs n, sig))
/-- What a publication writes: its status signal. -/
def gpWrites (n : Nat) (g : GpContext) : List (Writer × Nat) := if g.statusSig = 0xFFFFFFFF then [] else [(.gp n, g.statusSig)]
/-- Every writer of a configuration with the signals it writes. -/
def allWrites (c : Cfg) : List (Writer × Nat) :=
  c.graphs.flatMap (fun e => graphWrites e.2.2) ++ c.tasks.flatMap (fun e => taskWrites e.1 e.2)
    ++ c.gs.flatMap (fun e => gsWrites e.1 e.2) ++ c.gp.flatMap (fun e => gpWrites e.1 e.2)
/-- A write breaks R241: the signal has another SOURCE, or another writer. -/
def writeClash (c : Cfg) (w : Writer × Nat) : Bool :=
  (match defOf c w.2 with | some d => d.source != writerSource w.1 | none => false)
    || (allWrites c).any (fun v => v.2 == w.2 && v.1 != w.1)

end Sys2Proof.Machine
end

