-- ==== Sys2Proof/Machine/Signals.lean ====
section
/-! DEFINITION. The signal space (08 R240 to R251): records, writes and their commit at the boundary, forces, and the
commands that define, write, force and read signals. -/
namespace Sys2Proof.Machine

/-! ### Records -/

/-- The definition in force of a signal (R240). -/
def sigDef (s : State) (id : Nat) : Option SigDef := defOf s.cfg id
/-- The record that readers see. -/
def recOf (s : State) (id : Nat) : SigRec := tgetD s.sig.recs id ⟨0, 0, ⟨0, 0, 0⟩⟩
/-- The signal is forced. -/
def forced (s : State) (id : Nat) : Bool := thas s.sig.forces id
/-- The writer's record, beneath a force where there is one (R248). -/
def writerRec (s : State) (id : Nat) : SigRec := if forced s id then tgetD s.sig.under id (recOf s id) else recOf s id
/-- Set the writer's record. -/
def setRec (id : Nat) (r : SigRec) (s : State) : State :=
  if forced s id then { s with sig := { s.sig with under := tset s.sig.under id r } }
  else { s with sig := { s.sig with recs := tset s.sig.recs id r } }
/-- The die that holds a record: placement's choice (R240). -/
def sigDieOf (s : State) (id : Nat) : Nat := tgetD s.plm.sigDie id (id / Config.signalsPerDie)

/-- The record committed at the boundary that opened a cycle (R246). -/
def recAt (s : State) (id cycle : Nat) : SigRec :=
  match ((tgetD s.sig.past id []).filter (fun e => decide (cycle < e.1))).getLast? with
  | some e => e.2
  | none => recOf s id
/-- Earlier records kept for one signal. -/
def pastCap : Nat := 1024
/-- Keep the records that a boundary has replaced, for readers of earlier cycles. -/
def keepPast (num : Nat) (before : Tbl Nat SigRec) (s : State) : State :=
  foldSt (fun e s => if recOf s e.1 = e.2 then s
    else { s with sig := { s.sig with past := tmod s.sig.past e.1 [] (fun l => ((num, e.2) :: l).take pastCap) } }) before s

/-- MTIME as the 16 bytes of a value (00 R10, Table SIG-1): seconds, ns, fraction. -/
def mtimeVal (m : MTime) : BitVec 128 := BitVec.ofNat 128 (m.sec % 2 ^ 64 + m.ns % 2 ^ 32 * 2 ^ 64 + m.frac % 2 ^ 32 * 2 ^ 96)
/-- The MTIME that 16 bytes hold. -/
def valMtime (v : BitVec 128) : MTime := ⟨v.toNat % 2 ^ 64, v.toNat / 2 ^ 64 % 2 ^ 32, v.toNat / 2 ^ 96⟩
/-- A value keeps to its TYPE's bytes (Table SIG-1). -/
def valueFits (type : Nat) (v : BitVec 128) : Bool :=
  match type with
  | 0 => decide (v.toNat < 2)
  | 1 | 3 => decide (v.toNat < 2 ^ 32)
  | 2 => decide (v.toNat < 2 ^ 64)
  | _ => decide (v.toNat / 2 ^ 64 % 2 ^ 32 < 1000000000)

/-! ### Writes (R243 to R245, Table SIG-2) -/

/-- Enter a write: `cycle` names the boundary that commits it, 0 the next one. -/
def pushWrite (sig source : Nat) (value : BitVec 128) (qual : Nat) (stamp : Option MTime) (cycle order : Nat) (s : State) : State :=
  { s with sig := { s.sig with writes := s.sig.writes ++ [⟨sig, source, value, qual, stamp, cycle, order⟩] } }
/-- A module time as an order among writes. -/
def timeOrder (m : MTime) : Nat := (munits m).toNat
/-- A GOOSE write, ordered by a module time (Table SIG-2); 0xFFFFFFFF names no signal. -/
def gooseWrite (sig : Nat) (value : BitVec 128) (qual : Nat) (stamp at_ : MTime) (s : State) : State :=
  if sig = 0xFFFFFFFF then s else pushWrite sig 2 value qual (some stamp) 0 (timeOrder at_) s
/-- A status signal's write at a module time: its value, QUAL good. -/
def statusWrite (sig v : Nat) (t : MTime) (s : State) : State :=
  gooseWrite sig (BitVec.ofNat 128 v) (bbit (holdAt s t) 15) t t s
/-- A NODE write for the boundary that opens `cycle`: too late when that boundary has passed (R244). -/
def nodeWrite (sig : Nat) (value : BitVec 128) (qual : Nat) (inst : MTime) (cycle : Nat) (s : State) : State :=
  if cycle ≤ s.cycleNum then
    bump (.sigLateWrite (sigDieOf s sig)) { s with sig := { s.sig with
      lateMarks := if s.sig.lateMarks.contains sig then s.sig.lateMarks else s.sig.lateMarks ++ [sig] } }
  else pushWrite sig 0 value qual (some inst) cycle (timeOrder inst) s

/-- The record that a write commits at a boundary (R245, R247). -/
def recordOf (s : State) (b : MTime) (w : PendWrite) : SigRec :=
  let stamp := w.stamp.getD b
  let q := qPut w.qual 13 (decide (w.source ≤ 1))
  ⟨w.value, if w.source = 2 then q else qPut q 15 (holdAt s stamp), stamp⟩

/-- The write that stands among those of one signal: the greatest order, the last among equals. -/
def lastWrite : List PendWrite → Option PendWrite
  | [] => none
  | w :: l => match lastWrite l with
    | some x => if x.order < w.order then some w else some x
    | none => some w

/-- Commit every write that falls due at the boundary that opens cycle `num` at `b`, then the LATE records (R243, R244). -/
def commitWrites (num : Nat) (b : MTime) (s : State) : State :=
  let due := s.sig.writes.filter (fun w => decide (w.cycle ≤ num))
  let sigs := dedupN (due.map (·.sig))
  let late := s.sig.lateMarks.filter (fun i => !sigs.contains i)
  let s1 := { s with sig := { s.sig with writes := s.sig.writes.filter (fun w => !decide (w.cycle ≤ num)), lateMarks := [] } }
  let s2 := foldSt (fun i s => match lastWrite (due.filter (fun w => w.sig == i)) with
    | some w => if (sigDef s i).isSome then setRec i (recordOf s b w) s else s
    | none => s) sigs s1
  foldSt (fun i s => if (sigDef s i).isSome then
      let r := writerRec s i
      setRec i { r with qual := qSet (qVal r.qual 3) 14 } s
    else s) late s2

/-! ### Forces (R248 to R251) -/

/-- Entries of the force table. -/
def forceCap : Nat := 65536
/-- EV_FORCE_SET at a time. -/
def evForceSet (id op : Nat) (t : MTime) (s : State) : State := recordEvent (evAt t (evPkg 0x0604 id op 0 id)) s
/-- EV_FORCE_RELEASED at a time. -/
def evForceReleased (id cause n : Nat) (t : MTime) (s : State) : State := recordEvent (evAt t (evPkg 0x0605 id cause n id)) s
/-- Put a force in place at a boundary. -/
def setForce (id : Nat) (value : BitVec 128) (qual : Nat) (b : MTime) (s : State) : State :=
  let w := writerRec s id
  let r : SigRec := ⟨value, qPut (qSet (qRecv qual) 10) 15 (holdAt s b), b⟩
  { s with sig := { s.sig with under := tset s.sig.under id w, forces := tset s.sig.forces id (value, qual),
                               recs := tset s.sig.recs id r } }
/-- Take a force away: the writer's latest record shows (R249). -/
def dropForce (id : Nat) (s : State) : State :=
  let w := writerRec s id
  { s with sig := { s.sig with under := tdel s.sig.under id, forces := tdel s.sig.forces id, recs := tset s.sig.recs id w } }
/-- One force change takes effect at a boundary with its events (R249). -/
def applyForce (b : MTime) (f : PendForce) (s : State) : State :=
  if (sigDef s f.sig).isNone then s
  else if f.op = 0 then evForceSet f.sig 0 b (noteWritten ⟨2, f.sig, 0⟩ (setForce f.sig f.value f.qual b s))
  else if forced s f.sig then evForceReleased f.sig 0 0 b (evForceSet f.sig 1 b (dropForce f.sig s))
  else s
/-- Apply the force changes that wait for a boundary (R243). -/
def applyForces (b : MTime) (s : State) : State :=
  foldSt (applyForce b) s.sig.pendForce { s with sig := { s.sig with pendForce := [] } }
/-- Release the force of a signal that is removed or retyped at a boundary (R249, R251). -/
def voidForce (b : MTime) (id : Nat) (s : State) : State :=
  let s1 := { s with sig := { s.sig with pendForce := s.sig.pendForce.filter (fun f => f.sig != id) } }
  if forced s1 id then evForceReleased id 1 0 b (dropForce id s1) else s1

/-- The signals forced once the waiting changes have taken effect. -/
def projectedForces (s : State) : List Nat :=
  s.sig.pendForce.foldl (fun acc f => if f.op = 0 then (if acc.contains f.sig then acc else acc ++ [f.sig])
    else acc.filter (· != f.sig)) (s.sig.forces.map (·.1))

/-! ### Definition (R241, R242) -/

/-- Remove a signal's record and what waits for it. -/
def removeSignal (id : Nat) (s : State) : State :=
  { s with sig := { s.sig with recs := tdel s.sig.recs id, writes := s.sig.writes.filter (fun w => w.sig != id),
                               lateMarks := s.sig.lateMarks.filter (· != id) } }

/-! ### Commands (R272) -/

/-- The module is in SYNCING or STANDBY. -/
def pairFollows (s : State) : Bool := decide (s.pair.state = .syncing ∨ s.pair.state = .standby)

/-- A definition entry in its ranges (Table SIG-1). -/
def sigEntryOk (e : SigEntry) : Bool :=
  decide (e.id < 2 ^ 25) && (!e.valid || (decide (e.sig.type ≤ 4 ∧ e.sig.source ≤ 3) && (e.sig.source == 3 || e.sig.owner == 0)
    && valueFits e.sig.type e.sig.init))

/-- SIG_DEFINE. -/
def sigDefinePacket (h : Hdr) (entries : List SigEntry) : Packet :=
  let p := configPacket h 0x0600 (fun s => decide (0 < entries.length ∧ entries.length ≤ 32768) && entries.all sigEntryOk
      && entries.all (fun e => !e.valid || funcExists s e.sig.owner)) (.sigDefine entries)
  { p with
    unsupported := fun s => entries.any (fun e => e.valid && decide (Config.vfs s.variant < e.sig.owner))
    eff := fun j s => if entries.any (fun e => e.valid && funcBusy e.sig.owner s) then failRes stBusy s else p.eff j s }
/-- SIG_DEFINE. -/
def execSigDefine (h : Hdr) (entries : List SigEntry) (s : State) : Host.Outcome State Fault Refusal :=
  .next (submit (.sigDefine h entries) (sigDefinePacket h entries) s)

/-- SIG_WRITE writes a HOST signal at the next boundary (R272, Table SIG-2). -/
def sigWritePacket (h : Hdr) (p : SigWriteParams) : Packet :=
  { h, opcode := 0x0640, pfOnly := false,
    denied := fun s => h.func != 0 && !(match sigDef s p.id with
      | some d => d.source == 3 && d.owner == h.func
      | none => false),
    eff := fun _ s =>
      match sigDef s p.id with
      | none => failRes stFailed s
      | some d =>
        if d.source ≠ 3 ∨ p.op ≠ 0 ∨ valueFits d.type p.value = false then failRes stFailed s
        else okRes (pushWrite p.id 3 p.value (qRecv p.qual) none 0 s.sig.writeNo
          { s with sig := { s.sig with writeNo := s.sig.writeNo + 1 } }) }
/-- SIG_WRITE. -/
def execSigWrite (h : Hdr) (p : SigWriteParams) (s : State) : Host.Outcome State Fault Refusal :=
  .next (submit (.sigWrite h p) (sigWritePacket h p) s)

/-- SIG_FORCE sets or releases a force from the next boundary (R248 to R250). -/
def sigForcePacket (h : Hdr) (p : SigWriteParams) : Packet :=
  { h, opcode := 0x0641, pfOnly := true, denied := pairFollows,
    eff := fun _ s =>
      let l := projectedForces s
      if p.op = 0 ∧ l.contains p.id = false ∧ forceCap ≤ l.length then failRes stQueueFull s
      else match sigDef s p.id with
      | none => failRes stFailed s
      | some d =>
        if 1 < p.op ∨ (p.op = 0 ∧ valueFits d.type p.value = false) then failRes stFailed s
        else
          if p.op = 1 ∧ l.contains p.id = false then okRes s
          else okRes { s with sig := { s.sig with pendForce := s.sig.pendForce ++ [⟨p.id, p.op, p.value, p.qual⟩] } } }
/-- SIG_FORCE. -/
def execSigForce (h : Hdr) (p : SigWriteParams) (s : State) : Host.Outcome State Fault Refusal :=
  .next (submit (.sigForce h p) (sigForcePacket h p) s)

/-- The 32 bytes that SIG_READ writes of one record with its flags and its TYPE (Table SIG-13). -/
def signalBytes (r : SigRec) (isForced defined : Bool) (type : Nat) : Bytes :=
  leBytes 16 r.value.toNat ++ leBytes 2 r.qual ++ [bbit isForced 0 + bbit defined 1, type % 256] ++ leBytes 4 0
    ++ leBytes 4 r.stamp.sec ++ leBytes 4 r.stamp.ns
/-- What SIG_READ writes of one signal: its record, or the one beneath a force (Table SIG-13); zero bytes of a signal that is
not defined (log entry 136). -/
def readSignal (s : State) (under : Bool) (id : Nat) : Bytes :=
  match sigDef s id with
  | some d => signalBytes (if under then writerRec s id else recOf s id) (forced s id) true d.type
  | none => List.replicate 32 0
/-- SIG_READ copies the records of the latest boundary (R246). -/
def sigReadPacket (h : Hdr) (id count : Nat) (under : Bool) (buf : Nat) : Packet :=
  { h, opcode := 0x0680, pfOnly := false, outBytes := 32 * count,
    eff := fun _ s =>
      if Config.signals s.variant ≤ id ∨ count = 0 ∨ 65536 < count then failRes stFailed s
      else .done stOk (resB 0 count)
        (hostWrite h.func buf ((List.range count).flatMap (fun k => readSignal s under (id + k))) s) }
/-- SIG_READ. -/
def execSigRead (h : Hdr) (id count : Nat) (under : Bool) (buf : Nat) (s : State) : Host.Outcome State Fault Refusal :=
  .next (submit (.sigRead h id count under buf) (sigReadPacket h id count under buf) s)

/-- SIG_SHARED_ID stages the shared publishing MAC (R267). -/
def sigSharedIdPacket (h : Hdr) (mac : Nat) : Packet :=
  configPacket h 0x0604 (fun _ => !bitN mac 40) (.sharedId mac)
/-- SIG_SHARED_ID. -/
def execSigSharedId (h : Hdr) (mac : Nat) (s : State) : Host.Outcome State Fault Refusal :=
  .next (submit (.sigSharedId h mac) (sigSharedIdPacket h mac) s)

end Sys2Proof.Machine
end

