-- ==== Sys2Proof/Machine/Ingest.lean ====
section
/-! DEFINITION. Sampled-value ingest (06): the checks of a frame, naming and deciding instants, release to the chains,
the supervision states, and the commands of the class. -/
namespace Sys2Proof.Machine

/-! ### Streams -/

/-- The context in force of a stream. -/
def svCtx (s : State) (n : Nat) : Option SvContext := tget s.cfg.streams n
/-- The state of a stream. -/
def strSt (s : State) (n : Nat) : StreamSt := tgetD s.svi.streams n {}
/-- Write the state of a stream. -/
def setStr (n : Nat) (x : StreamSt) (s : State) : State := { s with svi := { s.svi with streams := tset s.svi.streams n x } }
/-- The die of a stream. -/
def strDie (n : Nat) : Nat := n / 1024
/-- Count a stream's counter by its place in Table SVI-7. -/
def scnt (n k : Nat) (s : State) : State := bump (.svi n k) s
/-- SUP as a number. -/
def supNum : Sup → Nat
  | .notOn => 0 | .invalid => 1 | .resync => 2 | .questionable => 3 | .good => 4

/-- An event about a stream. -/
def evStream (n code p2 p3 : Nat) : Event := evDie code n p2 p3 (strDie n) n
/-- Change the supervision state, recorded with its cause (R200). -/
def setSup (n : Nat) (u : Sup) (cause : Nat) (s : State) : State :=
  let x := strSt s n
  let s1 := setStr n { x with sup := u, lastCause := cause, resyncReq := if u = .invalid then none else x.resyncReq } s
  let s2 := if u = .resync then scnt n 13 s1 else s1
  recordEvent (evStream n 0x0401 (supNum x.sup + 256 * supNum u) cause) s2

/-- Slots for admitted instants that are not released (R204). -/
def stagingCap : Nat := 8
/-- Output groups that a lane of a filter array's FIFO holds (07 R233). -/
def laneCap : Nat := 16
/-- A stream's lane holds all the groups that it can (07 R233). -/
def laneFull (x : StreamSt) : Bool := decide (laneCap ≤ x.lane.length)
/-- Admitted instants among decided ones. -/
def admittedCount (l : Tbl Nat Decided) : Nat :=
  (l.filter (fun e => match e.2 with | .admitted _ _ _ => true | .missing _ _ => false)).length
/-- Instants in staging: admitted, and not yet taken by the array. -/
def stagedInst (x : StreamSt) : Nat := admittedCount x.decided

/-- The instant has been declared missing since ON. -/
def wasMissed (x : StreamSt) (m : Nat) : Bool := x.missed.any (fun r => decide (r.1 ≤ m ∧ m ≤ r.2))
/-- The instant is undecided (R195). -/
def undecided (x : StreamSt) (m : Nat) : Bool := decide (x.nextRelease ≤ m) && !thas x.decided m
/-- Note a declared instant. -/
def noteMissed (m : Nat) (l : List (Nat × Nat)) : List (Nat × Nat) :=
  match l with
  | [] => [(m, m)]
  | (a, b) :: t => if m = b + 1 then (a, m) :: t else (m, m) :: (a, b) :: t

/-- The due time of an instant (R195). -/
def dueTime (c : SvContext) (m : Nat) : MTime := mtimeOfUnits (munits (instantTime c.rate m) + c.maxLat * 1000 * two32)

/-! ### Output instants (07 R217, R227) -/

/-- The chains of a stream, in ascending number. -/
def chainsOf (s : State) (n : Nat) : List (Nat × ChainParams) :=
  sortBy (fun a b => decide (a.1 ≤ b.1)) (s.cfg.chains.filter (fun e => e.2.stream == n))
/-- Decimation product. -/
def product (p : ChainParams) : Nat := p.fa * p.fb
/-- The heel instant of a rate for a heel reference: ceil(H × f). -/
def heelInstant (rate : Nat) (h : MTime) : Nat := instantFrom rate h
/-- The heel reference for an instant: a heel's own from its heel instant on, and the one before it until then. -/
def heelFor (s : State) (rate n : Nat) : MTime :=
  match s.flt.heels.find? (fun k => decide (heelInstant rate k.h ≤ n)) with
  | some k => k.h
  | none => match s.flt.heels.getLast? with | some k => k.old | none => s.cfg.heel
/-- A chain of decimation product `p` produces an output at an instant. -/
def isOutput (s : State) (rate p n : Nat) : Bool :=
  decide (((n : Int) - heelInstant rate (heelFor s rate n)) % (max 1 p : Nat) = 0)
/-- A chain takes an instant: it was defined before the instant was released (07 R212). -/
def chainTakes (s : State) (c m : Nat) : Bool := decide ((tgetD s.flt.chains c {}).fromInst ≤ m)
/-- The array has no room in a stream's lane: what the instants it has taken will put there counts (R204, 07 R233). -/
def laneTaken (s : State) (n : Nat) (c : SvContext) : Bool :=
  let x := strSt s n
  let coming := countBy (fun r => (chainsOf s n).any (fun e => chainTakes s e.1 r.inst && isOutput s c.rate (product e.2) r.inst)) x.released
  decide (laneCap ≤ x.lane.length + coming)

/-! ### Release (R198, Table SVI-3) -/

/-- The bits of the latest admitted quality that a substituted sample keeps: [6:2] and [13:8]. -/
def heldBits (q : Nat) : Nat := q &&& 0x3F7C

/-- The latest admitted instant before one (R198). -/
def latestAdm (x : StreamSt) (m : Nat) : Option (Nat × List Int × List Nat) := x.adm.find? (fun k => decide (k.1 < m))
/-- A missing instant released by HOLD. -/
def holdRelease (s : State) (c : SvContext) (x : StreamSt) (m : Nat) (due : MTime) : Released :=
  let hb := bbit (holdAt s due) 15
  match latestAdm x m with
  | some (_, v, q) => ⟨m, (List.range c.noch).map (fun i => nth v i 0),
      (List.range c.noch).map (fun i => heldBits (nth q i 0) + 3 + 128 + hb), due, false⟩
  | none => ⟨m, List.replicate c.noch 0, List.replicate c.noch (3 + 128 + hb), due, false⟩
/-- A missing instant released by interpolation between its neighbours. -/
def interpRelease (s : State) (c : SvContext) (v : List Int) (q : List Nat) (w : List Int) (m : Nat) (due : MTime) : Released :=
  let hb := bbit (holdAt s due) 15
  ⟨m, (List.range c.noch).map (fun i => (nth v i 0 + nth w i 0) / 2),
    (List.range c.noch).map (fun i => (heldBits (nth q i 0) ||| 512) + 3 + hb), due, false⟩
/-- A missing instant released as Table SVI-3 gives with its successor known: interpolated between two admitted neighbours under
INTERP, otherwise by HOLD. -/
def substRelease (s : State) (c : SvContext) (x : StreamSt) (m : Nat) (due : MTime) (succ : Option (List Int)) : Released :=
  match latestAdm x m, succ with
  | some (k, v, q), some w => if c.subst = 0 ∧ k + 1 = m then interpRelease s c v q w m due else holdRelease s c x m due
  | _, _ => holdRelease s c x m due
/-- An instant released as INVALID. -/
def invalidRelease (s : State) (c : SvContext) (m : Nat) (due : MTime) : Released :=
  ⟨m, List.replicate c.noch 0, List.replicate c.noch (0x81 + bbit (holdAt s due) 15), due, false⟩

/-- What Table SVI-3 gives for the next instant, if it can be released now; `final` when its successor will never be
decided (R203). The flag tells a substituted sample. -/
def nextOut (s : State) (c : SvContext) (x : StreamSt) (final : Bool) : Option (Released × Bool) :=
  let m := x.nextRelease
  match tget x.decided m with
  | none => none
  | some (.admitted v q t) => some (⟨m, v, q, t, true⟩, false)
  | some (.missing true due) => some (invalidRelease s c m due, false)
  | some (.missing false due) =>
    if c.subst = 1 then some (holdRelease s c x m due, true)
    else match tget x.decided (m + 1) with
      | none => if final then some (holdRelease s c x m due, true) else none
      | some (.admitted v _ _) => some (substRelease s c x m due (some v), true)
      | some (.missing _ _) => some (substRelease s c x m due none, true)

/-- Release in order what can be released, while the lane takes it. -/
def releaseGo (n : Nat) (c : SvContext) (final : Bool) : Nat → State → State
  | 0, s => s
  | fuel + 1, s =>
    let x := strSt s n
    if laneTaken s n c then s
    else match nextOut s c x final with
      | none => s
      | some (r, subst) =>
        let adm := match tget x.decided r.inst with
          | some (.admitted v q _) => ((r.inst, v, q) :: x.adm).take (x.released.length + 2)
          | _ => x.adm
        let x1 := { x with decided := tdel x.decided r.inst, nextRelease := r.inst + 1, lastReleased := r.inst, adm := adm,
                           released := x.released ++ [r] }
        releaseGo n c final fuel (if subst then scnt n 3 (setStr n x1 s) else setStr n x1 s)
/-- The filter array of a stream's chains: 4 × die + region (07 R211, R212). -/
def arrayOf (s : State) (n : Nat) : Nat :=
  match s.cfg.chains.find? (fun e => e.2.stream == n) with
  | some e => e.1 / 2048
  | none => 4 * strDie n
/-- An admitted instant is kept in staging because its lane is full: counted once (07 R233). -/
def noteStall (n m : Nat) (s : State) : State :=
  let x := strSt s n
  if x.stalled.contains m then s
  else
    let a := arrayOf s n
    raiseCounting a 1 0 (evRegion 0x0503 (a / 4 + 256 * (a % 4)) 0 0 a a)
      (bump (.fltStall a) (setStr n { x with stalled := m :: x.stalled } s))
/-- Count what a full lane keeps in staging. -/
def noteStalls (n : Nat) (c : SvContext) (s : State) : State :=
  if laneTaken s n c then
    foldSt (noteStall n) (((strSt s n).decided.filter (fun e => match e.2 with | .admitted _ _ _ => true | .missing _ _ => false)).map (·.1)) s
  else s
/-- Release the decided instants of a stream (R198). -/
def releaseAll (n : Nat) (c : SvContext) (final : Bool) (s : State) : State :=
  noteStalls n c (releaseGo n c final ((strSt s n).decided.length + 1) s)

/-- Release an instant already declared missing at a step of module time, past what is dropped before it (R194). -/
def releaseMissing (n : Nat) (c : SvContext) (m : Nat) (s : State) : State :=
  let x := strSt s n
  match tget x.decided m with
  | some (.missing _ _) =>
    let past (k : Nat) : Option (Nat × List Int × List Nat) := match tget x.decided k with
      | some (.admitted v q _) => some (k, v, q)
      | _ => none
    let held := (firstFrom (fun i => (past (m - 1 - i)).isSome) (m - x.nextRelease) 0).bind (fun i => past (m - 1 - i))
    let y := { x with nextRelease := m, adm := held.toList ++ x.adm }
    match nextOut s c y true with
    | some (r, subst) =>
      let z := { y with lastReleased := m, released := x.released ++ [r] }
      let s1 := setStr n { z with nextRelease := m + 1 } s
      if subst then scnt n 3 s1 else s1
    | none => s
  | _ => s

/-- Module time as it stood before the step at this RAW (03 R119). -/
def timeBefore (s : State) : MTime := convert (s.tim.past.headD s.tim.cur) s.tim.raw 0
/-- A stream at a step of module time (R194). What is declared missing goes out, by HOLD where its successor is not decided; staged
and undecided instants are dropped, and none of them is released later; the stream goes on with the first instant after them at
or after the stepped time, and enters RESYNC with cause 5 at its next admitted instant. A RESYNC whose first instant is dropped
clears the histories at the first instant released after it. -/
def streamStep (n : Nat) (s : State) : State :=
  match svCtx s n with
  | none => s
  | some c =>
    let x := strSt s n
    if x.o.obj ≠ .on ∨ x.sup = .invalid then s
    else
      let s1 := releaseAll n c true s
      let s2 := foldSt (releaseMissing n c) (sortBy (fun a b => decide (a ≤ b)) ((strSt s1 n).decided.map (·.1))) s1
      let y := strSt s2 n
      let n0 := max (max y.nextRelease (maxN (y.decided.map (·.1)) + 1)) (max (instantFrom c.rate (timeBefore s)) (instantFrom c.rate (now s)))
      let kept := y.clears.filter (fun m => decide (m ≤ y.lastReleased))
      setStr n { y with decided := [], missRun := 0, first := some n0, nextRelease := n0, resyncReq := some 5
                        clears := if kept = y.clears then kept else kept ++ [n0] } s2
/-- Every stream at a step of module time. -/
def streamsStep (s : State) : State := foldSt streamStep (s.svi.streams.map (·.1)) s

/-! ### Deciding (R195 to R199) -/

/-- Enter a decided instant into the admission record (14 R434). -/
def logAdmit (a : AdmitInstant) (s : State) : State := { s with pair := { s.pair with admitLog := s.pair.admitLog ++ [a] } }
/-- One more missing instant: counted, in the run, with the transitions of Table SVI-4 that a run makes (R197, R200). -/
def countMissing (n : Nat) (c : SvContext) (m : Nat) (s : State) : State :=
  let x := strSt s n
  let run := x.missRun + 1
  let s1 := scnt n 2 (setStr n { x with missRun := run, missed := noteMissed m x.missed } s)
  match x.sup with
  | .resync | .questionable => if c.missInvalid ≤ run then setSup n .invalid 1 s1 else s1
  | .good => if c.missInvalid ≤ run then setSup n .invalid 1 s1
      else if c.missQuest ≤ run then setSup n .questionable 1 s1 else s1
  | _ => s1
/-- An instant is decided as missing, in the supervision state then in force. -/
def setMissing (n : Nat) (c : SvContext) (m : Nat) (s : State) : State :=
  let y := strSt s n
  logAdmit ⟨n, m, false, [], []⟩ (setStr n { y with decided := tset y.decided m (.missing (decide (y.sup = .invalid)) (dueTime c m)) } s)
/-- Declare an instant missing (R195 to R200). -/
def declareMissing (n : Nat) (c : SvContext) (m : Nat) (s : State) : State :=
  if undecided (strSt s n) m then setMissing n c m (countMissing n c m s) else s
/-- Declare missing every undecided instant up to `m`, in order. -/
def declareUpTo (n : Nat) (c : SvContext) (m : Nat) (s : State) : State :=
  let lo := (strSt s n).nextRelease
  foldSt (declareMissing n c) ((List.range (m + 1 - lo)).map (· + lo)) s

/-- What a RESYNC begins with at an admission: the cause that Table SVI-4 gives, or that of a step or a request which waits for
this instant (R194, R199, R200). A request that finds the stream in RESYNC ends there (log entry 28). -/
def resyncCause (x : StreamSt) : Option Nat :=
  match x.sup with
  | .invalid => some 0
  | .good | .questionable => x.resyncReq
  | .resync => if x.resyncReq = some 5 then some 5 else none
  | .notOn => none
/-- Admit an instant (R196 to R200). Before one that begins a RESYNC every earlier instant is decided. -/
def admitAsdu (n : Nat) (c : SvContext) (m : Nat) (v : List Int) (q : List Nat) (t : MTime) (s : State) : State :=
  let s1 := if 8 ≤ m then declareUpTo n c (m - 8) s else s
  let s2 := if (resyncCause (strSt s1 n)).isSome ∧ 0 < m then declareUpTo n c (m - 1) s1 else s1
  let x := strSt s2 n
  let s3 := logAdmit ⟨n, m, true, v, q⟩ (scnt n 0 (setStr n { x with missRun := 0, resyncReq := none, decided := tset x.decided m (.admitted v q t) } s2))
  let s4 := match resyncCause x with
    | some cause => setSup n .resync cause (setStr n { strSt s3 n with clears := x.clears ++ [m] } s3)
    | none => if x.sup = .questionable then setSup n .good 3 s3 else s3
  releaseAll n c false s4

/-- An instant that was admitted is marked missing: it counts as one, and supervises a stream that is ON (R200, R203). -/
def loseInstant (n : Nat) (c : SvContext) (m : Nat) (s : State) : State :=
  let x := strSt s n
  if x.o.obj = .on then countMissing n c m s
  else scnt n 2 (setStr n { x with missed := noteMissed m x.missed } s)
/-- A released instant that its admitted neighbours substitute, as they stand now; others stay (Table SVI-3). -/
def resubst (s : State) (c : SvContext) (x : StreamSt) (r : Released) : Released :=
  if r.admitted || qInvalid (nth r.quals 0 3) then r
  else
    let next := match x.released.find? (fun k => k.inst == r.inst + 1 && k.admitted), tget x.decided (r.inst + 1) with
      | some k, _ => some k.values
      | none, some (.admitted v _ _) => some v
      | none, _ => none
    substRelease s c x r.inst r.stamp next
/-- An instant on its way to the chains is marked missing: it, and what was substituted from it, go by Table SVI-3. -/
def loseReleased (n : Nat) (c : SvContext) (m : Nat) (s : State) : State :=
  let x := strSt s n
  let inv := decide (x.sup = .invalid)
  let lost := if inv then invalidRelease s c m (dueTime c m) else ⟨m, [], [], dueTime c m, false⟩
  let y := { x with adm := x.adm.filter (fun k => k.1 != m), released := x.released.map (fun (k : Released) => if k.inst == m then lost else k) }
  let s1 := setStr n { y with released := y.released.map (fun (k : Released) => if k.inst < m then k else resubst s c y k) } s
  if inv then s1 else scnt n 3 s1
/-- An instant fails parity in staging, on its way to the chains or in the output lane: it is marked missing, with the supervision
of a missing instant (01 Table ARC-3); outputs that wait in the lane are invalid with failure (01 R43). -/
def spoilInstant (n m : Nat) (s : State) : State :=
  match svCtx s n with
  | none => s
  | some c =>
    let x := strSt s n
    match tget x.decided m, x.released.find? (fun r => r.inst == m && r.admitted) with
    | some (.admitted _ _ _), _ => releaseAll n c (decide (x.o.obj = .draining)) (setMissing n c m (loseInstant n c m s))
    | _, some _ => loseReleased n c m (loseInstant n c m s)
    | _, none =>
      if x.lane.any (fun g => g.any (fun o => o.inst == m)) = false then s
      else
        let s1 := loseInstant n c m s
        let y := strSt s1 n
        setStr n { y with lane := y.lane.map (fun g => g.map (fun o =>
          if o.inst == m then { o with qual := qSet (qVal o.qual 1) 6, det := o.det.map (fun d => (d.1, qSet (qVal d.2 1) 6)) } else o)) } s1

/-! ### Verification capacity (R192, 17 R519) -/

/-- A frame is verified within the capacity of the die: none when no capacity remains within 16 µs of its stamp. -/
def verifyTake (die len stampRaw : Nat) (s : State) : Option State :=
  let fin := max (tgetD s.svi.authFree die 0) (4 * stampRaw) + 125 * ((len + 255) / 256)
  if fin ≤ 4 * (stampRaw + rawUs 16) then some { s with svi := { s.svi with authFree := tset s.svi.authFree die fin } } else none
/-- The key that a rolling commit replaced still serves (17 R519). -/
def rolledKey (s : State) (slot : Nat) : Bool :=
  match (slotSt s slot).rolled with
  | some (k, r) => decide (k.engine = 0) && [0, 1].contains k.type && decide (s.tim.raw < r + rawMs s.cfg.rollMs)
  | none => false
/-- Verify a frame with the key of a slot: none when it is dropped for want of capacity. -/
def verifyFrame (die slot len stampRaw : Nat) (ok oldOk : Bool) (s : State) : Option (Bool × State) :=
  if slot = 0xFFFF then some (true, s)
  else if (engineKey s slot 0 [0, 1]).isNone then some (false, s)
  else match verifyTake die len stampRaw s with
    | none => none
    | some s1 =>
      if ok then some (true, s1)
      else if rolledKey s slot then (verifyTake die len stampRaw s1).map (fun s2 => (oldOk, s2))
      else some (false, s1)

/-! ### Frames (R191 to R193, R204 to R206) -/

/-- R193: the instant of a smpCnt at a stamp. -/
def nameInstant (rate c : Nat) (a : MTime) : Nat :=
  if rate = 0 then 0
  else
    let k := (munits a * rate + secUnits * (rate / 2 : Nat)) / secUnits
    (k - ((k - c) % (rate : Int))).toNat

/-- smpSynch meets SYNCH_REQ (Table SVI-2 order 11). -/
def synchOk (req v : Nat) : Bool :=
  if v = 3 ∨ v = 4 ∨ v = 255 then false
  else if req = 0 then true
  else if req = 1 then decide (1 ≤ v) else decide (2 ≤ v)

/-- Table SVI-2 order 6. -/
def svFormatOk (c : SvContext) (f : SvFrame) : Bool :=
  let n := f.asdus.length
  decide (1 ≤ n ∧ n ≤ 8) && f.asdus.all (fun a => a.svid == c.svid && a.seqLen == 8 * c.noch && decide (a.smpCnt < c.rate))
    && (List.zip f.asdus (f.asdus.drop 1)).all (fun p => p.2.smpCnt == (p.1.smpCnt + 1) % c.rate)

/-- The stream whose context a frame matches (order 2). -/
def svFind (s : State) (f : SvFrame) : Option (Nat × SvContext) :=
  match f.asdus with
  | [] => none
  | a :: _ => s.cfg.streams.find? (fun e => e.2.da == f.da && e.2.appid == f.appid && e.2.svid == a.svid)

/-- An arrival port is the named one or its partner. -/
def onPair (s : State) (port at_ : Nat) : Bool := at_ == port || (paired s port && at_ == (portCfg s port).partner)

/-- An ASDU passes orders 10 to 12. -/
def asduOk (c : SvContext) (stamp : MTime) (a : Asdu) : Bool :=
  a.confRev == c.confRev && synchOk c.synchReq a.smpSynch
    && decide (munits (instantTime c.rate (nameInstant c.rate a.smpCnt stamp)) ≤ munits stamp + c.futureTol * 1000 * two32)

/-- Judge one ASDU by orders 10 to 13 and take in its instant (R193). -/
def takeAsdu (n : Nat) (c : SvContext) (raw : Nat) (stamp : MTime) (a : Asdu) (s : State) : State :=
  if a.confRev ≠ c.confRev then
    raiseLimited n (evStream n 0x0402 a.confRev c.confRev) (scnt n 6 s)
  else if synchOk c.synchReq a.smpSynch = false then raiseLimited n (evStream n 0x0405 a.smpSynch 0) (scnt n 7 s)
  else if asduOk c stamp a = false then scnt n 8 s
  else
    let m := nameInstant c.rate a.smpCnt stamp
    let x := strSt s n
    if m < x.first.getD 0 ∨ wasMissed x m = true then scnt n 4 s
    else if undecided x m = false then scnt n 1 s
    else
      let hb := bbit (holdAtRaw s raw) 15
      let quals := (List.range c.noch).map (fun i =>
        let q := nth a.quals i 0 % 16384
        (if q % 4 = 2 then qVal q 1 else q) + hb)
      admitAsdu n c m ((List.range c.noch).map (fun i => nth a.values i 0)) quals stamp s

/-- The queued copy of a frame at an engine's destination. -/
def queuedCopy (s : State) (die dest : Nat) (b : Body) : Option Copy :=
  s.swc.copies.find? (fun c => c.die == die && c.dest == dest && c.info.body == b)
/-- A cell of that copy has failed parity: the engine does not get it (05 R184). -/
def queuedBad (s : State) (die dest : Nat) (b : Body) : Bool :=
  match queuedCopy s die dest b with | some c => chainBad s c.chain | none => false
/-- The queued copy of a frame leaves its destination when the engine takes it, or is dropped and counted (05 R183, R184). -/
def takeQueued (die dest : Nat) (b : Body) (s : State) : State :=
  match queuedCopy s die dest b with
  | some c => releaseCopies (· == c) (if chainBad s c.chain then bump (.swcParityDrop die dest) s else s)
  | none => s

/-- A frame within the rate of its die (R206), measured over seconds of RAW. -/
def rxRoom (die : Nat) (s : State) : Bool × State :=
  let sec := s.tim.raw / rawSec 1
  let (t, k) := tgetD s.svi.rxCount die (0, 0)
  let k1 := if t = sec then k else 0
  (decide (k1 < 40000000), { s with svi := { s.svi with rxCount := tset s.svi.rxCount die (sec, k1 + 1) } })

/-- The instants of a frame that would be admitted, and so need staging (R205). -/
def newInstants (x : StreamSt) (c : SvContext) (stamp : MTime) (f : SvFrame) : List Nat :=
  dedupN ((f.asdus.filter (asduOk c stamp)).map (fun a => nameInstant c.rate a.smpCnt stamp)
    |>.filter (fun m => decide (x.first.getD 0 ≤ m) && undecided x m))

/-- Every instant that a frame carries and that is still undecided, whatever else of its ASDU fails (R205). -/
def carried (x : StreamSt) (c : SvContext) (stamp : MTime) (f : SvFrame) : List Nat :=
  sortBy (fun a b => decide (a ≤ b)) (dedupN ((f.asdus.map (fun a => nameInstant c.rate a.smpCnt stamp))
    |>.filter (fun m => decide (x.first.getD 0 ≤ m) && undecided x m)))

/-- What R196 declares missing before a frame's instants, and what that releases: the staging room of R205 is judged after it. -/
def declareFor (n : Nat) (c : SvContext) (new : List Nat) (s : State) : State :=
  if new.isEmpty ∨ maxN new < 8 then s else releaseAll n c false (declareUpTo n c (maxN new - 8) s)
/-- The instants of a frame enter the stream one by one, each after what R196 declares for it, or the frame is dropped for want of
staging (R196, R204, R205). -/
def takeFrame (n : Nat) (c : SvContext) (raw : Nat) (stamp : MTime) (f : SvFrame) (s : State) : State :=
  let new := newInstants (strSt s n) c stamp f
  let s1 := declareFor n c new s
  let x := strSt s1 n
  let new1 := new.filter (undecided x)
  if new1.isEmpty = false ∧ stagingCap < stagedInst x + new1.length then
    let s2 := raiseCounting n 1 0 (evStream n 0x0404 0 0) (scnt n 5 s1)
    releaseAll n c false (foldSt (declareMissing n c) (carried x c stamp f) s2)
  else foldSt (takeAsdu n c raw stamp) f.asdus s

/-- The ingest engine takes a frame (R191). -/
def execSvFrameIngest (die port raw sub : Nat) (f : SvFrame) (s : State) : Host.Outcome State Fault Refusal :=
  .next (let s0 := takeQueued die 4 (.sv f) s
    let stamp := rxStamp s port raw sub
    let (room, s1) := rxRoom die s0
    if queuedBad s die 4 (.sv f) then s0
    else if !room then bump (.sviDie die 4) s1
    else if !f.decodable then bump (.sviDie die 0) s1
    else match svFind s1 f with
      | none => bump (.sviDie die 1) s1
      | some (n, c) =>
        if strDie n ≠ die then bump (.sviDie die 2) s1
        else if (strSt s1 n).o.obj ≠ .on then bump (.sviDie die 3) s1
        else if onPair s1 c.port port = false then scnt n 11 s1
        else if svFormatOk c f = false then scnt n 10 s1
        else if f.simulate ≠ c.sim then scnt n 12 s1
        else match verifyFrame die c.keySlot f.len raw f.authOk f.authOldOk s1 with
          | none => scnt n 5 s1
          | some (false, s2) => raiseCounting n 1 0 (evStream n 0x0403 0 0) (scnt n 9 s2)
          | some (true, s2) => takeFrame n c raw stamp f s2)

/-- The lowest undecided instant of a stream. -/
def lowestUndecided (x : StreamSt) : Nat := (firstFrom (undecided x) (x.decided.length + 1) x.nextRelease).getD x.nextRelease

/-! ### Enabling (R203, R209) -/

/-- What a stream keeps when it goes OFF: what the array has taken, the last instant released and the last cause (R207, 07 R233). -/
def offStream (o : ObjSt) (x : StreamSt) : StreamSt :=
  { o, lane := x.lane, released := x.released, clears := x.clears, lastReleased := x.lastReleased, lastCause := x.lastCause }
/-- A draining stream that has nothing left to release reaches OFF (R203). -/
def streamDrained (n : Nat) (s : State) : State :=
  let x := strSt s n
  if x.o.obj = .draining ∧ x.decided.isEmpty = true then
    let (o, act) := objDrained x.o
    let s1 := setStr n { offStream o x with startRaw := s.tim.raw } s
    if act = .start then evStart 4 n s1 else s1
  else s
/-- A draining stream goes past instants that will never be decided: the least decided one is the next to release (R203). -/
def skipHoles (n : Nat) (s : State) : State :=
  let x := strSt s n
  match (sortBy (fun a b => decide (a ≤ b)) (x.decided.map (·.1))).head? with
  | some m => if x.nextRelease < m then setStr n { x with nextRelease := m } s else s
  | none => s
/-- A draining stream releases what is staged and what is declared missing, in instant order (R203). -/
def drainRelease (n : Nat) (c : SvContext) (s : State) : State :=
  foldSt (fun _ s => releaseAll n c true (skipHoles n s)) (List.range ((strSt s n).decided.length + 1)) s
/-- Release what a stream can release now; a draining one that has released everything is OFF (R198, R203). -/
def releaseNow (n : Nat) (c : SvContext) (s : State) : State :=
  match (strSt s n).o.obj with
  | .on => releaseAll n c false s
  | .draining => streamDrained n (drainRelease n c s)
  | _ => s

/-- An undecided instant is declared missing after its due time (R195, R202). -/
def execInstantDue (stream : Nat) (s : State) : Host.Outcome State Fault Refusal :=
  .next (match svCtx s stream with
    | none => s
    | some c =>
      let x := strSt s stream
      let m := lowestUndecided x
      let late := if c.keySlot = 0xFFFF then 4000 else 16000
      if x.o.obj = .on ∧ munits (dueTime c m) + late * two32 ≤ munits (now s) then
        releaseAll stream c false (declareMissing stream c m s)
      else releaseNow stream c s)

/-- An ON stream enters DRAINING (R203). -/
def streamDrain (n : Nat) (s : State) : State :=
  match svCtx s n with
  | none => s
  | some c =>
    let x := strSt s n
    let top := maxN ((x.decided.filter (fun e => match e.2 with | .admitted _ _ _ => true | .missing _ _ => false)).map (·.1))
    let holes := ((List.range (top - x.nextRelease)).map (· + x.nextRelease)).filter (undecided x)
    let s1 := foldSt (fun m s =>
      let y := strSt s n
      let z := { y with missed := noteMissed m y.missed,
                        decided := tset y.decided m (.missing (decide (y.sup = .invalid)) (dueTime c m)) }
      logAdmit ⟨n, m, false, [], []⟩ (scnt n 2 (setStr n z s))) holes s
    streamDrained n (drainRelease n c s1)

/-- A STARTING stream becomes ON, in INVALID with cause 6 (R200, R209). -/
def execStreamOn (stream : Nat) (s : State) : Host.Outcome State Fault Refusal :=
  .next (match svCtx s stream with
    | none => s
    | some c =>
      let x := strSt s stream
      if x.o.obj ≠ .starting then s
      else
        let (o, act) := objStarted x.o
        let n0 := instantFrom c.rate (now s)
        let y := { offStream o x with first := some n0, nextRelease := n0 }
        if act = .drain then streamDrained stream (setStr stream y s)
        else setSup stream .invalid 6 (setStr stream y s))

/-- Enable or disable a stream (R203, R209, 09 R292). -/
def streamChange (n : Nat) (en : Bool) (jseq : Nat) (s : State) : Nat × State :=
  let x := strSt s n
  let (o, st, act) := objChange en x.o
  let s1 := setStr n { x with o := o, startRaw := if act = .start then s.tim.raw else x.startRaw } s
  (st, match act with
    | .drain => streamDrain n s1
    | .cancel => evCancel 4 n jseq s1
    | _ => s1)

/-! ### Commands (R208) -/

/-- A stream on a die of the variant. -/
def strUnsupported (n : Nat) (s : State) : Bool := decide (n ≤ 8191) && !hasDie s (strDie n)
/-- The rates of R189. -/
def rates : List Nat := [4000, 4800, 12800, 14400, 15360]
/-- A VisibleString field of 1 to 64 bytes. -/
def strOk (b : Bytes) : Bool := decide (1 ≤ b.length ∧ b.length ≤ 64)
/-- A KEY_SLOT field: 0 to 255, or 0xFFFF for none. -/
def keySlotOk (k : Nat) : Bool := decide (k ≤ 255 ∨ k = 0xFFFF)

/-- The ranges of Table SVI-1. -/
def svContextOk (c : SvContext) : Bool :=
  decide (c.synchReq ≤ 2) && isMcast c.da && decide (0x4000 ≤ c.appid ∧ c.appid ≤ 0x7FFF) && rates.contains c.rate
    && decide (1 ≤ c.noch ∧ c.noch ≤ 24 ∧ c.subst ≤ 1 ∧ c.sim ≤ 1 ∧ 1 ≤ c.missQuest ∧ c.missQuest ≤ 15 ∧ 2 ≤ c.missInvalid
      ∧ c.missInvalid ≤ 64 ∧ c.missQuest < c.missInvalid ∧ 100 ≤ c.maxLat ∧ c.maxLat ≤ 10000 ∧ 10 ≤ c.futureTol
      ∧ c.futureTol ≤ 10000)
    && keySlotOk c.keySlot && strOk c.svid

/-- SV_SUBSCRIBE. -/
def svSubscribePacket (h : Hdr) (stream : Nat) (c : SvContext) : Packet :=
  { configPacket h 0x0401 (fun _ => decide (stream ≤ 8191) && svContextOk c) (.svSub stream c) with
    unsupported := fun s => strUnsupported stream s || !hasPort s c.port }
/-- SV_SUBSCRIBE. -/
def execSvSubscribe (h : Hdr) (stream : Nat) (c : SvContext) (s : State) : Host.Outcome State Fault Refusal :=
  .next (submit (.svSubscribe h stream c) (svSubscribePacket h stream c) s)

/-- SV_UNSUBSCRIBE. -/
def svUnsubscribePacket (h : Hdr) (stream : Nat) : Packet :=
  { configPacket h 0x0402 (fun _ => decide (stream ≤ 8191)) (.svUnsub stream) with unsupported := strUnsupported stream }
/-- SV_UNSUBSCRIBE. -/
def execSvUnsubscribe (h : Hdr) (stream : Nat) (s : State) : Host.Outcome State Fault Refusal :=
  .next (submit (.svUnsubscribe h stream) (svUnsubscribePacket h stream) s)

/-- SV_STREAM_ENABLE (R203, R209). -/
def svStreamEnablePacket (h : Hdr) (stream enable : Nat) : Packet :=
  { h, opcode := 0x0440, pfOnly := true, busyBefore := true, unsupported := strUnsupported stream,
    eff := fun j s =>
      if 8191 < stream ∨ 1 < enable then failRes stFailed s
      else if enable = 1 ∧ (svCtx s stream).isNone then failRes stFailed s
      else let (st, s1) := streamChange stream (enable == 1) j s; .done st 0 s1 }
/-- SV_STREAM_ENABLE. -/
def execSvStreamEnable (h : Hdr) (stream enable : Nat) (s : State) : Host.Outcome State Fault Refusal :=
  .next (submit (.svStreamEnable h stream enable) (svStreamEnablePacket h stream enable) s)

/-- SV_RESYNC asks for RESYNC at the next admitted instant of a GOOD or QUESTIONABLE stream (R209). -/
def svResyncPacket (h : Hdr) (stream : Nat) : Packet :=
  { h, opcode := 0x0441, pfOnly := true, busyBefore := true, unsupported := strUnsupported stream,
    eff := fun _ s =>
      if 8191 < stream then failRes stFailed s
      else
        let x := strSt s stream
        if x.o.obj = .on ∧ (x.sup = .good ∨ x.sup = .questionable) then okRes (setStr stream { x with resyncReq := some 4 } s)
        else okRes s }
/-- SV_RESYNC. -/
def execSvResync (h : Hdr) (stream : Nat) (s : State) : Host.Outcome State Fault Refusal :=
  .next (submit (.svResync h stream) (svResyncPacket h stream) s)

/-- SVI_CTX_STATE (Table SVI-7). -/
def sviCtxState (x : StreamSt) : Nat :=
  satN 255 x.missRun * 2 ^ 24 + min 15 (stagedInst x) * 2 ^ 20 + x.lastCause * 256
    + (if x.o.obj = .on then supNum x.sup else 0) * 16 + objNum x.o.obj

/-- SV_STREAM_READ. -/
def svStreamReadPacket (h : Hdr) (stream : Nat) : Packet :=
  { h, opcode := 0x0480, pfOnly := false, unsupported := strUnsupported stream,
    eff := fun _ s =>
      if 8191 < stream then failRes stFailed s
      else if (svCtx s stream).isNone then .done stOk 0 s
      else .done stOk (resB 0 (sviCtxState (strSt s stream)) ||| resB 8 (strSt s stream).lastReleased) s }
/-- SV_STREAM_READ. -/
def execSvStreamRead (h : Hdr) (stream : Nat) (s : State) : Host.Outcome State Fault Refusal :=
  .next (submit (.svStreamRead h stream) (svStreamReadPacket h stream) s)

end Sys2Proof.Machine
end

