-- ==== Sys2Proof/Machine/Filters.lean ====
section
/-! DEFINITION. Filter and decimation chains (07): stage arithmetic, output instants, quality, detectors, heels, the
output lanes, and the commands of the class. -/
namespace Sys2Proof.Machine

/-! ### Stages (R214 to R218) -/

/-- Convolve a list of coefficients with a boxcar of length `m`. -/
def boxConv (m : Nat) (c : List Nat) : List Nat :=
  (List.range (c.length + m - 1)).map (fun i => sumN ((List.range m).map (fun j => if j ≤ i then nth c (i - j) 0 else 0)))
/-- The coefficients of a stage of order K and factor M (R214). -/
def stageCoef (m : Nat) : Nat → List Nat
  | 0 => [1]
  | k + 1 => boxConv m (stageCoef m k)
/-- The order of stage A of a KIND (Table FLT-1). -/
def orderA (kind : Nat) : Nat := if kind = 0 then 2 else if kind = 1 then 4 else 6
/-- The integer nearest to 2^32 / d. -/
def normOf (d : Nat) : Nat := (2 * 2 ^ 32 + d) / (2 * d)

/-- A stage output (R215): the taps given newest first, missing taps zero; the flag tells a clamp. -/
def stageOut (k m : Nat) (x : List Int) : Int × Bool :=
  if m ≤ 1 then (x.headD 0, false)
  else
    let acc := (List.zip (stageCoef m k) x).foldl (fun a p => a + (p.1 : Int) * p.2) 0
    let r := (acc * (normOf (m ^ k) : Nat) + 2147483648) / 4294967296
    let y := clampI (-2147483648) 2147483647 r
    (y, decide (y ≠ r))

/-- Group delay D of a chain in input samples (R218). -/
def groupDelay (p : ChainParams) : Nat := (orderA p.kind * (p.fa - 1) + 2 * p.fa * (p.fb - 1)) / 2
/-- Settling length S (R218). -/
def settleLen (p : ChainParams) : Nat := 2 * groupDelay p + 1
/-- The chain output over its inputs, newest first (R216). -/
def chainValue (p : ChainParams) (x : List Int) : Int × Bool :=
  let as := (List.range (2 * (p.fb - 1) + 1)).map (fun j => stageOut (orderA p.kind) p.fa (x.drop (j * p.fa)))
  let b := stageOut 2 p.fb (as.map (·.1))
  (b.1, b.2 || as.any (·.2))

/-- The quality over a span (R222): `cold` when the history has not settled. -/
def spanQual (cold past : Bool) (q : List Nat) : Nat :=
  let v := if cold ∨ q.any qInvalid = true then 1 else if q.any (fun a => validity a == 3) then 3 else 0
  let o := q.foldl (· ||| ·) 0
  (qVal (qClr o 14) v) ||| bbit past 2

/-! ### Detectors (R223 to R226) -/

/-- |y| with |−2^31| taken as 2^31 − 1. -/
def absSat (y : Int) : Int := min 2147483647 y.natAbs
/-- The detector's new state and its output over the chain outputs, newest first (R223 to R226). -/
def detStep (p : ChainParams) (x : ChainSt) (y : Int) (q : Nat) : ChainSt × Option (Int × Nat) :=
  match p.det with
  | 0 => (x, none)
  | 3 =>
    let d := absSat y * 65536 - x.env
    let e := x.env + d / (2 ^ (if 0 < d then p.attackSh else p.decaySh) : Nat)
    ({ x with env := e, lastDet := e / 65536 }, some (e / 65536, q))
  | k =>
    let left := (x.detHist.drop (p.detN - 1)).headD (0, 0)
    let win := ((y, q) :: x.detHist).take p.detN
    let sq := x.sqSum + y * y - (if p.detN ≤ x.detHist.length then left.1 * left.1 else 0)
    let cold := decide (win.length < p.detN)
    let qual := spanQual cold false (win.map (·.2))
    let v : Int := if k = 1 then (win.map (fun e => absSat e.1)).foldl max 0
      else min 2147483647 (isqrt (sq.toNat / max 1 p.detN) : Nat)
    ({ x with detHist := win, sqSum := sq, lastDet := v }, some (v, qual))

/-! ### A chain takes an instant (R216, R220, R234) -/

/-- Inputs that a chain keeps beyond its span, for outputs that a mirror makes it compute again (14 R436). -/
def keepInputs : Nat := 512
/-- The state of a chain. -/
def chainSt (s : State) (c : Nat) : ChainSt := tgetD s.flt.chains c {}
/-- Write the state of a chain. -/
def setChain (c : Nat) (x : ChainSt) (s : State) : State := { s with flt := { s.flt with chains := tset s.flt.chains c x } }
/-- Clear a chain's history (R220). -/
def clearChain (x : ChainSt) : ChainSt := { x with hist := [], taken := 0, detHist := [], sqSum := 0, env := 0, parityBad := false }
/-- The chain has not settled: its last instant is among the first S − 1 since its history was cleared (R220). -/
def unsettled (p : ChainParams) (x : ChainSt) : Bool := decide (x.taken < settleLen p)

/-- The heels whose heel instant a chain has reached at an instant. -/
def heelsReached (s : State) (rate m : Nat) : Nat := countBy (fun k => decide (heelInstant rate k.h ≤ m)) s.flt.heels
/-- A heel with CLEAR that a chain has not met yet takes effect at an instant (R227). -/
def heelClears (s : State) (rate m : Nat) (x : ChainSt) : Bool :=
  (s.flt.heels.take (s.flt.heels.length - x.heelSeen)).any (fun k => k.clear && decide (heelInstant rate k.h ≤ m))
/-- A chain before an instant: its history is cleared by a RESYNC that the instant begins, or by a heel with CLEAR (R220, 06
R201). -/
def chainBefore (s : State) (n rate m : Nat) (x : ChainSt) : ChainSt :=
  if (strSt s n).clears.contains m then { clearChain x with since := 0 }
  else if heelClears s rate m x then clearChain x else x

/-- Run one chain on a released instant: its new state, its output if this is an output instant, and a parity error. -/
def chainStep (s : State) (n rate : Nat) (c : Nat) (p : ChainParams) (r : Released) (x : ChainSt) :
    ChainSt × Option ChainOut × Bool × Bool :=
  let x0 := chainBefore s n rate r.inst x
  let x1 := { x0 with lastIn := r.inst, hist := ((nth r.values p.pos 0, nth r.quals p.pos 1) :: x0.hist).take (settleLen p + keepInputs),
                      taken := x0.taken + 1, since := x0.since + 1, heelSeen := max x0.heelSeen (heelsReached s rate r.inst) }
  if !isOutput s rate (product p) r.inst then (x1, none, false, false)
  else
    let (y, past) := chainValue p (x1.hist.map (·.1))
    let q0 := spanQual (unsettled p x1) past ((x1.hist.take (settleLen p)).map (·.2))
    let q := if x1.parityBad then qSet (qVal q0 1) 6 else q0
    let (x2, det) := detStep p x1 y q
    let x3 := if x1.parityBad then
        { clearChain x2 with hist := [(nth r.values p.pos 0, nth r.quals p.pos 1)], taken := 1, since := 1, parityBad := false } else x2
    let d := groupDelay p
    let priv := p.priv == 1
    let stamp := if priv then instantTime rate (r.inst - d) else r.stamp
    ({ x3 with lastInst := r.inst }, some ⟨c, r.inst, if priv then r.inst - d else r.inst, y, q, det, stamp⟩, past, x1.parityBad)

/-- One chain takes the instant, unless the instant was released before the chain was defined (R212): its counters, its events, its output. Only the supervision of a stream that is ON changes (06
R203). -/
def runChain (n : Nat) (c : SvContext) (r : Released) (e : Nat × ChainParams) (acc : State × List ChainOut) :
    State × List ChainOut :=
  let s := acc.1
  if chainTakes s e.1 r.inst = false then acc else
  let (x, out, past, bad) := chainStep s n c.rate e.1 e.2 r (chainSt s e.1)
  let a := e.1 / 2048
  let s1 := setChain e.1 x s
  let s2 := if past then bump (.fltSat a) s1 else s1
  let s3 := if bad then
      let s' := recordEvent (evRegion 0x0502 e.1 r.inst 0 a e.1) (bump (.fltParity a) s2)
      let y := strSt s' n
      if y.o.obj = .on ∧ (y.sup = .good ∨ y.sup = .questionable) then setSup n .resync 7 s' else s'
    else s2
  (s3, match out with | some o => acc.2 ++ [o] | none => acc.2)

/-- RESYNC ends when its first instant has reached the chains and every chain has taken its settling length since, or since its
own parity error (Table SVI-4, R201). -/
def resyncDone (s : State) (n : Nat) : Bool :=
  (strSt s n).clears.isEmpty && (chainsOf s n).all (fun e => decide (settleLen e.2 ≤ (chainSt s e.1).since))

/-- An output feeds the sampled-value publications that name its chain (08 R264, R266). -/
def feedSvp (rate : Nat) (o : ChainOut) (s : State) : State :=
  { s with sig := { s.sig with svp := s.sig.svp.map (fun e =>
      match tget s.cfg.svp e.1 with
      | none => e
      | some p =>
        if (e.2.o.obj = .on ∨ e.2.o.obj = .draining) ∧ o.carried * p.rate % max 1 rate = 0 then
          let idx := (List.range p.sources.length).filter (fun i =>
            nth p.sources i ⟨1, 0⟩ == ⟨0, o.chain⟩)
          (e.1, { e.2 with ready := e.2.ready ++ idx.map (fun i => (i, o.carried * p.rate / max 1 rate, o.value, o.qual)) })
        else e) } }

/-- What an output folds into the cycle digest: itself, then its detector's output (R236). -/
def digestEntries (o : ChainOut) : List (Nat × Nat × Int × Nat) :=
  (o.chain, o.carried, o.value, o.qual) :: (match o.det with | some d => [(o.chain, o.carried, d.1, d.2)] | none => [])

/-- A stream that has settled leaves RESYNC, while it is ON (06 Table SVI-4, R203). -/
def settleStream (n : Nat) (s : State) : State :=
  let x := strSt s n
  if x.o.obj = .on ∧ x.sup = .resync ∧ resyncDone s n = true then setSup n .good 2 s else s
/-- The array takes a released instant of a stream: every chain runs, and their outputs are one group in the lane (R213, R232). -/
def takeInstant (stream : Nat) (c : SvContext) (r : Released) (s : State) : State :=
  let (s1, outs) := (chainsOf s stream).foldl (fun acc e => runChain stream c r e acc) (s, [])
  let s2 := foldSt (feedSvp c.rate) outs { s1 with flt := { s1.flt with digestLog := s1.flt.digestLog ++ outs.flatMap digestEntries } }
  let y := strSt s2 stream
  settleStream stream (setStr stream { y with lane := if outs.isEmpty then y.lane else y.lane ++ [outs], clears := y.clears.filter (fun m => decide (r.inst < m)) } s2)

/-- The head released instant of a stream goes through its chains (R213, R232, R233). A full lane takes nothing. -/
def execFilterOutput (stream : Nat) (s : State) : Host.Outcome State Fault Refusal :=
  .next (match svCtx s stream with
    | none => s
    | some c =>
      let x := strSt s stream
      match x.released with
      | [] => s
      | r :: rest =>
        if laneFull x then noteStalls stream c s
        else releaseNow stream c (takeInstant stream c r (setStr stream { x with released := rest, stalled := x.stalled.filter (· != r.inst) } s)))

/-- A golden vector fails on an array: the count, EV_FLT_GOLDEN and the array-fault flag (R235). -/
def goldenFails (array vector : Nat) (s : State) : State :=
  setFlag 3 true { recordEvent (evRegion 0x0504 (array / 4 + 256 * (array % 4)) vector 0 array array)
    (bump (.fltGoldenFail array) s) with pair := { s.pair with goldenFail := s.pair.goldenFail + 1 } }
/-- Every 100 ms a golden vector runs on an array's test lane (R235, 14 Table PAIR-8a). -/
def execGoldenVectorRun (array vector : Nat) (ok : Bool) (s : State) : Host.Outcome State Fault Refusal :=
  .next (if 4 * Config.dies s.variant ≤ array ∨ s.pair.state = .failed then s
    else every 1 array (rawMs 100) (fun s => if ok then s else goldenFails array vector s) s)

/-! ### Heels (R227 to R230) -/

/-- EV_FLT_HEEL's source: 0 FLT_HEEL, 1 pin, 2 commit, 3 SCHEDULE, from a pending heel's SRC. -/
def heelSrc (src : Nat) : Nat := if src = 2 then 3 else src
/-- H in the configuration in force and in those that are committed (R231). -/
def setHeel (h : MTime) (s : State) : State :=
  { s with cfg := { s.cfg with heel := h }, commits := s.commits.map (fun k => { k with cfg := { k.cfg with heel := h } }) }
/-- Take a heel reference into force (R227). -/
def takeHeel (h : MTime) (clear : Bool) (src : Nat) (s : State) : State :=
  recordEvent (evPkg 0x0501 h.sec h.ns (src + 256 * bbit clear 0) 0) (bump .fltHeelCount
    (setHeel h { s with flt := { s.flt with heels := ⟨s.cfg.heel, h, clear⟩ :: s.flt.heels } }))

/-- The event of a HEEL action that executes: its handle is 0xFFFF (09 R298, R299). -/
def heelExec (late : Int) (st : Nat) (s : State) : State := recordEvent (evPkg 0x0704 (0xFFFF + 65536 * 5) (ps late) st 0) s
/-- The pending heel takes effect at its H; one that SCHEDULE booked is recorded as an executed action. -/
def takePending (p : PendHeel) (s : State) : State :=
  let s1 := takeHeel ⟨p.sec, p.ns, 0⟩ p.clear (heelSrc p.src) { s with flt := { s.flt with pending := none } }
  if p.src = 2 then heelExec 0 stOk s1 else s1

/-- A heel from another source has taken effect at a whole second. -/
def heeledAt (sec : Nat) (s : State) : Bool := match s.flt.heels with | k :: _ => k.h == ⟨sec, 0, 0⟩ | [] => false
/-- The automatic heel of a commit re-applies the reference in force (R230). It merges into a heel of the same whole second, which
takes effect there now or has done so already. -/
def autoHeel (sec : Nat) (s : State) : State :=
  let again := recordEvent (evPkg 0x0501 s.cfg.heel.sec s.cfg.heel.ns 2 0) (bump .fltHeelCount s)
  match s.flt.pending with
  | some p => if p.sec = sec ∧ p.ns = 0 then takePending p s else if heeledAt sec s then s else again
  | none => if heeledAt sec s then s else again

/-- Module time reaches the pending H (R227). -/
def execHeelApply (s : State) : Host.Outcome State Fault Refusal :=
  .next (match s.flt.pending with
    | some p => if mle (secNs p.sec p.ns) (now s) then
        takePending p s else s
    | none => s)

/-- HEEL_N falls: the edge is stamped (R229). -/
def execHeelNFall (raw sub : Nat) (s : State) : Host.Outcome State Fault Refusal :=
  .next { s with flt := { s.flt with heelFall := some (raw, sub) } }

/-- The first whole second of module time at least 20 ms after a stamp. -/
def pinSecond (t : MTime) : Nat := ((munits t + 20000000 * two32 + secUnits - 1) / secUnits).toNat

/-- HEEL_N has stayed low for 1 µs: the edge is judged (R229). -/
def execHeelNQualify (s : State) : Host.Outcome State Fault Refusal :=
  .next (match s.flt.heelFall with
    | none => s
    | some (raw, sub) =>
      if s.tim.raw < raw + rawUs 1 then s
      else
        let t := mtimeAt s raw sub
        let s1 := { s with flt := { s.flt with heelFall := none } }
        if s.cfg.pinEn ≠ 1 then s1
        else if s.flt.pending.isSome then recordEvent (evPkg 0x0505 t.sec t.ns 0 0) (bump .fltHeelIgnored s1)
        else { s1 with flt := { s1.flt with pending := some ⟨pinSecond t, 0, s.cfg.pinClear == 1, 1, false⟩ } })

/-- Book a heel from FLT_HEEL (`src` 0) or SCHEDULE (2): its status, its H or lateness, and the state (R228, 09 R300). -/
def bookHeel (ok : Bool) (sec ns : Nat) (clear strict : Bool) (src : Nat) (s : State) : Nat × Result × State :=
  let t := now s
  let bad := !ok || decide (1000000000 ≤ ns ∨ t.sec + 86400 < sec)
  if s.flt.pending.isSome then (stBusy, 0, s)
  else if mlt (secNs sec ns) (mtimeOfUnits (munits t + 10000 * two32)) then
    if strict then (stPast, 0, s)
    else if bad then (stFailed, 0, s)
    else (stLate, resB 0 (twos 64 ((mtimeNs t : Int) - (mtimeNs (secNs sec ns) : Int))),
      (let s1 := takeHeel t clear (heelSrc src) s
       if src = 2 then heelExec ((mtimeNs t : Int) - (mtimeNs (secNs sec ns) : Int)) stLate s1 else s1))
  else if bad then (stFailed, 0, s)
  else (stOk, resB 0 (sec % 2 ^ 64) ||| resB 8 ns,
    { s with flt := { s.flt with pending := some ⟨sec, ns, clear, src, strict⟩ } })

/-! ### Commands (R238) -/

/-- A chain on a die of the variant. -/
def chainUnsupported (c : Nat) (s : State) : Bool := decide (c ≤ 65535) && !hasDie s (c / 8192)

/-- The ranges of Table FLT-8. -/
def chainParamsOk (p : ChainParams) : Bool :=
  decide (p.stream ≤ 8191 ∧ p.pos ≤ 23 ∧ p.kind ≤ 2 ∧ p.priv ≤ 1 ∧ p.det ≤ 3 ∧ 1 ≤ p.detN ∧ p.detN ≤ 4096 ∧ p.attackSh ≤ 20
    ∧ p.decaySh ≤ 20) && [1, 2, 3, 4, 6, 8].contains p.fa && [1, 2, 4, 5].contains p.fb

/-- FLT_CHAIN_SET. -/
def fltChainSetPacket (h : Hdr) (chain : Nat) (valid : Nat) (p : ChainParams) : Packet :=
  { configPacket h 0x0500 (fun _ => decide (chain ≤ 65535 ∧ valid ≤ 1) && chainParamsOk p) (.chain chain (valid == 1) p) with
    unsupported := chainUnsupported chain }
/-- FLT_CHAIN_SET. -/
def execFltChainSet (h : Hdr) (chain : Nat) (valid : Nat) (p : ChainParams) (s : State) : Host.Outcome State Fault Refusal :=
  .next (submit (.fltChainSet h chain valid p) (fltChainSetPacket h chain valid p) s)

/-- FLT_HEEL_PIN. -/
def fltHeelPinPacket (h : Hdr) (pinEn pinClear : Nat) : Packet :=
  configPacket h 0x0501 (fun _ => decide (pinEn ≤ 1 ∧ pinClear ≤ 1)) (.heelPin pinEn pinClear)
/-- FLT_HEEL_PIN. -/
def execFltHeelPin (h : Hdr) (pinEn pinClear : Nat) (s : State) : Host.Outcome State Fault Refusal :=
  .next (submit (.fltHeelPin h pinEn pinClear) (fltHeelPinPacket h pinEn pinClear) s)

/-- FLT_HEEL books a heel (R228). -/
def fltHeelPacket (h : Hdr) (atSec atNs clear : Nat) : Packet :=
  { h, opcode := 0x0540, pfOnly := true,
    eff := fun _ s =>
      let (st, res, s1) := bookHeel (decide (clear ≤ 1)) atSec atNs (clear == 1) h.strict 0 s
      .done st res s1 }
/-- FLT_HEEL. -/
def execFltHeel (h : Hdr) (atSec atNs clear : Nat) (s : State) : Host.Outcome State Fault Refusal :=
  .next (submit (.fltHeel h atSec atNs clear) (fltHeelPacket h atSec atNs clear) s)

/-- SETTLE_LEFT: instants until R220 no longer applies. -/
def settleLeft (p : ChainParams) (x : ChainSt) : Nat := settleLen p - x.taken
/-- FLT_CHAIN_STATE (Table FLT-6). -/
def fltChainState (s : State) (c : Nat) : Nat :=
  match tget s.cfg.chains c with
  | none => 0
  | some p => settleLeft p (chainSt s c) * 2 ^ 48 + groupDelay p * 2 ^ 40 + 2 ^ 31 + p.priv * 2 ^ 30 + p.kind * 2 ^ 28
      + p.det * 2 ^ 26 + p.fa * 2 ^ 20 + p.fb * 2 ^ 16 + p.stream

/-- FLT_CHAIN_READ. -/
def fltChainReadPacket (h : Hdr) (chain : Nat) : Packet :=
  { h, opcode := 0x0580, pfOnly := false, unsupported := chainUnsupported chain,
    eff := fun _ s =>
      if 65535 < chain then failRes stFailed s
      else .done stOk (resB 0 (fltChainState s chain) ||| resB 8 (chainSt s chain).lastInst) s }
/-- FLT_CHAIN_READ. -/
def execFltChainRead (h : Hdr) (chain : Nat) (s : State) : Host.Outcome State Fault Refusal :=
  .next (submit (.fltChainRead h chain) (fltChainReadPacket h chain) s)

end Sys2Proof.Machine
end

