-- ==== Sys2Proof/Machine/Goose.lean ====
section
/-! DEFINITION. GOOSE subscription and publication, and sampled-value publication (08 R252 to R268). -/
namespace Sys2Proof.Machine

/-! ### Subscriptions (R252 to R258) -/

/-- The context in force of a subscription. -/
def gsCtx (s : State) (n : Nat) : Option GsContext := tget s.cfg.gs n
/-- The state of a subscription. -/
def gsSt (s : State) (n : Nat) : GsSt := tgetD s.sig.gs n {}
/-- Write the state of a subscription. -/
def setGs (n : Nat) (x : GsSt) (s : State) : State := { s with sig := { s.sig with gs := tset s.sig.gs n x } }
/-- Count a subscription's counter by its place in Table SIG-11. -/
def gcnt (n k : Nat) (s : State) : State := bump (.gs n k) s
/-- LIVE as a number. -/
def liveNum : Live → Nat
  | .notOn => 0 | .waiting => 1 | .live => 2 | .expired => 3
/-- Change LIVE, recorded by EV_GS_STATE (R257). -/
def setLive (n : Nat) (l : Live) (s : State) : State :=
  let x := gsSt s n
  if x.live = l then s
  else recordEvent (evDie 0x0601 n (liveNum x.live + 256 * liveNum l) 0 (n / 4096) n) (setGs n { x with live := l } s)

/-- UTC seconds to TAI with TIM_UTC (R245). -/
def taiSec (s : State) (utc : Nat) : Nat := ((utc : Int) + s.tim.utcOffset).toNat
/-- TAI seconds to UTC with TIM_UTC (R262). -/
def utcSec (s : State) (tai : Nat) : Nat := ((tai : Int) - s.tim.utcOffset).toNat

/-- The value of a member under a TYPE, none for a pairing that is a format error (R253). -/
def decodeMember (s : State) (type : Nat) (v : GooseValue) : Option (BitVec 128) :=
  match type, v with
  | 0, .boolean b => some (BitVec.ofNat 128 (bbit b 0))
  | 1, .integer bits i => if bits ≤ 32 then some (BitVec.ofNat 128 (twos 32 i)) else none
  | 1, .dbpos d => some (BitVec.ofNat 128 (d % 4))
  | 1, .enumerated i => some (BitVec.ofNat 128 (twos 32 i))
  | 2, .integer bits i => if bits ≤ 64 then some (BitVec.ofNat 128 (twos 64 i)) else none
  | 2, .unsigned bits n => if bits ≤ 32 then some (BitVec.ofNat 128 (n % 2 ^ 32)) else none
  | 3, .float32 f => some (f.zeroExtend 128)
  | 4, .utcTime sec ns => some (mtimeVal ⟨taiSec s sec, ns, 0⟩)
  | _, _ => none

/-- One mapped member with its quality (R253, R256). -/
def decodeEntry (s : State) (f : GooseFrame) (e : GsMap) : Option (BitVec 128 × Nat) :=
  match decodeMember s e.type (nth f.members e.member .other) with
  | none => none
  | some v =>
    if e.qmember = 0xFF then some (v, 0)
    else match nth f.members e.qmember .other with
      | .quality q => some (v, qRecv q)
      | _ => none
/-- Every mapped member, or none. -/
def decodeAll (s : State) (f : GooseFrame) : List GsMap → Option (List (BitVec 128 × Nat))
  | [] => some []
  | e :: l => match decodeEntry s f e, decodeAll s f l with
    | some a, some r => some (a :: r)
    | _, _ => none

/-- The mapped members' values as they stand: held, or INIT where nothing was taken (R257). -/
def heldOf (s : State) (c : GsContext) (x : GsSt) : List (BitVec 128 × Nat) :=
  if x.held.isEmpty then c.map.map (fun e => (match sigDef s e.signal with | some d => d.init | none => 0, 0)) else x.held
/-- The bits that an inconsistent retransmission has added (R255). -/
def incBit (x : GsSt) : Nat := bbit x.inconsist 8

/-- Write every mapped member for the next boundary. -/
def writeMembers (c : GsContext) (l : List (BitVec 128 × Nat)) (f : Nat → Nat) (stamp at_ : MTime) (s : State) : State :=
  foldSt (fun p s => gooseWrite p.1.signal p.2.1 (f p.2.2) stamp at_ s) (List.zip c.map l) s
/-- Members as in WAITING and EXPIRED: validity 01 and oldData, every other bit kept, STATUS_SIG 0 (R257). -/
def writeDead (n : Nat) (c : GsContext) (t : MTime) (s : State) : State :=
  let x := gsSt s n
  statusWrite c.statusSig 0 t (writeMembers c (heldOf s c x) (fun q => qOld (q ||| incBit x) ||| bbit x.hold 15) t t s)

/-- The context that a frame matches (Table SIG-6 order 2). -/
def gsFind (s : State) (f : GooseFrame) : Option (Nat × GsContext) :=
  s.cfg.gs.find? (fun e => e.2.da == f.da && e.2.appid == f.appid && e.2.gocbref == f.gocbref)

/-! ### Publications' echo (R263) -/

/-- The context in force of a publication. -/
def gpCtx (s : State) (n : Nat) : Option GpContext := tget s.cfg.gp n
/-- The state of a publication. -/
def gpSt (s : State) (n : Nat) : GpSt := tgetD s.sig.gp n {}
/-- Write the state of a publication. -/
def setGp (n : Nat) (x : GpSt) (s : State) : State := { s with sig := { s.sig with gp := tset s.sig.gp n x } }
/-- Change the output status at a module time, written to STATUS_SIG for the next boundary (R263). -/
def setEcho (n : Nat) (c : GpContext) (e : Nat) (t : MTime) (s : State) : State :=
  let x := gpSt s n
  let s1 := setGp n { x with echo := e, echoRaw := if e = 2 then some (s.tim.raw + rawMs c.echoTimeout) else none } s
  if x.echo = e then s1 else statusWrite c.statusSig e t s1

/-- A member equals a state number. -/
def memberIs (v : GooseValue) (n : Nat) : Bool :=
  match v with
  | .integer _ i => i == (n : Int)
  | .unsigned _ k => k == n
  | .enumerated i => i == (n : Int)
  | _ => false
/-- The echo context has accepted a new state (R263). -/
def echoIn (ctx : Nat) (members : List GooseValue) (s : State) : State :=
  foldSt (fun e s =>
    let x := gpSt s e.1
    if e.2.echoCtx = ctx ∧ x.echo = 2 ∧ memberIs (nth members e.2.echoMember .other) x.stNum = true then setEcho e.1 e.2 1 (now s) s
    else s) s.cfg.gp s

/-! ### Taking a message (R254 to R257) -/

/-- The sequence of a message against the last accepted one (R255). -/
inductive GSeq where
  | dup | stale | again | fresh
  deriving DecidableEq, Repr, Inhabited

/-- R255's judgement; the first message in WAITING or EXPIRED is a new state. -/
def gsJudge (x : GsSt) (stNum sqNum : Nat) : GSeq :=
  if x.live ≠ .live then .fresh
  else if stNum = x.stNum then (if sqNum = x.sqNum then .dup else .again)
  else if x.stPrev = some stNum then .stale
  else .fresh

/-- A message's t, converted to TAI with TIM_UTC (R245). -/
def gsTime (s : State) (f : GooseFrame) : MTime := ⟨taiSec s f.tSec, f.tNs, 0⟩
/-- An accepted message sets the deadline (R256) and makes the context LIVE (R257); the STATUS_SIG record of that new state
carries the message's t (R245) and bit 15 of the receive stamp (Table SIG-3). -/
def gsAccepted (n : Nat) (c : GsContext) (raw : Nat) (stamp : MTime) (f : GooseFrame) (s : State) : State :=
  let x := gsSt s n
  let d := mtimeOfUnits (munits stamp + (min f.tal c.talMax : Nat) * 1000000 * two32)
  let s1 := noteAdmit (.goose n f.stNum f.sqNum stamp (s.cycleNum + 1)) (gcnt n 8 (setGs n { x with deadline := some d } s))
  if x.live = .live then s1
  else setLive n .live (gooseWrite c.statusSig 1 (bbit (holdAtRaw s raw) 15) (gsTime s f) stamp s1)

/-- A new state: its values and qualities are taken (R255, R256). -/
def gsNewState (n : Nat) (c : GsContext) (raw : Nat) (stamp : MTime) (f : GooseFrame) (vals : List (BitVec 128 × Nat))
    (s : State) : State :=
  let x := gsSt s n
  let prev := if x.held.isEmpty then none else if f.stNum = x.stNum then x.stPrev else some x.stNum
  let hb := holdAtRaw s raw
  let s1 := setGs n { x with stNum := f.stNum, sqNum := f.sqNum, stPrev := prev, held := vals, members := f.members,
                             inconsist := false, hold := hb } s
  let s2 := writeMembers c vals (fun q => q ||| bbit hb 15) (gsTime s f) stamp s1
  echoIn n f.members (gsAccepted n c raw stamp f s2)

/-- A retransmission: the deadline is refreshed; values that differ are counted and marked inconsistent (R255). -/
def gsAgain (n : Nat) (c : GsContext) (raw : Nat) (stamp : MTime) (f : GooseFrame) (vals : List (BitVec 128 × Nat))
    (s : State) : State :=
  let x := gsSt s n
  let s1 := setGs n { x with sqNum := f.sqNum } s
  let s2 := if vals = x.held then s1
    else
      let hb := holdAtRaw s raw
      let s' := gcnt n 7 s1
      if x.inconsist then s'
      else writeMembers c x.held (fun q => q ||| 256 ||| bbit hb 15) (gsTime s f) stamp
        (setGs n { gsSt s' n with inconsist := true, hold := hb } s')
  gsAccepted n c raw stamp f s2

/-- The GSE engine checks a frame (Table SIG-6) and takes it (R255). -/
def execGooseFrameCheck (die port raw sub : Nat) (f : GooseFrame) (s : State) : Host.Outcome State Fault Refusal :=
  .next (let s1 := takeQueued die 5 (.goose f) s
    let stamp := rxStamp s port raw sub
    if queuedBad s die 5 (.goose f) then s1
    else if !f.decodable then bump (.gsDie die 0) s1
    else match gsFind s1 f with
      | none => bump (.gsDie die 1) s1
      | some (n, c) =>
        if n / 4096 ≠ die then bump (.gsDie die 2) s1
        else if (gsSt s1 n).o.obj ≠ .on then bump (.gsDie die 3) s1
        else if onPair s1 c.port port = false then gcnt n 0 s1
        else match (if f.datset = c.datset ∧ f.members.length = c.nentries ∧ f.ndsCom = false then decodeAll s1 f c.map else none) with
          | none => gcnt n 1 s1
          | some vals =>
            if f.simulation ≠ c.sim then gcnt n 2 s1
            else if f.confRev ≠ c.confRev then
              raiseLimited n (evDie 0x0602 n f.confRev c.confRev die n) (gcnt n 3 s1)
            else match verifyFrame die c.keySlot f.len raw f.authOk f.authOldOk s1 with
              | none => s1
              | some (false, s2) => gcnt n 4 s2
              | some (true, s2) =>
                match gsJudge (gsSt s2 n) f.stNum f.sqNum with
                | .dup => gcnt n 5 s2
                | .stale => gcnt n 6 s2
                | .again => gsAgain n c raw stamp f vals s2
                | .fresh => gsNewState n c raw stamp f vals s2)

/-- A STARTING subscription enters WAITING (Table SIG-7). -/
def execGsStarted (ctx : Nat) (s : State) : Host.Outcome State Fault Refusal :=
  .next (match gsCtx s ctx with
    | none => s
    | some c =>
      let x := gsSt s ctx
      if x.o.obj ≠ .starting then s
      else
        let (o, act) := objStarted x.o
        let s1 := setGs ctx { o := o } s
        if act = .drain then s1 else setLive ctx .waiting (writeDead ctx c (now s) s1))

/-- Module time passes the deadline of a LIVE context (Table SIG-7, R269). -/
def execGsDeadline (ctx : Nat) (s : State) : Host.Outcome State Fault Refusal :=
  .next (match gsCtx s ctx, (gsSt s ctx).deadline with
    | some c, some d =>
      if (gsSt s ctx).live = .live ∧ (gsSt s ctx).o.obj = .on ∧ mlt d (now s) = true then
        let s1 := writeDead ctx c d s
        setLive ctx .expired (setGs ctx { gsSt s1 ctx with deadline := none } s1)
      else s
    | _, _ => s)

/-- Draining subscriptions reach OFF at a boundary, their members as in EXPIRED (R258). -/
def gsDrainAt (b : MTime) (n : Nat) (s : State) : State :=
  let x := gsSt s n
  match gsCtx s n with
  | some c =>
    if x.o.obj = .draining then
      let q := bbit (holdAt s b) 15
      let s1 := foldSt (fun p s => setRec p.1.signal ⟨p.2.1, qOld (p.2.2 ||| incBit x) ||| bbit x.hold 15, b⟩ s) (List.zip c.map (heldOf s c x)) s
      let s2 := if c.statusSig = 0xFFFFFFFF then s1 else setRec c.statusSig ⟨0, q, b⟩ s1
      let s3 := setLive n .notOn s2
      let (o, act) := objDrained x.o
      let s4 := setGs n { o := o } s3
      if act = .start then evStart 6 n s4 else s4
    else s
  | none => s

/-! ### Publications (R259 to R263, R267, R268) -/

/-- The nominal interval before frame k, k from 1, in ns (R261). -/
def gpInterval (c : GpContext) (k : Nat) : Nat := min (c.t1 * 2 ^ min (k - 1) 40 * 1000) (c.t0 * 1000000)
/-- timeAllowedToLive of frame k, in ms (R261). -/
def gpTal (c : GpContext) (k : Nat) : Nat := (c.talMult * gpInterval c (k + 1) + 999999) / 1000000
/-- A state or sequence number above another, wrapping from 4,294,967,295 to 1 (R260, R261). -/
def nextNum (n : Nat) : Nat := if 4294967295 ≤ n then 1 else n + 1
/-- TimeAccuracy: the largest n from 0 to 24 with 2^−n s not below ERR_EST, 31 when it is unknown (R262). -/
def timeAccuracy (err : Nat) : Nat :=
  if err = 255 then 31
  else (((List.range 25).filter (fun n => decide (err * 16 * 2 ^ n ≤ 1000000000))).getLast?).getD 0
/-- TimeQuality of a t field (R262): LeapSecondsKnown, ClockFailure 0, ClockNotSynchronized, TimeAccuracy. -/
def timeQuality (s : State) : Nat :=
  bbit s.tim.utcValid 7 + bbit (decide (s.tim.state = .acquiring ∨ s.tim.state = .freerun)) 5 + timeAccuracy (tqWord s / 256)

/-- What a member carries now: a signal's committed record or a direct member's value, with QUAL [12:0]. -/
def memberNow (s : State) (x : GpSt) (i : Nat) (m : GpMember) : BitVec 128 × Nat :=
  if m.src = 0 then ((recOf s m.ref).value, qLow (recOf s m.ref).qual) else nth x.direct i (0, qDead)
/-- All members. -/
def membersNow (s : State) (x : GpSt) (c : GpContext) : List (BitVec 128 × Nat) :=
  (List.range c.members.length).map (fun i => memberNow s x i (nth c.members i ⟨0, 0, 0, 0⟩))

/-- The content of a GOOSE frame, for its bytes (R262, R268). -/
def gpContent (s : State) (n : Nat) (c : GpContext) (x : GpSt) (tal : Nat) : List Int :=
  ([0, n, c.identity, if c.identity = 1 then s.cfg.sharedMac else Config.factoryMac, c.da, c.appid, c.vid, c.pcp, c.sim,
    c.confRev, x.stNum, x.sqNum, tal, utcSec s x.t0.sec, x.t0.ns, timeQuality s].map Int.ofNat)
    ++ (c.gocbref ++ c.datset ++ c.goid).map Int.ofNat
    ++ ((List.zip c.members x.last).flatMap (fun p =>
      [(p.1.type : Int), (p.2.1.toNat : Int)] ++ (if p.1.qualf = 1 then [(p.2.2 : Int)] else [])))

/-- A published frame enters the ports' queues: of the own identity at once, of the shared identity by the pair's state
(R259, R267, R268). -/
def publish (identity : Nat) (key : ShadowKey) (port cls da : Nat) (content : List Int) (s : State) : State :=
  let i : CopyInfo := ⟨da, Config.frameLen content, none, false, false, .other, none⟩
  if identity = 1 then sendShared key port cls i content s
  else if s.pair.state = .failed then s
  else countTx key (sendIdentity port cls i s)

/-- Send the frame of a publication with index k at its number (R261). -/
def gpSend (n : Nat) (c : GpContext) (k : Nat) (s : State) : State :=
  let x := gpSt s n
  publish c.identity ⟨0, n, x.stNum, x.sqNum⟩ c.port c.pcp c.da (gpContent s n c x (gpTal c k)) s

/-- Send the next frame of the schedule and plan the one after it (R261). -/
def gpNext (n : Nat) (c : GpContext) (s : State) : State :=
  let x := gpSt s n
  let s1 := setGp n { x with sqNum := nextNum x.sqNum, k := x.k + 1, nextNs := x.nextNs + gpInterval c (x.k + 1) } s
  gpSend n c x.k s1
/-- The nominal time of the next frame has come. -/
def gpDue (s : State) (x : GpSt) : Bool := decide (munits x.t0 + x.nextNs * two32 ≤ munits (now s))
/-- Send in order every frame whose nominal time is past (R261). -/
def gpCatch (n : Nat) (c : GpContext) : Nat → State → State
  | 0, s => s
  | fuel + 1, s => if gpDue s (gpSt s n) then gpCatch n c fuel (gpNext n c s) else s

/-- A new state forms at module time t: stNum + 1, sqNum 0, its frame queued at once, with the frames already past (R260,
R261); its output status becomes UNCONFIRMED (R263). -/
def gpForm (n : Nat) (c : GpContext) (t : MTime) (vals : List (BitVec 128 × Nat)) (s : State) : State :=
  let x := gpSt s n
  let s1 := setGp n { x with stNum := nextNum x.stNum, sqNum := 0, t0 := t, k := 1, nextNs := gpInterval c 1, last := vals } s
  let s2 := if c.echoCtx = 0xFFFF then s1 else setEcho n c 2 (now s) s1
  let s3 := gpSend n c 0 s2
  gpCatch n c (((munits (now s) - munits t) / (100000 * two32)).toNat + 1) s3

/-- A firing's outputs reach the direct members that name its node; all changes form one state (R260). -/
def gpDirect (node : Nat) (outs : List (BitVec 128 × Nat)) (t : MTime) (s : State) : State :=
  foldSt (fun e s =>
    let x := gpSt s e.1
    let c := e.2
    if (x.o.obj = .on ∨ x.o.obj = .draining) ∧ c.members.any (fun m => m.src == 1 && m.ref % 32768 == node) then
      let direct := (List.range c.members.length).map (fun i =>
        let m := nth c.members i ⟨0, 0, 0, 0⟩
        if m.src = 1 ∧ m.ref % 32768 = node then (match outs[m.ref / 65536]? with
          | some v => (v.1, qLow v.2)
          | none => nth x.direct i (0, qDead))
        else nth x.direct i (0, qDead))
      let y := { x with direct := direct }
      let vals := membersNow s y c
      let s1 := setGp e.1 y s
      if vals = x.last then s1 else gpForm e.1 c t vals s1
    else s) s.cfg.gp s

/-- A graph has reached OFF: the direct members of its nodes keep their values with validity 01 and oldData (09 R294). -/
def gpOffDirect (nodes : List Nat) (s : State) : State :=
  foldSt (fun e s =>
    let x := gpSt s e.1
    let c := e.2
    setGp e.1 { x with direct := (List.range c.members.length).map (fun i =>
      let m := nth c.members i ⟨0, 0, 0, 0⟩
      let v := nth x.direct i (0, qDead)
      if m.src = 1 ∧ nodes.contains (m.ref % 32768) = true then (v.1, qOld v.2) else v) } s) s.cfg.gp s

/-- At a boundary, a member that differs from the one last published forms a new state (R260). -/
def gpSample (b : MTime) (n : Nat) (s : State) : State :=
  match gpCtx s n with
  | some c =>
    let x := gpSt s n
    if x.o.obj = .on ∨ x.o.obj = .draining then
      let vals := membersNow s x c
      if vals = x.last then s else gpForm n c b vals s
    else s
  | none => s

/-- A draining publication reaches OFF at a boundary (09 R292, R293); its output status becomes NONE (R263). -/
def gpDrainAt (b : MTime) (n : Nat) (s : State) : State :=
  let x := gpSt s n
  if x.o.obj = .draining then
    let (o, act) := objDrained x.o
    let s0 := match gpCtx s n with | some c => setEcho n c 0 b s | none => s
    let s1 := setGp n { o := o } s0
    if act = .start then evStart 6 n s1 else s1
  else s

/-- A frame of the schedule falls due (R261). -/
def execGpRetransmit (ctx : Nat) (s : State) : Host.Outcome State Fault Refusal :=
  .next (match gpCtx s ctx with
    | some c =>
      let x := gpSt s ctx
      if (x.o.obj = .on ∨ x.o.obj = .draining) ∧ x.stNum ≠ 0 ∧ gpDue s x = true then gpNext ctx c s else s
    | none => s)

/-- ECHO_TIMEOUT passes unconfirmed (R263). -/
def execGpEchoTimeout (ctx : Nat) (s : State) : Host.Outcome State Fault Refusal :=
  .next (match gpCtx s ctx with
    | some c =>
      let x := gpSt s ctx
      match x.echoRaw with
      | some r => if x.echo = 2 ∧ r ≤ s.tim.raw then
          recordEvent (evDie 0x0603 ctx x.stNum 0 (ctx / 1024) ctx) (setEcho ctx c 3 (now s) s) else s
      | none => s
    | none => s)

/-! ### Sampled-value publication (R264 to R266) -/

/-- The context in force of a published stream. -/
def svpCtx (s : State) (n : Nat) : Option SvpContext := tget s.cfg.svp n
/-- The state of a published stream. -/
def svpSt (s : State) (n : Nat) : SvpSt := tgetD s.sig.svp n {}
/-- Write the state of a published stream. -/
def setSvp (n : Nat) (x : SvpSt) (s : State) : State := { s with sig := { s.sig with svp := tset s.sig.svp n x } }

/-- The loop is OFF or STARTING at an instant of its rate (13 R410, R411). -/
def loopIdle (s : State) (n : Nat) : Bool :=
  match s.lop.o.obj with
  | .off => true
  | .starting => (match s.lop.startAt with | some k => decide (n < k) | none => true)
  | _ => decide (n < s.lop.firstOn)
/-- A channel at an instant: ready; the idle loop's; or the last one repeated with validity 11 and oldData, which is late
(R266, 13 R410). -/
def svpChannel (s : State) (x : SvpSt) (c : SvpContext) (inst i : Nat) : (Int × Nat) × Bool :=
  match x.ready.find? (fun r => r.1 == i && r.2.1 == inst) with
  | some r => ((r.2.2.1, qLow r.2.2.2), false)
  | none =>
    if (nth c.sources i ⟨0, 0⟩).kind = 1 ∧ loopIdle s inst = true then ((0, qDead), false)
    else let l := nth x.last i (0, qDead); ((l.1, qSet (qVal l.2 3) 7), true)

/-- One ASDU: its channels become the last ones, and late channels are counted. -/
def svpAsdu (n : Nat) (c : SvpContext) (inst : Nat) (acc : State × List Int) : State × List Int :=
  let s := acc.1
  let x := svpSt s n
  let l := (List.range c.sources.length).map (svpChannel s x c inst)
  let late := (l.filter (·.2)).length
  (bumpBy (.sigSvpLate (n / 256)) late (setSvp n { x with last := l.map (·.1) } s),
   acc.2 ++ [((inst % max 1 c.rate : Nat) : Int)] ++ l.flatMap (fun v => [v.1.1, (v.1.2 : Int)]))

/-- smpSynch of a published frame (R266). -/
def svpSynch (s : State) : Nat :=
  match s.tim.state with
  | .locked | .frozen | .holdover => 2
  | _ => 0

/-- A frame leaves at the time of its last instant plus PUB_DELAY (R266). -/
def execSvpFrameSend (stream : Nat) (s : State) : Host.Outcome State Fault Refusal :=
  .next (match svpCtx s stream with
    | none => s
    | some c =>
      let x := svpSt s stream
      let lastI := x.nextInst + c.noasdu - 1
      if (x.o.obj = .on ∨ x.o.obj = .draining)
          ∧ munits (instantTime c.rate lastI) + c.pubDelay * 1000 * two32 ≤ munits (now s) then
        let (s1, asdus) := ((List.range c.noasdu).map (· + x.nextInst)).foldl (fun acc m => svpAsdu stream c m acc) (s, [])
        let y := svpSt s1 stream
        let s2 := setSvp stream { y with nextInst := x.nextInst + c.noasdu, ready := y.ready.filter (fun r => decide (lastI < r.2.1)) } s1
        let content := ([1, stream, c.identity, if c.identity = 1 then s.cfg.sharedMac else Config.factoryMac, c.da, c.appid,
          c.vid, c.pcp, c.confRev, svpSynch s].map Int.ofNat) ++ c.svid.map Int.ofNat ++ asdus
        publish c.identity ⟨1, stream, lastI, 0⟩ c.port c.pcp c.da content s2
      else s)

/-- A draining published stream reaches OFF at a boundary. -/
def svpDrainAt (n : Nat) (s : State) : State :=
  let x := svpSt s n
  if x.o.obj = .draining then
    let (o, act) := objDrained x.o
    let s1 := setSvp n { o := o } s
    if act = .start then evStart 6 (n + 32768) s1 else s1
  else s

/-- The first instant of a published stream's first frame: a multiple of NOASDU at or after now. -/
def svpFirst (s : State) (c : SvpContext) : Nat :=
  let n := instantFrom c.rate (now s)
  (n + c.noasdu - 1) / max 1 c.noasdu * c.noasdu

/-- A STARTING publication ends STARTING; bit 15 of the context selects a sampled-value stream (09 R292). -/
def execGpStarted (ctx : Nat) (s : State) : Host.Outcome State Fault Refusal :=
  .next (if 32768 ≤ ctx then
      (let n := ctx - 32768
       match svpCtx s n with
       | some c =>
         let x := svpSt s n
         if x.o.obj = .starting then setSvp n { o := (objStarted x.o).1, nextInst := svpFirst s c } s else s
       | none => s)
    else
      (let x := gpSt s ctx
       if x.o.obj = .starting then setGp ctx { o := (objStarted x.o).1 } s else s))

/-- The boundary's part for GOOSE and publications: drains end, then members are sampled (R243, R258, R260). -/
def publishBoundary (b : MTime) (s : State) : State :=
  let s1 := foldSt (fun e s => gsDrainAt b e.1 s) s.sig.gs s
  let s2 := foldSt (fun e s => gpSample b e.1 s) s1.sig.gp s1
  let s3 := foldSt (fun e s => gpDrainAt b e.1 s) s2.sig.gp s2
  foldSt (fun e s => svpDrainAt e.1 s) s3.sig.svp s3

/-! ### Commands (R272) -/

/-- The ranges of Tables SIG-4 and SIG-5. -/
def gsContextOk (ctx : Nat) (c : GsContext) : Bool :=
  decide (ctx ≤ 32767 ∧ c.sim ≤ 1 ∧ c.appid ≤ 0x3FFF ∧ 1 ≤ c.talMax ∧ c.talMax ≤ 60000 ∧ 1 ≤ c.nentries ∧ c.nentries ≤ 255
      ∧ 1 ≤ c.map.length ∧ c.map.length ≤ 128 ∧ (c.statusSig < 2 ^ 25 ∨ c.statusSig = 0xFFFFFFFF))
    && isMcast c.da && keySlotOk c.keySlot && strOk c.gocbref && strOk c.datset
    && c.map.all (fun e => decide (e.member < c.nentries ∧ (e.qmember < c.nentries ∨ e.qmember = 0xFF) ∧ e.type ≤ 4
      ∧ e.signal < 2 ^ 25))
/-- SIG_GS_SUBSCRIBE. -/
def sigGsSubscribePacket (h : Hdr) (ctx : Nat) (c : GsContext) : Packet :=
  { configPacket h 0x0601 (fun _ => gsContextOk ctx c) (.gsSub ctx c) with
    unsupported := fun s => (decide (ctx ≤ 32767) && !hasDie s (ctx / 4096)) || !hasPort s c.port }
/-- SIG_GS_SUBSCRIBE. -/
def execSigGsSubscribe (h : Hdr) (ctx : Nat) (c : GsContext) (s : State) : Host.Outcome State Fault Refusal :=
  .next (submit (.sigGsSubscribe h ctx c) (sigGsSubscribePacket h ctx c) s)

/-- The ranges of Tables SIG-8 and SIG-9. -/
def gpContextOk (ctx : Nat) (c : GpContext) : Bool :=
  decide (ctx ≤ 8191 ∧ c.port / 4 = ctx / 1024 ∧ c.identity ≤ 1 ∧ c.appid ≤ 0x3FFF ∧ c.vid ≤ 4094 ∧ c.pcp ≤ 7 ∧ c.sim ≤ 1
      ∧ 100 ≤ c.t1 ∧ c.t1 ≤ 1000000 ∧ 1 ≤ c.t0 ∧ c.t0 ≤ 60000 ∧ 2 ≤ c.talMult ∧ c.talMult ≤ 8)
    && decide ((c.echoCtx ≤ 32767 ∨ c.echoCtx = 0xFFFF) ∧ c.echoMember ≤ 255 ∧ 1 ≤ c.echoTimeout ∧ c.echoTimeout ≤ 60000
      ∧ (c.statusSig < 2 ^ 25 ∨ c.statusSig = 0xFFFFFFFF) ∧ 1 ≤ c.members.length ∧ c.members.length ≤ 128)
    && isMcast c.da && strOk c.gocbref && strOk c.datset && strOk c.goid
    && c.members.all (fun m => decide (m.src ≤ 1 ∧ m.type ≤ 4 ∧ m.qualf ≤ 1) &&
      (if m.src = 0 then decide (m.ref < 2 ^ 25) else decide (m.ref % 65536 < 32768 ∧ m.ref < 2 ^ 24)))
/-- SIG_GP_DEFINE. -/
def sigGpDefinePacket (h : Hdr) (ctx : Nat) (c : GpContext) : Packet :=
  { configPacket h 0x0602 (fun _ => gpContextOk ctx c) (.gpDef ctx c) with
    unsupported := fun s => (decide (ctx ≤ 8191) && !hasDie s (ctx / 1024)) || !hasPort s c.port }
/-- SIG_GP_DEFINE. -/
def execSigGpDefine (h : Hdr) (ctx : Nat) (c : GpContext) (s : State) : Host.Outcome State Fault Refusal :=
  .next (submit (.sigGpDefine h ctx c) (sigGpDefinePacket h ctx c) s)

/-- The ranges of Table SIG-15. -/
def svpContextOk (n : Nat) (c : SvpContext) : Bool :=
  decide (n ≤ 2047 ∧ c.port / 4 = n / 256 ∧ c.identity ≤ 1 ∧ 0x4000 ≤ c.appid ∧ c.appid ≤ 0x7FFF ∧ c.vid ≤ 4094 ∧ c.pcp ≤ 7
      ∧ 1 ≤ c.noasdu ∧ c.noasdu ≤ 8 ∧ 20 ≤ c.pubDelay ∧ c.pubDelay ≤ 1000 ∧ 1 ≤ c.sources.length ∧ c.sources.length ≤ 24)
    && isMcast c.da && rates.contains c.rate && strOk c.svid
    && c.sources.all (fun x => decide (x.kind ≤ 3 ∧ x.ref < 65536))
/-- SIG_SVP_DEFINE. -/
def sigSvpDefinePacket (h : Hdr) (stream : Nat) (c : SvpContext) : Packet :=
  { configPacket h 0x0603 (fun _ => svpContextOk stream c) (.svpDef stream c) with
    unsupported := fun s => (decide (stream ≤ 2047) && !hasDie s (stream / 256)) || !hasPort s c.port }
/-- SIG_SVP_DEFINE. -/
def execSigSvpDefine (h : Hdr) (stream : Nat) (c : SvpContext) (s : State) : Host.Outcome State Fault Refusal :=
  .next (submit (.sigSvpDefine h stream c) (sigSvpDefinePacket h stream c) s)

/-- SIG_GS_ENABLE (R257, R258). -/
def sigGsEnablePacket (h : Hdr) (ctx enable : Nat) : Packet :=
  { h, opcode := 0x0642, pfOnly := true, busyBefore := true,
    unsupported := fun s => decide (ctx ≤ 32767) && !hasDie s (ctx / 4096),
    eff := fun j s =>
      if 32767 < ctx ∨ 1 < enable ∨ (gsCtx s ctx).isNone then failRes stFailed s
      else
        let x := gsSt s ctx
        let (o, st, act) := objChange (enable == 1) x.o
        let s1 := setGs ctx { x with o := o } s
        .done st 0 (if act = .cancel then evCancel 6 ctx j s1 else s1) }
/-- SIG_GS_ENABLE. -/
def execSigGsEnable (h : Hdr) (ctx enable : Nat) (s : State) : Host.Outcome State Fault Refusal :=
  .next (submit (.sigGsEnable h ctx enable) (sigGsEnablePacket h ctx enable) s)

/-- SIG_GP_ENABLE; bit 15 of CTX selects a sampled-value stream (Table SIG-13). -/
def sigGpEnablePacket (h : Hdr) (ctx enable : Nat) : Packet :=
  { h, opcode := 0x0643, pfOnly := true, busyBefore := true,
    unsupported := fun s => if 32768 ≤ ctx then decide (ctx - 32768 ≤ 2047) && !hasDie s ((ctx - 32768) / 256)
      else decide (ctx ≤ 8191) && !hasDie s (ctx / 1024),
    eff := fun j s =>
      if 65535 < ctx ∨ 1 < enable then failRes stFailed s
      else if 32768 ≤ ctx then
        (let n := ctx - 32768
         if (svpCtx s n).isNone then failRes stFailed s
         else
           let x := svpSt s n
           let (o, st, act) := objChange (enable == 1) x.o
           let s1 := setSvp n { x with o := o } s
           .done st 0 (if act = .cancel then evCancel 6 ctx j s1 else s1))
      else if (gpCtx s ctx).isNone then failRes stFailed s
      else
        let x := gpSt s ctx
        let (o, st, act) := objChange (enable == 1) x.o
        let s1 := setGp ctx { x with o := o } s
        .done st 0 (if act = .cancel then evCancel 6 ctx j s1 else s1) }
/-- SIG_GP_ENABLE. -/
def execSigGpEnable (h : Hdr) (ctx enable : Nat) (s : State) : Host.Outcome State Fault Refusal :=
  .next (submit (.sigGpEnable h ctx enable) (sigGpEnablePacket h ctx enable) s)

end Sys2Proof.Machine
end

