-- ==== Sys2Proof/Machine/Operands.lean ====
section
/-! DEFINITION. Operand forms of the operator library (10): conversion of an operand to its slot's type (R315, R316),
conversion to a signal (R337), quality of outputs (R317), the named constants (R311) and CORDIC (R312, R313). -/
namespace Sys2Proof.Machine

/-! ### Constants (Table OPL-1) -/

/-- 0.5. -/
def cHALF : F32 := 0x3F000000#32
/-- 1.0. -/
def cONE : F32 := 0x3F800000#32
/-- √3 / 2. -/
def cH3 : F32 := 0x3F5DB3D7#32
/-- 1 / 3. -/
def cTHIRD : F32 := 0x3EAAAAAB#32
/-- π / 2^31. -/
def cRAD : F32 := 0x30C90FDB#32
/-- 1.0e9. -/
def cNSEC : F32 := 0x4E6E6B28#32
/-- 1.0e30. -/
def cBIG : F32 := 0x7149F2CA#32
/-- 0.95. -/
def cDOR95 : F32 := 0x3F733333#32

/-! ### CORDIC (R312, R313) -/

/-- T[i], the nearest integers to atan(2^−i) × 2^31 / π. -/
def cordicT : List Int :=
  [536870912, 316933406, 167458907, 85004756, 42667331, 21354465, 10679838, 5340245, 2670163, 1335087, 667544, 333772,
   166886, 83443, 41722, 20861, 10430, 5215, 2608, 1304, 652, 326, 163, 81, 41, 20, 10, 5]
/-- K30 (R313). -/
def cordicK : Int := 652032875
/-- s64 shifted right arithmetically. -/
def sra (a : Int) (i : Nat) : Int := a / (2 ^ i : Nat)
/-- A 32-bit word as s32. -/
def s32 (a : Int) : Int := sgn 32 (twos 32 a)

/-- The vectoring steps: X, Y and A from step i on. -/
def vecSteps : List Int → Nat → Int → Int → Int → Int
  | [], _, _, _, a => a
  | t :: l, i, x, y, a =>
    if 0 ≤ y then vecSteps l (i + 1) (x + sra y i) (y - sra x i) (a + t)
    else vecSteps l (i + 1) (x - sra y i) (y + sra x i) (a - t)
/-- The rotation steps: X, Y and Z from step i on. -/
def rotSteps : List Int → Nat → Int → Int → Int → Int × Int
  | [], _, x, y, _ => (x, y)
  | t :: l, i, x, y, z =>
    if 0 ≤ z then rotSteps l (i + 1) (x - sra y i) (y + sra x i) (z - t)
    else rotSteps l (i + 1) (x + sra y i) (y - sra x i) (z + t)

/-- The exponent of a finite value that is not zero: 2^e ≤ |x| < 2^(e+1). -/
def expOf : Fv → Option Int
  | .fin _ m e => if m = 0 then none else some (e + Nat.log2 m)
  | _ => none
/-- x × 2^k to the nearest integer, ties to even. -/
def scaleInt (v : Fv) (k : Int) : Int :=
  match v with
  | .fin n m e => fvToInt n m (e + k)
  | _ => 0

/-- atan2 as an s32 binary angle (R312). -/
def atan2B (y x : F32) : Int :=
  let vx := up32 x
  let vy := up32 y
  match (match expOf vx, expOf vy with
      | some a, some b => some (max a b)
      | some a, none => some a
      | none, b => b) with
  | none => 0
  | some e =>
    let X := scaleInt vx (29 - e)
    let Y := scaleInt vy (29 - e)
    if X < 0 then s32 (vecSteps cordicT 0 (-X) (-Y) 2147483648) else s32 (vecSteps cordicT 0 X Y 0)
/-- Cosine and sine of a binary angle (R313). -/
def cosSinB (theta : Nat) : F32 × F32 :=
  let q := (theta + 536870912) % 4294967296 / 1073741824
  let z := s32 ((theta : Int) - q * 1073741824)
  let (x, y) := rotSteps cordicT 0 cordicK 0 z
  let (c, s) := if q = 0 then (x, y) else if q = 1 then (-y, x) else if q = 2 then (-x, -y) else (y, -x)
  (fofScaled c (-30), fofScaled s (-30))
/-- An angle in radians (R312). -/
def radians (y x : F32) : F32 := fmul (fofInt (atan2B y x)) cRAD

/-! ### Conversion (R315, R316, Tables OPL-2 and OPL-14) -/

/-- A carried value's binary32 bits. -/
def bitsF (i : Int) : F32 := BitVec.ofInt 32 i
/-- binary32 bits as a carried value. -/
def fBits (f : F32) : Int := (f.toNat : Int)
/-- The MTIME that an MTIME value carries. -/
def intMtime (i : Int) : MTime := valMtime (BitVec.ofInt 128 i)
/-- Signal time minus T(n) in ns, s64, saturating (Table OPL-2). -/
def mtimeDiff (i : Int) (t : MTime) : Int :=
  clampI (-9223372036854775808) 9223372036854775807 ((mtimeNs (intMtime i) : Int) - mtimeNs t)
/-- An MTIME signal as F (Table OPL-2). -/
def mtimeF (i : Int) (t : MTime) : F32 := fdiv (fofInt (mtimeDiff i t)) cNSEC
/-- Saturated to s32. -/
def satS32 (i : Int) : Int := clampI (-2147483648) 2147483647 i
/-- Nearest integer saturated to s64. -/
def fi64 (a : F32) : Int := ftoInt (-9223372036854775808) 9223372036854775807 a
/-- 1 when true. -/
def b01 (b : Bool) : Int := if b then 1 else 0

/-- To F (Table OPL-2). -/
def toF (t : MTime) (v : Val) : F32 :=
  match v.type with
  | .s | .i | .i64 => fofInt v.bits
  | .f => fflush (bitsF v.bits)
  | .b => if v.bits = 0 then 0 else cONE
  | .mtime => mtimeF v.bits t
/-- To B (Table OPL-2). -/
def toB (v : Val) : Int :=
  match v.type with
  | .f => b01 (!fzero (bitsF v.bits))
  | _ => b01 (decide (v.bits ≠ 0))
/-- To I (Table OPL-2). -/
def toI (v : Val) : Int :=
  match v.type with
  | .f => fi32 (bitsF v.bits)
  | .i64 => satS32 v.bits
  | _ => v.bits

/-- A slot's declared type (R315). -/
inductive SlotT where
  | s | f | b | i | any
  deriving DecidableEq, Repr, Inhabited

/-- An operand that holds an infinity or is not a number (R316). -/
def badOperand (v : Val) : Bool := decide (v.type = .f) && fbad (bitsF v.bits)
/-- The operand as it enters the firing: R316 first, then Table OPL-2. -/
def enter (t : MTime) (slot : SlotT) (v : Val) : Val :=
  if badOperand v then { v with bits := 0, qual := qSet (qVal v.qual 1) 6 }
  else match slot with
    | .s => v
    | .f => { v with type := .f, bits := fBits (toF t v) }
    | .b => { v with type := .b, bits := toB v }
    | .i => { v with type := .i, bits := toI v }
    | .any => v

/-- A signal's record as an operand. -/
def signalVal (d : SigDef) (r : SigRec) : Val :=
  match d.type with
  | 0 => ⟨.b, (r.value.toNat % 2 : Nat), r.qual⟩
  | 1 => ⟨.i, sgn 32 r.value.toNat, r.qual⟩
  | 2 => ⟨.i64, sgn 64 r.value.toNat, r.qual⟩
  | 3 => ⟨.f, (r.value.toNat % 2 ^ 32 : Nat), r.qual⟩
  | _ => ⟨.mtime, (r.value.toNat : Nat), r.qual⟩

/-- The value that SIG_WRITE gives a signal (Table OPL-14); none leaves the signal unwritten. -/
def toSignal (type : Nat) (t : MTime) (v : Val) : Option (BitVec 128) :=
  match type with
  | 0 => some (BitVec.ofInt 128 (toB v))
  | 1 => some (BitVec.ofNat 128 (twos 32 (toI v)))
  | 2 => some (BitVec.ofNat 128 (twos 64 (match v.type with | .f => fi64 (bitsF v.bits) | _ => v.bits)))
  | 3 => some ((toF t v).zeroExtend 128)
  | _ => if toB v = 0 then none else some (mtimeVal t)
/-- SIG_WRITE's output repeats its input (R337). -/
def repeatVal (t : MTime) (v : Val) : VType × Int :=
  match v.type with
  | .s => (.i, v.bits)
  | .i64 => (.i, satS32 v.bits)
  | .mtime => (.f, fBits (mtimeF v.bits t))
  | .f => (.f, fBits (fflush (bitsF v.bits)))
  | k => (k, v.bits)

/-- A direct member's or signal's 128-bit image of an output. -/
def outBits (v : Val) : BitVec 128 :=
  match v.type with
  | .f => (bitsF v.bits).zeroExtend 128
  | .b => BitVec.ofInt 128 v.bits
  | _ => BitVec.ofNat 128 (twos 32 v.bits)

/-! ### Quality of outputs (R317) -/

/-- The contributing operands merged: worst validity, bits [12:2] and [15] ORed. -/
def mergeQ (l : List Nat) : Nat := (l.foldl qMerge 0) &&& 0x9FFF
/-- An output's QUAL: merged operands, derived, LATE, HOLDOVER. -/
def outQual (q : Nat) (late hold : Bool) : Nat :=
  qPut (qSet (q &&& 0x9FFF) 13) 14 late ||| bbit hold 15

end Sys2Proof.Machine
end

