-- ==== Sys2Proof/Machine/Operators.lean ====
section
/-! DEFINITION. The 45 operators of the library (10 R324 to R337): each a function of its parameters, its operands as they
entered, its state and its time. -/
namespace Sys2Proof.Machine

/-- What a firing gives its operator: parameter words, operand values, their merged quality, T(n) in ns, the node's state,
and, for SIG_WRITE, the operand as it stands. -/
structure FireIn where
  prm : List Nat
  x : List Int
  q : Nat
  tns : Nat
  t : MTime
  st : OpSt
  raw : Val
  /-- OTYPE's conversion of a signal operand: F, I and B. -/
  alt : Int × Int × Int

/-- What an operator answers: outputs with their type, value and whether it carries validity 01; the new state; the merged
quality; and a quality that takes the place of R317's (DELAYK). -/
structure FireOut where
  outs : List (VType × Int × Bool)
  st : OpSt
  q : Nat
  own : Option Nat := none

/-! ### Parameters, operands, state -/

/-- A parameter word. -/
def pw (a : FireIn) (i : Nat) : Nat := nth a.prm i 0
/-- A binary32 parameter. -/
def pf (a : FireIn) (i : Nat) : F32 := BitVec.ofNat 32 (pw a i)
/-- An F operand. -/
def xf (a : FireIn) (i : Nat) : F32 := bitsF (nth a.x i 0)
/-- An integer or Boolean operand. -/
def xi (a : FireIn) (i : Nat) : Int := nth a.x i 0
/-- A phasor operand: slots 2i and 2i + 1. -/
def xp (a : FireIn) (i : Nat) : F32 × F32 := (xf a (2 * i), xf a (2 * i + 1))
/-- Number of operands. -/
def nx (a : FireIn) : Nat := a.x.length
/-- A state register. -/
def rg (st : OpSt) (i : Nat) : Int := nth st.regs i 0
/-- A state register as a truth value. -/
def rb (st : OpSt) (i : Nat) : Bool := decide (rg st i ≠ 0)
/-- An F output. -/
def oF (f : F32) : VType × Int × Bool := (.f, fBits f, false)
/-- A B output. -/
def oB (b : Bool) : VType × Int × Bool := (.b, b01 b, false)
/-- An I output. -/
def oI (i : Int) : VType × Int × Bool := (.i, i, false)
/-- A phasor's two outputs. -/
def oP (z : F32 × F32) : List (VType × Int × Bool) := [oF z.1, oF z.2]
/-- Outputs of an operator without state. -/
def pure_ (a : FireIn) (l : List (VType × Int × Bool)) : FireOut := ⟨l, a.st, a.q, none⟩
/-- Mark every output with validity 01 (R320). -/
def unready (bad : Bool) (l : List (VType × Int × Bool)) : List (VType × Int × Bool) :=
  if bad then l.map (fun o => (o.1, o.2.1, true)) else l

/-- A timer (R321): its condition, whether it runs and since when, its delay in µs; whether it runs, since when, and
whether it has expired. -/
def timerStep (cond running : Bool) (start : Int) (now delayUs : Nat) : Bool × Int × Bool :=
  if !cond then (false, 0, false)
  else
    let st : Int := if running then start else now
    (true, st, decide ((1000 * delayUs : Nat) ≤ (now : Int) - st))

/-- The step Δ in ns against the last completed firing (R321). -/
def deltaNs (has : Bool) (lastT : Int) (now : Nat) : Int := if has then clampI 0 1000000000 ((now : Int) - lastT) else 0

/-! ### Phasors (R324) -/

/-- The phasor of harmonic h over a window, oldest first, with gain g. -/
def phasor (n h : Nat) (ks g : F32) (w : List Int) : F32 × F32 :=
  let (re, im) := (List.zip (List.range w.length) w).foldl (fun acc e =>
    let v := fmul (fofInt e.2) ks
    let cs := cosSinB (h * e.1 * 4294967296 / n % 4294967296)
    (ffma v cs.1 acc.1, ffma v (fneg cs.2) acc.2)) ((0 : F32), (0 : F32))
  (fmul re g, fmul im g)
/-- The window of a slot, oldest first, zeros where nothing was taken. -/
def window (w i : Nat) (ring : List (List Int × Nat)) : List Int :=
  (List.range w).map (fun k => nth ((ring.map (·.1)).getD (w - 1 - k) []) i 0)
/-- Push an operand record on a ring of a length. -/
def pushRing (len : Nat) (x : List Int) (q : Nat) (ring : List (List Int × Nat)) : List (List Int × Nat) := ((x, q) :: ring).take len
/-- The quality merged over a ring. -/
def ringQ (ring : List (List Int × Nat)) : Nat := mergeQ (ring.map (·.2))

/-- DFT_FULL. -/
def opDftFull (a : FireIn) : FireOut :=
  let n := pw a 0
  let ring := pushRing n a.x a.q a.st.ring
  let fill := min n (a.st.fill + 1)
  let g := fdiv 0x40000000#32 (fofInt n)
  ⟨unready (decide (fill < n)) ((List.range (nx a)).flatMap (fun i => oP (phasor n (pw a 1) (pf a 2) g (window n i ring)))),
    { a.st with ring := ring, fill := fill }, ringQ ring, none⟩
/-- DFT_HALF. -/
def opDftHalf (a : FireIn) : FireOut :=
  let n := pw a 0
  let w := n / 2
  let ring := pushRing w a.x a.q a.st.ring
  let fill := min w (a.st.fill + 1)
  let g := fdiv 0x40800000#32 (fofInt n)
  ⟨unready (decide (fill < w)) ((List.range (nx a)).flatMap (fun i => oP (phasor n (pw a 1) (pf a 2) g (window w i ring)))),
    { a.st with ring := ring, fill := fill }, ringQ ring, none⟩
/-- COSINE: the real part now and that of N/4 firings earlier. `ring2` keeps C, newest first, slot by slot. The samples
behind the older C count in the quality: DEDUCED from the fill of 5N/4 and the state size of Table OPL-4 (log 55). -/
def opCosine (a : FireIn) : FireOut :=
  let n := pw a 0
  let m := n / 4
  let ring := pushRing (n + m) a.x a.q a.st.ring
  let fill := min (n + m) (a.st.fill + 1)
  let g := fdiv 0x40000000#32 (fofInt n)
  let c := (List.range (nx a)).map (fun i => (phasor n (pw a 1) (pf a 2) g (window n i ring)).1)
  let old := (List.range (nx a)).map (fun i => bitsF (nth a.st.ring2 ((m - 1) * nx a + i) 0))
  ⟨unready (decide (fill < n + m)) ((List.zip c old).flatMap oP),
    { a.st with ring := ring, ring2 := (c.map fBits ++ a.st.ring2).take (m * nx a), fill := fill }, ringQ ring, none⟩

/-! ### Derived quantities (R325, R326) -/

/-- |z|. -/
def cabs (z : F32 × F32) : F32 := fsqrt (ffma z.1 z.1 (fmul z.2 z.2))
/-- Sum, part by part. -/
def cadd (a b : F32 × F32) : F32 × F32 := (fadd a.1 b.1, fadd a.2 b.2)
/-- Difference, part by part. -/
def csub (a b : F32 × F32) : F32 × F32 := (fsub a.1 b.1, fsub a.2 b.2)
/-- Rotation by 120°. -/
def rot120 (z : F32 × F32) : F32 × F32 :=
  (ffma (fneg cH3) z.2 (fmul (fneg cHALF) z.1), ffma cH3 z.1 (fmul (fneg cHALF) z.2))
/-- Rotation by 240°. -/
def rot240 (z : F32 × F32) : F32 × F32 :=
  (ffma cH3 z.2 (fmul (fneg cHALF) z.1), ffma (fneg cH3) z.1 (fmul (fneg cHALF) z.2))
/-- Part by part times a factor. -/
def cscale (z : F32 × F32) (k : F32) : F32 × F32 := (fmul z.1 k, fmul z.2 k)

/-- SEQ. -/
def opSeq (a : FireIn) : FireOut :=
  let (x, y, z) := (xp a 0, xp a 1, xp a 2)
  pure_ a (oP (cscale (cadd (cadd x y) z) cTHIRD) ++ oP (cscale (cadd (cadd x (rot120 y)) (rot240 z)) cTHIRD)
    ++ oP (cscale (cadd (cadd x (rot240 y)) (rot120 z)) cTHIRD))
/-- MAG. -/
def opMag (a : FireIn) : FireOut := pure_ a [oF (cabs (xp a 0))]
/-- MAGANG. -/
def opMagang (a : FireIn) : FireOut := pure_ a [oF (cabs (xp a 0)), oF (radians (xf a 1) (xf a 0))]
/-- Active and reactive sums over phases (V, I pairs). -/
def powerSum (a : FireIn) (l : List Nat) : F32 × F32 :=
  l.foldl (fun acc k =>
    let v := xp a (2 * k)
    let i := xp a (2 * k + 1)
    let p := ffma v.2 i.2 (ffma v.1 i.1 acc.1)
    let q := ffma (fneg v.1) i.2 (ffma v.2 i.1 acc.2)
    (p, q)) ((0 : F32), (0 : F32))
/-- P, Q and S of the sums. -/
def powerOut (a : FireIn) (l : List Nat) : FireOut :=
  let (p, q) := powerSum a l
  let P := fmul p cHALF
  let Q := fmul q cHALF
  pure_ a [oF P, oF Q, oF (fsqrt (ffma P P (fmul Q Q)))]
/-- PQS3. -/
def opPqs3 (a : FireIn) : FireOut := powerOut a [0, 1, 2]
/-- PQS1. -/
def opPqs1 (a : FireIn) : FireOut := powerOut a [0]
/-- FREQ's fallback on a small phasor (R326). -/
def freqLow (a : FireIn) : Bool := flt (cabs (xp a 0)) (pf a 3)
/-- FREQ (R326): regs hold th_prev; `ring` the angle steps; `ring2` the frequencies. A fallback mark restarts it. -/
def opFreq (a : FireIn) : FireOut :=
  let st : OpSt := if a.st.mark then {} else a.st
  let m := pw a 1
  let r := pw a 2
  let th := atan2B (xf a 1) (xf a 0)
  let d := s32 (th - rg st 0)
  let ring := pushRing m [d] 0 st.ring
  let sum := (ring.map (fun e => nth e.1 0 0)).foldl (· + ·) 0
  let f := fdiv (fmul (fmul (fofInt sum) 0x2F800000#32) (pf a 0)) (fofInt m)
  let ring2 := (fBits f :: st.ring2).take (r + 1)
  let rocof := fdiv (fmul (fsub f (bitsF (nth ring2 r 0))) (pf a 0)) (fofInt r)
  let fill := min (m + r + 1) (st.fill + 1)
  ⟨[((.f : VType), fBits f, decide (fill < m + 1)), (.f, fBits rocof, decide (fill < m + r + 1))],
    { regs := [th], ring := ring, ring2 := ring2, fill := fill, mark := false }, a.q, none⟩
/-- ANGDIFF. -/
def opAngdiff (a : FireIn) : FireOut :=
  let (p, q) := (xp a 0, xp a 1)
  pure_ a [oF (radians (ffma p.2 q.1 (fneg (fmul p.1 q.2))) (ffma p.2 q.2 (fmul p.1 q.1)))]
/-- PH_SUM. -/
def opPhSum (a : FireIn) : FireOut :=
  pure_ a (oP ((List.range (nx a / 2)).foldl (fun acc e =>
    (ffma (pf a e) (xp a e).1 acc.1, ffma (pf a e) (xp a e).2 acc.2)) ((0 : F32), (0 : F32))))

/-! ### Impedance and distance (R327 to R329) -/

/-- R and X of a loop from u, j and IMIN. -/
def loopZ (u j : F32 × F32) (imin : F32) : List (VType × Int × Bool) :=
  let d := ffma j.1 j.1 (fmul j.2 j.2)
  if flt d (fmul imin imin) then [oF cBIG, oF cBIG]
  else [oF (fdiv (ffma u.1 j.1 (fmul u.2 j.2)) d), oF (fdiv (ffma u.2 j.1 (fneg (fmul u.1 j.2))) d)]
/-- IMP_PE. -/
def opImpPe (a : FireIn) : FireOut :=
  let n := cadd (cadd (xp a 3) (xp a 4)) (xp a 5)
  let k0r := pf a 0
  let k0x := pf a 1
  let kn : F32 × F32 := (ffma (fneg k0x) n.2 (fmul k0r n.1), ffma k0x n.1 (fmul k0r n.2))
  pure_ a ((List.range 3).flatMap (fun i => loopZ (xp a i) (cadd (xp a (3 + i)) kn) (pf a 2)))
/-- IMP_PP. -/
def opImpPp (a : FireIn) : FireOut :=
  pure_ a ((List.range 3).flatMap (fun i =>
    loopZ (csub (xp a i) (xp a ((i + 1) % 3))) (csub (xp a (3 + i)) (xp a (3 + (i + 1) % 3))) (pf a 0)))
/-- MHO. -/
def opMho (a : FireIn) : FireOut :=
  let (zr, zo) := (pf a 0, pf a 1)
  let cs := cosSinB (pw a 2)
  let h := fmul (fsub zr zo) cHALF
  let r := fmul (fadd zr zo) cHALF
  let dx := fsub (xf a 0) (fmul h cs.1)
  let dy := fsub (xf a 1) (fmul h cs.2)
  pure_ a [oB (flt (ffma dx dx (fmul dy dy)) (fmul r r))]
/-- QUAD. -/
def opQuad (a : FireIn) : FireOut :=
  let cs := cosSinB (pw a 4)
  let (r, x) := (xf a 0, xf a 1)
  let w := ffma (fneg x) (fdiv cs.1 cs.2) r
  pure_ a [oB (flt x (pf a 0) && flt (fneg (pf a 1)) x && flt w (pf a 2) && flt (fneg (pf a 3)) w)]
/-- DIR. -/
def opDir (a : FireIn) : FireOut :=
  let (v, i) := (xp a 0, xp a 1)
  let cs := cosSinB (pw a 0)
  let p := ffma i.2 v.2 (fmul i.1 v.1)
  let q := ffma i.2 v.1 (fneg (fmul i.1 v.2))
  let T := ffma q cs.2 (fmul p cs.1)
  let low := flt (cabs v) (pf a 1) || flt (cabs i) (pf a 2)
  pure_ a [oI (if low then 0 else if flt 0 T then 1 else if flt T 0 then -1 else 0)]

/-! ### Differential (R330, R331) -/

/-- DIFF_BIAS. -/
def opDiffBias (a : FireIn) : FireOut :=
  let (is1, k1, ib2, k2, idh) := (pf a 0, pf a 1, pf a 2, pf a 3, pf a 4)
  let acc := (List.range (nx a / 2)).foldl (fun (acc : F32 × F32 × F32) e =>
    let rc := pf a (5 + e)
    let z := xp a e
    (ffma rc z.1 acc.1, ffma rc z.2 acc.2.1, ffma (fabs rc) (cabs z) acc.2.2)) (0, 0, 0)
  let id := fsqrt (ffma acc.1 acc.1 (fmul acc.2.1 acc.2.1))
  let ir := fmul acc.2.2 cHALF
  let thr := if fle ir ib2 then fmul k1 ir else ffma k2 (fsub ir ib2) (fmul k1 ib2)
  pure_ a [oB (flt (fmax is1 thr) id), oB (flt idh id), oF id, oF ir]
/-- HARM_RATIO. -/
def opHarmRatio (a : FireIn) : FireOut :=
  let m1 := cabs (xp a 1)
  if flt m1 (pf a 1) then pure_ a [oB false, oF 0]
  else
    let r := fdiv (cabs (xp a 0)) m1
    pure_ a [oB (flt (pf a 0) r), oF r]

/-! ### IDMT (R333) -/

/-- Comparison of a curve at M = (64 + j)/64 with b = p/q: t_c(M) ≥ b. Exact. -/
def curveGe (curve j p q : Nat) : Bool :=
  let n := 64 + j
  match curve with
  | 0 => decide (n * (50 * p) ^ 50 ≤ 64 * (50 * p + 7 * q) ^ 50)
  | 1 => decide (p * 2 * j ≤ 27 * 64 * q)
  | 2 => decide (p * (n * n - 4096) ≤ 80 * 4096 * q)
  | 3 => decide (p * j ≤ 120 * 64 * q)
  | 4 =>
    -- 0.0515 / (x − 1) ≥ b − 0.114, with b − 0.114 = (500 p − 57 q) / (500 q)
    if 500 * p ≤ 57 * q then true
    else
      let r := 20 * (500 * p - 57 * q)
      decide (n * r ^ 50 ≤ 64 * (r + 515 * q) ^ 50)
  | 5 => if 1000 * p ≤ 491 * q then true else decide ((1000 * p - 491 * q) * (n * n - 4096) ≤ 19610 * 4096 * q)
  | _ => if 10000 * p ≤ 1217 * q then true else decide ((10000 * p - 1217 * q) * (n * n - 4096) ≤ 282000 * 4096 * q)

/-- A positive normal binary32 word as a quotient, in halves of its last place. -/
def wordRat (w : Nat) (half : Nat) : Nat × Nat :=
  let e := w / 8388608
  let m := 2 * (8388608 + w % 8388608) + half
  if 151 ≤ e then (m * 2 ^ (e - 151), 1) else (m, 2 ^ (151 - e))
/-- The greatest word w below hi with t_c ≥ its value, by bisection from lo. -/
def curveBisect (curve j : Nat) : Nat → Nat → Nat → Nat
  | 0, lo, _ => lo
  | fuel + 1, lo, hi =>
    if hi ≤ lo + 1 then lo
    else
      let mid := (lo + hi) / 2
      let pq := wordRat mid 0
      if curveGe curve j pq.1 pq.2 then curveBisect curve j fuel mid hi else curveBisect curve j fuel lo mid
/-- t_c(M) = p/q exactly; the curves with a fractional power meet no quotient of two-powers. -/
def curveEq (curve j p q : Nat) : Bool :=
  let d := (64 + j) * (64 + j) - 4096
  match curve with
  | 1 => p * 2 * j == 27 * 64 * q
  | 2 => p * d == 80 * 4096 * q
  | 3 => p * j == 120 * 64 * q
  | 5 => (1000 * p - 491 * q) * d == 19610 * 4096 * q
  | 6 => (10000 * p - 1217 * q) * d == 282000 * 4096 * q
  | _ => false
/-- Tc[j]: the binary32 nearest to t_c(1 + j/64), ties to even. -/
def curveTc (curve j : Nat) : F32 :=
  let w := curveBisect curve j 32 0x30000000 0x4F000000
  let pq := wordRat w 1
  BitVec.ofNat 32 (if curveGe curve j pq.1 pq.2 && !(curveEq curve j pq.1 pq.2 && w % 2 == 0) then w + 1 else w)

/-- The integer below or at a finite value that is not negative, up to 2^20. -/
def ffloor (a : F32) : Nat :=
  match up32 a with
  | .fin false m e => min 1048576 (if 0 ≤ e then m <<< min e.toNat 64 else m >>> (-e).toNat)
  | _ => 0

/-- IDMT (R333). regs: acc, last Tns, whether there is one, reset timer running, its start. -/
def opIdmt (a : FireIn) : FireOut :=
  let st := a.st
  let (curve, is, tms, pu, mmax) := (pw a 0, pf a 1, pf a 2, pf a 3, pf a 4)
  let acc := bitsF (rg st 0)
  let m := fdiv (xf a 0) is
  let dt := fdiv (fofInt (deltaNs (rb st 2) (rg st 1) a.tns)) cNSEC
  if flt pu m then
    let u := fmul (fsub (fmin m mmax) cONE) 0x42800000#32
    let j := min 2495 (max 1 (ffloor u))
    let fr := fsub u (fofInt j)
    let tj := curveTc curve j
    let tb := ffma fr (fsub (curveTc curve (j + 1)) tj) tj
    let acc1 := fmin (fadd acc (fdiv dt (fmul tms tb))) cONE
    ⟨[oB true, oB (fle cONE acc1), oF acc1], { st with regs := [fBits acc1, a.tns, 1, 0, 0] }, a.q, none⟩
  else
    let (run, start, ex) := timerStep true (rb st 3) (rg st 4) a.tns (pw a 6)
    let acc1 := match pw a 5 with
      | 0 => (0 : F32)
      | 1 => if ex then 0 else acc
      | _ => if flt m cONE then fmax 0 (fsub acc (fdiv (fmul dt (ffma (fneg m) m cONE)) (fmul tms (pf a 7)))) else acc
    ⟨[oB false, oB false, oF acc1], { st with regs := [fBits acc1, a.tns, 1, b01 run, start] }, a.q, none⟩

/-! ### Threshold elements (R332) -/

/-- A phase of an over- or under-element: its measure past the pick-up, or, while START holds, not past the dropout. -/
def phaseMeets (under startPrev metPrev : Bool) (m pu drop : F32) : Bool :=
  if startPrev && metPrev then (if under then !flt drop m else !flt m drop)
  else (if under then flt m pu else flt pu m)
/-- START over the phases, by MODE: any or all. -/
def startOf (mode : Nat) (l : List Bool) : Bool := if mode = 0 then l.any id else l.all id
/-- An element with a timer. regs: START, timer running, its start, then the phases. -/
def element (a : FireIn) (meets : Bool → Nat → Bool → Bool) (n mode td : Nat) (base : Nat) : Bool × Bool × List Int :=
  let sp := rb a.st base
  let ms := (List.range n).map (fun i => meets sp i (rb a.st (base + 3 + i)))
  let start := startOf mode ms
  let (run, t0, ex) := timerStep start (rb a.st (base + 1)) (rg a.st (base + 2)) a.tns td
  (start, ex, [b01 start, b01 run, t0] ++ ms.map b01)

/-- DEFT. -/
def opDeft (a : FireIn) : FireOut :=
  let (s, o, r) := element a (fun sp _ mp => phaseMeets false sp mp (xf a 0) (pf a 0) (fmul (pf a 0) (pf a 1))) 1 0 (pw a 2) 0
  ⟨[oB s, oB o], { a.st with regs := r }, a.q, none⟩
/-- UV. -/
def opUv (a : FireIn) : FireOut :=
  let drop := fmul (pf a 0) (pf a 1)
  let (s, o, r) := element a (fun sp i mp => !flt (xf a i) (pf a 4) && phaseMeets true sp mp (xf a i) (pf a 0) drop)
    (nx a) (pw a 3) (pw a 2) 0
  ⟨[oB s, oB o], { a.st with regs := r }, a.q, none⟩
/-- OV. -/
def opOv (a : FireIn) : FireOut :=
  let drop := fmul (pf a 0) (pf a 1)
  let (s, o, r) := element a (fun sp i mp => phaseMeets false sp mp (xf a i) (pf a 0) drop) (nx a) (pw a 3) (pw a 2) 0
  ⟨[oB s, oB o], { a.st with regs := r }, a.q, none⟩
/-- BF_CHECK: START is current present; OP is always 0. -/
def opBfCheck (a : FireIn) : FireOut :=
  let drop := fmul (pf a 0) (pf a 1)
  let (s, _, r) := element a (fun sp i mp => phaseMeets false sp mp (xf a i) (pf a 0) drop) (nx a) 0 0 0
  ⟨[oB s, oB false], { a.st with regs := r }, a.q, none⟩
/-- FREQ_PROT. -/
def opFreqProt (a : FireIn) : FireOut :=
  let (pu, hys, mode) := (pf a 0, pf a 1, pw a 3)
  let m := if mode = 2 then fabs (xf a 1) else xf a 0
  let drop := if mode = 0 then fadd pu hys else fsub pu hys
  let (s, o, r) := element a (fun sp _ mp => phaseMeets (mode == 0) sp mp m pu drop) 1 0 (pw a 2) 0
  ⟨[oB s, oB o], { a.st with regs := r }, a.q, none⟩

/-! ### DC side (R334) -/

/-- DC_DIDT. regs: timer running, its start. -/
def opDcDidt (a : FireIn) : FireOut :=
  let (ks, fs, m, th, dirn) := (pf a 0, pf a 1, pw a 2, pf a 3, pw a 4)
  let ring := pushRing (m + 1) a.x a.q a.st.ring
  let d := xi a 0 - nth ((ring.map (·.1)).getD m []) 0 0
  let didt := fdiv (fmul (fmul (fofInt d) ks) fs) (fofInt m)
  let cond := if dirn = 0 then flt th didt else if dirn = 1 then flt didt (fneg th) else flt th (fabs didt)
  let (run, t0, ex) := timerStep cond (rb a.st 0) (rg a.st 1) a.tns (pw a 5)
  let fill := min (m + 1) (a.st.fill + 1)
  ⟨unready (decide (fill < m + 1)) [oF didt, oB ex],
    { a.st with regs := [b01 run, t0], ring := ring, fill := fill }, ringQ ring, none⟩
/-- DC_OC: two stages with DOR95. -/
def opDcOc (a : FireIn) : FireOut :=
  let x := xf a 0
  let m := if pw a 4 = 0 then x else if pw a 4 = 1 then fneg x else fabs x
  let (_, o1, r1) := element a (fun sp _ mp => phaseMeets false sp mp m (pf a 0) (fmul (pf a 0) cDOR95)) 1 0 (pw a 1) 0
  let (_, o2, r2) := element a (fun sp _ mp => phaseMeets false sp mp m (pf a 2) (fmul (pf a 2) cDOR95)) 1 0 (pw a 3) 4
  ⟨[oB o1, oB o2], { a.st with regs := r1 ++ r2 }, a.q, none⟩
/-- A sum from the first element on. -/
def sumF : List F32 → F32
  | [] => 0
  | x :: l => l.foldl fadd x
/-- STRING_IMB. -/
def opStringImb (a : FireIn) : FireOut :=
  let xs := (List.range (nx a)).map (xf a)
  let mean := fdiv (sumF xs) (fofInt (nx a))
  let hi := xs.drop 1 |>.foldl fmax (xs.headD 0)
  let lo := xs.drop 1 |>.foldl fmin (xs.headD 0)
  let ratio := fdiv (fsub hi lo) (fmax mean (pf a 0))
  let (_, o, r) := element a (fun sp _ mp => phaseMeets false sp mp ratio (pf a 1) (fmul (pf a 1) cDOR95)) 1 0 (pw a 2) 0
  ⟨[oF ratio, oB o], { a.st with regs := r }, a.q, none⟩

/-! ### Logic support (R335) -/

/-- TIMER_PD. regs: output, last input, timer running, its start. -/
def opTimerPd (a : FireIn) : FireOut :=
  let i := decide (xi a 0 ≠ 0)
  let same := rb a.st 2 && (rb a.st 1 == i)
  let (_, t0, ex) := timerStep true same (rg a.st 3) a.tns (if i then pw a 0 else pw a 1)
  let out := if ex then i else rb a.st 0
  ⟨[oB out], { a.st with regs := [b01 out, b01 i, 1, t0] }, a.q, none⟩
/-- PULSE: a rising edge at the firing where TP expires starts the next one (R335). regs: output, last input, start. -/
def opPulse (a : FireIn) : FireOut :=
  let i := decide (xi a 0 ≠ 0)
  let on := rb a.st 0 && !decide ((1000 * pw a 0 : Nat) ≤ (a.tns : Int) - rg a.st 2)
  let begin_ := !on && i && !rb a.st 1
  let t0 : Int := if begin_ then a.tns else rg a.st 2
  let out := on || (begin_ && decide (0 < pw a 0))
  ⟨[oB out], { a.st with regs := [b01 out, b01 i, t0] }, a.q, none⟩
/-- CMP_HYST. regs: output. -/
def opCmpHyst (a : FireIn) : FireOut :=
  let (x, th, hys) := (xf a 0, pf a 0, pf a 1)
  let up := if pw a 2 = 0 then flt th x else flt x th
  let down := if pw a 2 = 0 then flt x (fsub th hys) else flt (fadd th hys) x
  let out := if rb a.st 0 then !down else up
  ⟨[oB out], { a.st with regs := [b01 out] }, a.q, none⟩
/-- BOOL_COMB. -/
def opBoolComb (a : FireIn) : FireOut :=
  let l := (List.range (nx a)).map (fun i => decide (xi a i ≠ 0) != bitN (pw a 1) i)
  let r := match pw a 0 with
    | 0 => l.all id
    | 1 => l.any id
    | 2 => l.foldl (· != ·) false
    | _ => decide (pw a 2 ≤ (l.filter id).length)
  pure_ a [oB (r != bitN (pw a 3) 0)]
/-- LATCH. regs: output. -/
def opLatch (a : FireIn) : FireOut :=
  let (set, rst) := (decide (xi a 0 ≠ 0), decide (xi a 1 ≠ 0))
  let out := if set && rst then pw a 0 == 0 else if set then true else if rst then false else rb a.st 0
  ⟨[oB out], { a.st with regs := [b01 out] }, a.q, none⟩
/-- EDGE. regs: last input. -/
def opEdge (a : FireIn) : FireOut :=
  let i := decide (xi a 0 ≠ 0)
  let p := rb a.st 0
  let out := match pw a 0 with
    | 0 => i && !p
    | 1 => !i && p
    | _ => i != p
  ⟨[oB out], { a.st with regs := [b01 i] }, a.q, none⟩
/-- COUNT. regs: count, last CU. -/
def opCount (a : FireIn) : FireOut :=
  let cu := decide (xi a 0 ≠ 0)
  let r := decide (xi a 1 ≠ 0)
  let lim : Int := pw a 0
  let c := if r then 0 else if cu && !rb a.st 1 then min lim (rg a.st 0 + 1) else rg a.st 0
  ⟨[oI c, oB (decide (lim ≤ c))], { a.st with regs := [c, b01 cu] }, a.q, none⟩

/-! ### Arithmetic and signals (R336, R337) -/

/-- SCALE. -/
def opScale (a : FireIn) : FireOut := pure_ a [oF (ffma (fofInt (xi a 0)) (pf a 0) (pf a 1))]
/-- ARITH. -/
def opArith (a : FireIn) : FireOut :=
  let (x, y) := (xf a 0, xf a 1)
  pure_ a [oF (match pw a 0 with | 0 => fadd x y | 1 => fsub x y | 2 => fmul x y | _ => fdiv x y)]
/-- SUMW. -/
def opSumw (a : FireIn) : FireOut :=
  pure_ a [oF ((List.range (nx a)).foldl (fun acc i => ffma (pf a i) (xf a i) acc) 0)]
/-- MINMAX: the value and its index, the lowest index on a tie. -/
def opMinmax (a : FireIn) : FireOut :=
  let r := (List.range (nx a)).drop 1 |>.foldl (fun (b : F32 × Nat) i =>
    if (if pw a 0 = 0 then flt (xf a i) b.1 else flt b.1 (xf a i)) then (xf a i, i) else b) (xf a 0, 0)
  pure_ a [oF (fflush r.1), oI r.2]
/-- LIMIT. -/
def opLimit (a : FireIn) : FireOut :=
  let v := fmin (fmax (xf a 0) (pf a 0)) (pf a 1)
  pure_ a [oF v, oB (!feq v (xf a 0))]
/-- ABSF. -/
def opAbsf (a : FireIn) : FireOut := pure_ a [oF (fabs (xf a 0))]
/-- SELECT. -/
def opSelect (a : FireIn) : FireOut := pure_ a [oF (if xi a 0 = 0 then xf a 1 else xf a 2)]
/-- MOVAVG. -/
def opMovavg (a : FireIn) : FireOut :=
  let n := pw a 0
  let ring := pushRing n a.x a.q a.st.ring
  let fill := min n (a.st.fill + 1)
  let v := fdiv (sumF ((window n 0 ring).map bitsF)) (fofInt n)
  ⟨unready (decide (fill < n)) [oF v], { a.st with ring := ring, fill := fill }, ringQ ring, none⟩
/-- DELAYK: the input of K firings earlier with its own quality; before that 0.0 with validity 01 and no other bit but
derived. -/
def opDelayk (a : FireIn) : FireOut :=
  let k := pw a 0
  let ready := decide (k ≤ a.st.fill)
  let e := (a.st.ring).getD (k - 1) ([0], 0)
  let st := { a.st with ring := pushRing k a.x (a.raw.qual &&& 0xBFFF) a.st.ring, fill := min k (a.st.fill + 1) }
  if ready then ⟨[((.f : VType), nth e.1 0 0, false)], st, a.q, some e.2⟩
  else ⟨[((.f : VType), 0, true)], st, 0, some (2 ^ 13 + 1)⟩
/-- SIG_READ. -/
def opSigRead (a : FireIn) : FireOut :=
  pure_ a [match pw a 0 with
    | 0 => ((.f : VType), a.alt.1, false)
    | 1 => (.i, a.alt.2.1, false)
    | _ => (.b, a.alt.2.2, false)]
/-- SIG_WRITE's output (R337). -/
def opSigWrite (a : FireIn) : FireOut := pure_ a [((repeatVal a.t a.raw).1, (repeatVal a.t a.raw).2, false)]

/-! ### The operator table (R306, Tables OPL-4 to OPL-12) -/

/-- Fallback classes (Table OPL-3). -/
inductive FClass where
  | c | f | z
  deriving DecidableEq, Repr, Inhabited

/-- How a parameter word is encoded (R323): binary32 not negative, binary32 of any sign, a whole number in a range, or a
binary angle. The last flag marks a layout parameter. -/
inductive PKind where
  | pos | signed | whole (lo hi : Nat) (layout : Bool)
  deriving DecidableEq, Repr, Inhabited

/-- A row of the library: slot counts, outputs for a slot count, state size, cost, slot types, parameters, class. -/
structure OpRow where
  lo : Nat
  hi : Nat
  step : Nat
  nout : Nat → Nat
  stateLen : Nat
  cost : Nat
  slot : Nat → SlotT
  prm : List PKind
  cls : FClass

/-- Any 32-bit word. -/
def anyWord : PKind := .whole 0 0xFFFFFFFF false
/-- Eight signed parameters. -/
def eight : List PKind := List.replicate 8 .signed

/-- The library of LIB_VER 1. -/
def opRow (op : Nat) : Option OpRow :=
  let S := fun _ : Nat => SlotT.s
  let F := fun _ : Nat => SlotT.f
  let B := fun _ : Nat => SlotT.b
  let k (n : Nat) := fun _ : Nat => n
  match op with
  | 0x0100 => some ⟨1, 3, 1, (2 * ·), 1160, 420, S, [.whole 4 64 true, .whole 1 31 true, .signed], .c⟩
  | 0x0101 => some ⟨1, 3, 1, (2 * ·), 584, 260, S, [.whole 4 64 true, .whole 1 16 true, .signed], .c⟩
  | 0x0102 => some ⟨1, 3, 1, (2 * ·), 1448, 300, S, [.whole 4 64 true, .whole 1 1 true, .signed], .c⟩
  | 0x0200 => some ⟨6, 6, 1, k 6, 0, 48, F, [], .c⟩
  | 0x0201 => some ⟨2, 2, 1, k 1, 0, 16, F, [], .c⟩
  | 0x0202 => some ⟨2, 2, 1, k 2, 0, 96, F, [], .c⟩
  | 0x0203 => some ⟨12, 12, 1, k 3, 0, 44, F, [], .c⟩
  | 0x0204 => some ⟨4, 4, 1, k 3, 0, 24, F, [], .c⟩
  | 0x0205 => some ⟨2, 2, 1, k 2, 1304, 180, F, [.pos, .whole 1 64 true, .whole 1 256 true, .pos], .f⟩
  | 0x0206 => some ⟨4, 4, 1, k 1, 0, 100, F, [], .c⟩
  | 0x0207 => some ⟨2, 16, 2, k 2, 0, 64, F, eight, .c⟩
  | 0x0300 => some ⟨12, 12, 1, k 6, 0, 180, F, [.signed, .signed, .pos], .c⟩
  | 0x0301 => some ⟨12, 12, 1, k 6, 0, 170, F, [.pos], .c⟩
  | 0x0302 => some ⟨2, 2, 1, k 1, 0, 24, F, [.pos, .pos, anyWord], .z⟩
  | 0x0303 => some ⟨2, 2, 1, k 1, 0, 28, F, [.pos, .pos, .pos, .pos, .whole (2 ^ 28 + 1) (2 ^ 30 - 1) false], .z⟩
  | 0x0304 => some ⟨4, 4, 1, k 1, 0, 40, F, [anyWord, .pos, .pos], .z⟩
  | 0x0400 => some ⟨2, 16, 2, k 4, 0, 600, F, [.pos, .pos, .pos, .pos, .pos] ++ eight, .z⟩
  | 0x0401 => some ⟨4, 4, 1, k 2, 0, 70, F, [.pos, .pos], .z⟩
  | 0x0500 => some ⟨1, 1, 1, k 3, 24, 140, F, [.whole 0 6 false, .pos, .pos, .pos, .pos, .whole 0 2 false, anyWord, .pos], .f⟩
  | 0x0501 => some ⟨1, 1, 1, k 2, 16, 36, F, [.pos, .pos, anyWord], .z⟩
  | 0x0600 => some ⟨1, 3, 1, k 2, 16, 56, F, [.pos, .pos, anyWord, .whole 0 1 false, .pos], .z⟩
  | 0x0601 => some ⟨1, 3, 1, k 2, 16, 52, F, [.pos, .pos, anyWord, .whole 0 1 false], .z⟩
  | 0x0602 => some ⟨1, 3, 1, k 2, 4, 28, F, [.pos, .pos], .z⟩
  | 0x0603 => some ⟨2, 2, 1, k 2, 16, 40, F, [.signed, .pos, anyWord, .whole 0 2 false], .z⟩
  | 0x0700 => some ⟨1, 1, 1, k 2, 400, 70, S, [.signed, .pos, .whole 1 64 true, .pos, .whole 0 2 false, anyWord], .z⟩
  | 0x0701 => some ⟨1, 1, 1, k 2, 24, 48, F, [.pos, anyWord, .pos, anyWord, .whole 0 2 false], .z⟩
  | 0x0702 => some ⟨2, 8, 1, k 2, 16, 80, F, [.pos, .pos, anyWord], .z⟩
  | 0x0800 => some ⟨1, 1, 1, k 1, 16, 20, B, [anyWord, anyWord], .f⟩
  | 0x0801 => some ⟨1, 1, 1, k 1, 16, 16, B, [anyWord], .f⟩
  | 0x0802 => some ⟨1, 1, 1, k 1, 4, 12, F, [.signed, .pos, .whole 0 1 false], .f⟩
  | 0x0803 => some ⟨1, 16, 1, k 1, 0, 40, B, [.whole 0 3 false, anyWord, .whole 1 16 false, .whole 0 1 false], .c⟩
  | 0x0804 => some ⟨2, 2, 1, k 1, 4, 12, B, [.whole 0 1 false], .f⟩
  | 0x0805 => some ⟨1, 1, 1, k 1, 4, 10, B, [.whole 0 2 false], .f⟩
  | 0x0806 => some ⟨2, 2, 1, k 2, 8, 16, B, [.whole 1 2147483647 false], .f⟩
  | 0x0900 => some ⟨1, 1, 1, k 1, 0, 10, S, [.signed, .signed], .c⟩
  | 0x0901 => some ⟨2, 2, 1, k 1, 0, 14, F, [.whole 0 3 false], .c⟩
  | 0x0902 => some ⟨1, 8, 1, k 1, 0, 20, F, eight, .c⟩
  | 0x0903 => some ⟨2, 16, 1, k 2, 0, 24, F, [.whole 0 1 false], .c⟩
  | 0x0904 => some ⟨1, 1, 1, k 2, 0, 10, F, [.signed, .signed], .c⟩
  | 0x0905 => some ⟨1, 1, 1, k 1, 0, 6, F, [], .c⟩
  | 0x0906 => some ⟨3, 3, 1, k 1, 0, 8, fun i => if i = 0 then .b else .f, [], .c⟩
  | 0x0907 => some ⟨1, 1, 1, k 1, 776, 560, F, [.whole 1 128 true], .c⟩
  | 0x0908 => some ⟨1, 1, 1, k 1, 392, 12, F, [.whole 1 64 true], .c⟩
  | 0x0A00 => some ⟨1, 1, 1, k 1, 0, 30, fun _ => .any, [.whole 0 2 false], .c⟩
  | 0x0A01 => some ⟨1, 1, 1, k 1, 0, 30, fun _ => .any, [.whole 0 (2 ^ 25 - 1) false], .c⟩
  | _ => none

/-- A parameter word in its range. -/
def prmOk (k : PKind) (w : Nat) : Bool :=
  match k with
  | .pos => !fbad (BitVec.ofNat 32 w) && decide (w < 2 ^ 32) && !(bitN w 31 && !fzero (BitVec.ofNat 32 w))
  | .signed => !fbad (BitVec.ofNat 32 w) && decide (w < 2 ^ 32)
  | .whole lo hi _ => decide (lo ≤ w ∧ w ≤ hi)

/-- The conditions among an operator's parameters. -/
def prmCross (op : Nat) (p : List Nat) : Bool :=
  let w (i : Nat) : Nat := nth p i 0
  let f (i : Nat) : F32 := BitVec.ofNat 32 (w i)
  match op with
  | 0x0100 => decide (w 0 % 2 = 0 ∧ w 1 ≤ w 0 / 2 - 1)
  | 0x0101 => decide (w 0 % 2 = 0 ∧ w 1 ≤ w 0 / 4)
  | 0x0102 => decide (w 0 % 4 = 0)
  | 0x0500 => fle cONE (f 3) && fle (f 3) 0x3FA66666#32 && fle 0x3FC00000#32 (f 4) && fle (f 4) 0x42200000#32 && flt (f 3) (f 4)
  | 0x0501 | 0x0601 | 0x0602 => fle (f 1) cONE
  | 0x0600 => fle cONE (f 1)
  | 0x0904 => fle (f 0) (f 1)
  | _ => true

/-- Every parameter of every setting group in range, layout parameters equal in all groups (R306). -/
def prmsOk (op : Nat) (r : OpRow) (params : List (List Nat)) : Bool :=
  params.all (fun p => (List.zip r.prm p).all (fun e => prmOk e.1 e.2) && decide (r.prm.length ≤ p.length) && prmCross op p)
    && (List.range r.prm.length).all (fun i => match nth r.prm i .pos with
      | .whole _ _ true => params.all (fun p => nth p i 0 == nth (params.headD []) i 0)
      | _ => true)

/-- A slot KIND fits a slot type (R315): S takes chain kinds only; other types take no chain kind; SIG_READ takes a signal. -/
def kindFits (op : Nat) (t : SlotT) (kind : Nat) : Bool :=
  if op = 0x0A00 then kind == 3
  else match t with
    | .s => decide (kind ≤ 1)
    | .any => decide (kind ≤ 3)
    | _ => decide (2 ≤ kind ∧ kind ≤ 3)

/-- Reason 5 of Table GRF-4 for one record (R306). -/
def nodeRecOk (n : NodeRec) : Bool :=
  match opRow n.operator with
  | none => false
  | some r =>
    let k := n.slots.length
    decide (r.lo ≤ k ∧ k ≤ r.hi ∧ k % r.step = 0) && n.nout == r.nout k && n.stateLen == r.stateLen && n.cost == r.cost
      && (List.range k).all (fun i => kindFits n.operator (r.slot i) (nth n.slots i ⟨9, 0, 0⟩).kind)
      && prmsOk n.operator r (paramsOf n) && n.initZero

end Sys2Proof.Machine
end

