-- ==== Sys2Proof/Machine/Matching.lean ====
section
/-! DEFINITION. Matching store, ready lists and dispatch (09 R278 to R290), firings from dispatch to commit (01 R20 to R27,
10 R315 to R319), and what consumption does to a draining graph (09 R294, R295). -/
namespace Sys2Proof.Machine

/-! ### Nodes and their instants (R278, R279, R283) -/

/-- The graph that holds a node, and its record. -/
def nodeAt (s : State) (id : Nat) : Option (Nat × NodeRec) :=
  s.cfg.graphs.findSome? (fun e =>
    if e.2.2.nodeBase ≤ id then (e.2.2.nodes[id - e.2.2.nodeBase]?).map (fun r => (e.1, r)) else none)
/-- Every node in force: its ID, its graph, its record. -/
def allNodes (s : State) : List (Nat × Nat × NodeRec) :=
  s.cfg.graphs.flatMap (fun e => (List.zip (List.range e.2.2.nodes.length) e.2.2.nodes).map (fun p =>
    (e.2.2.nodeBase + p.1, e.1, p.2)))
/-- The consumers of a source: node, slot index and OUT of each slot of that KIND and REF. -/
def consumersOf (s : State) (kind ref : Nat) : List (Nat × Nat × Nat) :=
  (allNodes s).flatMap (fun n => (List.zip (List.range n.2.2.slots.length) n.2.2.slots).filterMap (fun p =>
    if p.2.kind = kind ∧ p.2.ref = ref then some (n.1, p.1, p.2.out) else none))
/-- The rate whose instants number a node's firings (R278); none for a CYCLE node. -/
def nodeRate (s : State) : Nat → Nat → Option Nat
  | 0, _ => none
  | f + 1, id => match nodeAt s id with
    | none => none
    | some (_, r) => if r.cycle then none else r.slots.findSome? (fun sl =>
        if sl.kind ≤ 1 then ((tget s.cfg.chains sl.ref).bind (fun c => svCtx s c.stream)).map (·.rate)
        else if sl.kind = 2 then nodeRate s f sl.ref else none)
/-- The rate of a node; 0 for a CYCLE node. -/
def rateOf (s : State) (id : Nat) : Nat := (nodeRate s (Config.nodes s.variant + 1) id).getD 0
/-- T(n) of a node (R283). -/
def timeOf (s : State) (id n : Nat) : MTime :=
  if rateOf s id = 0 then boundaryTime s.cfg.cycleLen n else instantTime (rateOf s id) n
/-- The cycle that holds an instant of a node. -/
def cycleAt (s : State) (id n : Nat) : Nat :=
  if rateOf s id = 0 then n else n * unitsPerSec / rateOf s id / max 1 s.cfg.cycleLen
/-- An instant of a node lies at or after a boundary, in cycle units (R294). -/
def atOrAfter (s : State) (id n u : Nat) : Bool :=
  if rateOf s id = 0 then decide (u ≤ n * s.cfg.cycleLen) else decide (u * rateOf s id ≤ n * unitsPerSec)
/-- The deadline of a firing, ns (R287). -/
def deadline (s : State) (id n : Nat) : Nat :=
  mtimeNs (timeOf s id n) + (match nodeAt s id with | some (_, r) => r.budget | none => 0)

/-! ### Objects -/

/-- The state of a graph. -/
def graphSt (s : State) (g : Nat) : GraphSt := tgetD s.grf.graphs g {}
/-- Write the state of a graph. -/
def setGraph (g : Nat) (x : GraphSt) (s : State) : State := { s with grf := { s.grf with graphs := tset s.grf.graphs g x } }
/-- The state of a node group: ON when the image comes into force (R295). -/
def groupSt (x : GraphSt) (k : Nat) : ObjSt := tgetD x.groups k { obj := .on }
/-- The state of a node. -/
def nodeSt (s : State) (id : Nat) : NodeSt := tgetD s.grf.nodes id {}
/-- Write the state of a node. -/
def setNode (id : Nat) (x : NodeSt) (s : State) : State := { s with grf := { s.grf with nodes := tset s.grf.nodes id x } }
/-- The owner of a graph: the PF while it has custody (15 R470). -/
def graphOwner (s : State) (g : Nat) : Nat :=
  if (graphSt s g).custody then 0 else (match tget s.cfg.graphs g with | some e => e.1 | none => 0)
/-- The home of a node. -/
def locOf (s : State) (id : Nat) : Loc := tgetD s.plm.nodeLoc id ⟨0, 0, 0⟩
/-- The region of a node: 4 × die + region. -/
def regionOf (s : State) (id : Nat) : Nat := 4 * (locOf s id).die + (locOf s id).region
/-- A migration of the node is in progress (11 R348). -/
def moving (s : State) (id : Nat) : Bool := s.plm.migs.any (fun m => m.node == id && m.started.isSome)
/-- Where new operands of a node are delivered: from the start of a migration, at its destination (11 R348). -/
def operandLoc (s : State) (id : Nat) : Loc :=
  match s.plm.migs.find? (fun m => m.node == id && m.started.isSome) with | some m => m.dest | none => locOf s id
/-- The region of that place. -/
def operandRegion (s : State) (id : Nat) : Nat := 4 * (operandLoc s id).die + (operandLoc s id).region
/-- The region whose partition or spill area holds an entry (11 R348). -/
def entryRegion (s : State) (e : Entry) : Nat := if e.atDest then operandRegion s e.node else regionOf s e.node

/-- What becomes of an instant of a node: no entry, an entry that fires, or outputs that the store completes. -/
inductive Fate where
  | none | fire | blocked
  deriving DecidableEq, Repr, Inhabited

/-- An object in this state, with these boundaries, covers an instant. -/
def covers (s : State) (id n : Nat) (o : Obj) (from_ drain : Nat) : Bool :=
  match o with
  | .on => atOrAfter s id n from_
  | .draining => atOrAfter s id n from_ && !atOrAfter s id n drain
  | _ => false
/-- R294 and R295 for one instant. -/
def fateOf (s : State) (id n : Nat) : Fate :=
  match nodeAt s id with
  | none => .none
  | some (g, r) =>
    let x := graphSt s g
    if !covers s id n x.o.obj x.fromTime x.drainTime then .none
    else if covers s id n (groupSt x r.group).obj (tgetD x.groupFrom r.group 0) (tgetD x.groupDrain r.group 0) then .fire
    else .blocked

/-- The setting group of a firing (R297). -/
def groupFor (s : State) (id n : Nat) (x : GraphSt) : Nat :=
  match x.groupLog.find? (fun e => atOrAfter s id n e.1) with
  | some e => e.2.1
  | none => match x.groupLog.getLast? with | some e => e.2.2 | none => x.setGroup

/-! ### The store (R282 to R286) -/

/-- Entries of a partition, firings of a ready list, entries of a spill area. -/
def partCap : Nat := 4096
/-- Firings that a ready list holds. -/
def readyCap : Nat := 1024
/-- Entries of a spill area. -/
def spillCap : Nat := 65536

/-- The entry of a key. -/
def findEntry (s : State) (id n : Nat) : Option Entry := s.grf.store.find? (fun e => e.node == id && e.inst == n)
/-- Change the entry of a key. -/
def modEntry (id n : Nat) (f : Entry → Entry) (s : State) : State :=
  { s with grf := { s.grf with store := s.grf.store.map (fun e => if e.node == id && e.inst == n then f e else e) } }
/-- Partition entries in use in a region. -/
def occOf (s : State) (region : Nat) : Nat := (s.grf.store.filter (fun e => !e.spilled && entryRegion s e == region)).length
/-- Spilled entries of a region. -/
def spillOf (s : State) (region : Nat) : Nat := (s.grf.store.filter (fun e => e.spilled && entryRegion s e == region)).length
/-- The ready list of a region. -/
def readyList (s : State) (region : Nat) : List Entry := s.grf.store.filter (fun e => e.inList && regionOf s e.node == region)
/-- Partition entries held for a function's nodes (15 Table VFN-1). -/
def entriesOf (s : State) (func : Nat) : Nat :=
  (s.grf.store.filter (fun e => !e.spilled && (match nodeAt s e.node with
    | some (g, _) => graphOwner s g == func
    | none => false))).length
/-- No earlier instant of the node is pending, so that firings run in instant order (01 R26). -/
def earliest (s : State) (id n : Nat) : Bool := !s.grf.store.any (fun e => e.node == id && decide (e.inst < n))
/-- A firing of the node is in service. -/
def inService (s : State) (id : Nat) : Bool := s.grf.service.any (fun f => f.node == id)

/-- a stands before b in deadline order, ties by node ID (01 R29). -/
def dlBefore (s : State) (a b : Entry) : Bool :=
  let x := deadline s a.node a.inst
  let y := deadline s b.node b.inst
  decide (x < y ∨ (x = y ∧ a.node ≤ b.node))
/-- The first of a list in an order. -/
def firstBy (le : Entry → Entry → Bool) : List Entry → Option Entry
  | [] => none
  | e :: l => match firstBy le l with
    | none => some e
    | some b => if le e b then some e else some b

/-- Put an entry into its ready list. -/
def enlist (e : Entry) (s : State) : State :=
  let s1 := modEntry e.node e.inst (fun e => { e with ready := true, inList := true, readyRaw := s.tim.raw }) s
  peak (.grfRdyPeak (regionOf s e.node)) (readyList s1 (regionOf s e.node)).length s1
/-- A firing that has become ready enters the list, displaces the latest, or stays in the store marked ready (R286). -/
def enterList (e : Entry) (s : State) : State :=
  let region := regionOf s e.node
  let l := readyList s region
  if moving s e.node then modEntry e.node e.inst (fun e => { e with ready := true }) s
  else if l.length < readyCap then enlist e s
  else match firstBy (fun a b => dlBefore s b a) l with
    | some w =>
      if deadline s e.node e.inst < deadline s w.node w.inst then
        enlist e (bump (.grf region 7) (modEntry w.node w.inst (fun e => { e with inList := false }) s))
      else modEntry e.node e.inst (fun e => { e with ready := true }) s
    | none => s
/-- Firings marked ready re-enter the list in deadline order as room frees (R286). -/
def promote (region : Nat) : Nat → State → State
  | 0, s => s
  | fuel + 1, s =>
    if readyCap ≤ (readyList s region).length then s
    else match firstBy (dlBefore s) (s.grf.store.filter (fun e =>
        e.ready && !e.inList && regionOf s e.node == region && !moving s e.node)) with
      | some e => promote region fuel (enlist e s)
      | none => s

/-- The bin of a waiting time (R303). -/
def waitBin (ns : Nat) : Nat := if ns < 64 then 0 else min 15 (Nat.log2 (ns / 64) + 1)
/-- Count the waiting time of a firing that leaves the ready list. -/
def countWait (e : Entry) (s : State) : State :=
  if e.inList then bump (.grfWaitHist (regionOf s e.node) (waitBin (2 * (s.tim.raw - e.readyRaw)))) s else s
/-- Consume an entry (R282). An earlier entry of the node that stands in the store goes on; a new one for an earlier instant is not
made any more. -/
def consume (e : Entry) (s : State) : State :=
  let x := nodeSt s e.node
  let s1 := setNode e.node { x with lastConsumed := some (match x.lastConsumed with | some k => max k e.inst | none => e.inst) }
    { s with grf := { s.grf with store := s.grf.store.filter (fun a => !(a.node == e.node && a.inst == e.inst)) } }
  promote (regionOf s e.node) 64 (countWait e s1)

/-! ### Outputs on their way -/

/-- An operand on its way to a slot of a node's entry; no slot for a CYCLE trigger. -/
structure Operand where
  node : Nat
  inst : Nat
  slot : Option (Nat × Val)
  chain : Bool
  deriving DecidableEq, Repr, Inhabited

/-- The operands that a node's outputs are for other nodes. -/
def outOperands (s : State) (id n : Nat) (outs : List Val) : List Operand :=
  (consumersOf s 2 id).filterMap (fun c => (outs[c.2.2]?).map (fun v => ⟨c.1, n, some (c.2.1, v), false⟩))

/-- Node outputs that may serve the loop as its input (13 R403). -/
def loopTake (s : State) (id : Nat) (t : MTime) (outs : List Val) : State :=
  match s.cfg.loop with
  | some p => if p.inputKind = 0 ∧ p.inputRef = id then
      (match outs[p.out]? with
       | some v => { s with lop := { s.lop with inputs := ((munits t).toNat, v) :: s.lop.inputs.take 1023 } }
       | none => s) else s
  | none => s
/-- Deliver a firing's outputs to direct publication members and to the loop, and answer the operands for other nodes. -/
def emit (id n : Nat) (outs : List Val) (s : State) : State × List Operand :=
  let t := timeOf s id n
  (gpDirect id (outs.map (fun v => (outBits v, v.qual))) t (loopTake s id t outs), outOperands s id n outs)

/-- The node's last outputs, zeros before its first firing. -/
def lastOuts (s : State) (id : Nat) : List Val :=
  let x := nodeSt s id
  if x.outs.isEmpty then List.replicate (match nodeAt s id with | some (_, r) => r.nout | none => 0) ⟨.f, 0, 0⟩ else x.outs

/-- A late or skipped firing of a graph counts toward its total (Table GRF-10). -/
def noteLate (id : Nat) (s : State) : State :=
  match nodeAt s id with
  | some (g, _) => (let x := graphSt s g; setGraph g { x with lateSkip := x.lateSkip + 1 } s)
  | none => s
/-- A late SKIP firing is discarded: outputs repeat with validity 01 and LATE (R290). -/
def discardSkip (e : Entry) (s : State) : State × List Operand :=
  let t := timeOf s e.node e.inst
  let outs := (lastOuts s e.node).map (fun v =>
    { v with qual := qSet (qVal (v.qual % 16384) 1) 14 ||| bbit (holdAt s t) 15 })
  emit e.node e.inst outs (noteLate e.node (bump (.grfNodeSkip e.node) (bump (.grf (regionOf s e.node) 1) (consume e s))))

/-- The late policy of a node is MUST_RUN. -/
def mustRun (s : State) (id : Nat) : Bool := match nodeAt s id with | some (_, r) => r.mustRun | none => false
/-- Module time is later than the firing's deadline (R288). -/
def isLate (s : State) (id n : Nat) : Bool := decide ((deadline s id n : Int) * two32 < munits (now s))

/-- An entry is complete (R282, R290, R295). -/
def becomeReady (e : Entry) (s : State) : State × List Operand :=
  match fateOf s e.node e.inst with
  | .none => (consume e s, [])
  | .blocked =>
    let outs := (lastOuts s e.node).map (fun v => { v with bits := 0, qual := 0x1001 ||| bbit (holdAt s (timeOf s e.node e.inst)) 15 })
    (consume e s, outOperands s e.node e.inst outs)
  | .fire =>
    if !mustRun s e.node && isLate s e.node e.inst then discardSkip e s
    else (enterList e s, [])

/-- Every slot is filled. -/
def full (e : Entry) : Bool := e.slots.all (·.isSome)
/-- The operand that a signal slot takes: the record of the boundary that opened the instant's cycle (R280, 08 R246). -/
def sigOperand (s : State) (id cycle : Nat) : Val :=
  match sigDef s id with
  | some d => signalVal d (recAt s id cycle)
  | none => ⟨.i, 0, qDead⟩
/-- Fill the signal slots of an entry whose cycle has opened. -/
def fillSignals (s : State) (e : Entry) : Entry :=
  match nodeAt s e.node with
  | none => e
  | some (_, r) =>
    let c := cycleAt s e.node e.inst
    if s.cycleNum < c then e
    else { e with slots := (List.zip r.slots e.slots).map (fun p =>
      if p.1.kind = 3 ∧ p.2.isNone = true then some (sigOperand s p.1.ref c) else p.2) }

/-- The function that owns the node has used its share of matching entries (15 Table VFN-2). -/
def pastShare (s : State) (id : Nat) : Option Nat :=
  match nodeAt s id with
  | some (g, _) => if share s (graphOwner s g) 1 < entriesOf s (graphOwner s g) + 1 then some (graphOwner s g) else none
  | none => none

/-- A protection-class node. -/
def isProt (s : State) (id : Nat) : Bool := match nodeAt s id with | some (_, r) => r.prot | none => false
/-- A region that holds a protection-class node. -/
def protRegion (s : State) (region : Nat) : Bool :=
  s.plm.nodeLoc.any (fun e => 4 * e.2.die + e.2.region == region && isProt s e.1)
/-- A deadline that becomes pending while its compute or memory domain is in RETAIN, and that leaves less than 2 µs and 5 µs,
wakes the domain at once (19 R569). -/
def wakeForDeadline (id n : Nat) (s : State) : State :=
  let l := operandLoc s id
  if (protRegion s (4 * l.die + l.region) || isProt s id) && decide ((deadline s id n : Int) * two32 < munits (now s) + 7000 * two32) then
    foldSt (fun k s => if (domainSt s l.die k).1 = 2 then wakeDomain l.die k s else s) [l.region, 4 + l.region] s
  else s
/-- The window of EV_GRF_OVERLOAD that is open for a region keeps the most spilled entries of its second (Table GRF-12). -/
def noteSpill (region : Nat) (s : State) : State :=
  { s with evr := { s.evr with windows := s.evr.windows.map (fun w =>
      if w.code == 0x0707 && w.obj == region && !windowOver s w then { w with extra := max w.extra (spillOf s region) } else w) } }
/-- Create the entry of a key: in the partition, in the spill area, or not at all (R285; 19 R569). -/
def makeEntry (id n nslots : Nat) (s : State) : Option State :=
  let region := operandRegion s id
  let past := pastShare s id
  let spill := past.isSome || decide (partCap ≤ occOf s region)
  if spill && decide (spillCap ≤ spillOf s region) then none
  else
    let e : Entry := { node := id, inst := n, slots := List.replicate nslots none, spilled := spill, ready := false,
                       inList := false, readyRaw := 0, atDest := moving s id }
    let s1 := { s with grf := { s.grf with store := s.grf.store ++ [fillSignals s e] } }
    let s2 := if spill then noteSpill region (bump (.grf region 4) s1) else peak (.grfMsPeak region) (occOf s1 region) s1
    some (wakeForDeadline id n (match past with
      | some f => if f = 0 then s2 else bump (.vfn (f - 1) 1) s2
      | none => s2))

/-- Complete an entry when it is full. -/
def checkFull (id n : Nat) (s : State) : State × List Operand :=
  match findEntry s id n with
  | some e => if full e && !e.ready then becomeReady e s else (s, [])
  | none => (s, [])
/-- Put an operand into a slot that is empty. -/
def fillSlot (o : Operand) (s : State) : State × List Operand :=
  match o.slot with
  | none => checkFull o.node o.inst s
  | some (i, v) => checkFull o.node o.inst (modEntry o.node o.inst (fun e =>
      if e.ready ∨ (e.slots.getD i none).isSome = true then e else { e with slots := e.slots.set i (some v) }) s)

/-- Deliver one operand (R282, R285). -/
def deliverOperand (o : Operand) (s : State) : State × List Operand :=
  match nodeAt s o.node with
  | none => (s, [])
  | some (_, r) =>
    if (findEntry s o.node o.inst).isSome then fillSlot o s
    else if (match (nodeSt s o.node).lastConsumed with | some k => decide (o.inst ≤ k) | none => false) then
      (bump (.grf (operandRegion s o.node) 3) s, [])
    else if fateOf s o.node o.inst = .none then (s, [])
    else match makeEntry o.node o.inst r.slots.length s with
      | some s1 => fillSlot o s1
      | none => (bump (.grf (operandRegion s o.node) 5) s, [])

/-- Deliver operands, and the operands that discarded firings give in turn. -/
def deliverAll : Nat → List Operand → State → State
  | 0, _, s => s
  | _ + 1, [], s => s
  | fuel + 1, o :: l, s => let (s1, more) := deliverOperand o s; deliverAll fuel (l ++ more) s1
/-- Enough steps for a list of operands: each slot of each node takes one operand for each instant on its way. -/
def deliverFuel (l : List Operand) (s : State) : Nat :=
  l.length + (l.length + s.grf.store.length) * 16 * Config.nodes s.variant + 1
/-- Deliver operands to their end. -/
def deliverList (l : List Operand) (s : State) : State := deliverAll (deliverFuel l s) l s

/-! ### Ends of draining (R293 to R295) -/

/-- EV_GRAPH_STATE of a graph (Table GRF-12). -/
def evGraph (g old new : Nat) (s : State) : State := recordEvent (evPkg 0x0701 g (old + 256 * new) 0 g) s
/-- EV_GRAPH_STATE of a node group. -/
def evGroup (g k old new : Nat) (s : State) : State :=
  recordEvent (evPkg 0x0701 (g * 64 + k + 65536) (old + 256 * new) 0 (g * 64 + k)) s

/-- A node at its cold initial state, which is all zero (10 R306); what it has consumed stays consumed. -/
def coldNode (id : Nat) (s : State) : State := setNode id { lastConsumed := (nodeSt s id).lastConsumed } s
/-- The nodes of a graph, or of one of its groups. -/
def nodesOf (s : State) (g : Nat) (k : Option Nat) : List Nat :=
  ((allNodes s).filter (fun n => n.2.1 == g && (match k with | some j => n.2.2.group == j | none => true))).map (·.1)
/-- Set the nodes of a graph or group to their cold initial states (R293). -/
def coldAll (g : Nat) (k : Option Nat) (s : State) : State := foldSt coldNode (nodesOf s g k) s

/-- Some entry of these nodes, or some output on its way to one of them, is for an instant before a boundary (R294). -/
def pendingBefore (s : State) (ids : List Nat) (u : Nat) : Bool :=
  s.grf.store.any (fun e => ids.contains e.node && !atOrAfter s e.node e.inst u)
    || s.grf.service.any (fun f => (ids.contains f.node || (consumersOf s 2 f.node).any (fun c => ids.contains c.1))
        && !atOrAfter s f.node f.inst u)

/-- A graph has come to OFF: no draining VF waits for it any more (15 R469). -/
def drainedGraph (g : Nat) (s : State) : State :=
  { s with vfn := { s.vfn with vfs := s.vfn.vfs.map (fun e => (e.1, { e.2 with drains := e.2.drains.filter (· != g) })) } }
/-- A draining graph whose last earlier entry has been consumed is OFF; a pending enable starts it cold (R293, R294). -/
def graphOff (g : Nat) (s : State) : State :=
  let x := graphSt s g
  if x.o.obj = .draining ∧ pendingBefore s (nodesOf s g none) x.drainTime = false then
    let (o, act) := objDrained x.o
    let s1 := evGraph g 3 0 (drainedGraph g (setGraph g { x with o := o, offDue := true, atBoundary := none } s))
    if act = .start then
      let y := graphSt s1 g
      coldAll g none (evStart 7 g (evGraph g 0 1 (setGraph g { y with atBoundary := some true, lateSkip := 0 } s1)))
    else s1
  else s
/-- The same for a node group (R295). -/
def groupOff (g k : Nat) (s : State) : State :=
  let x := graphSt s g
  if (groupSt x k).obj = .draining ∧ pendingBefore s (nodesOf s g (some k)) (tgetD x.groupDrain k 0) = false then
    let (o, act) := objDrained (groupSt x k)
    let s1 := evGroup g k 3 0 (setGraph g { x with groups := tset x.groups k o, groupAt := tdel x.groupAt k, groupsDue := dedupN (k :: x.groupsDue) } s)
    if act = .start then
      let y := graphSt s1 g
      coldAll g (some k) (evStart 7 (g * 64 + k) (evGroup g k 0 1 (setGraph g { y with groupAt := tset y.groupAt k true } s1)))
    else s1
  else s
/-- A graph holds a PROTECTION node (15 R460). -/
def graphProt (s : State) (g : Nat) : Bool :=
  match tget s.cfg.graphs g with | some e => e.2.nodes.any (·.prot) | none => false
/-- Graphs that a VF loaded. -/
def vfGraphs (s : State) (v : Nat) : List Nat := (s.cfg.graphs.filter (fun e => e.2.1 == v + 1)).map (·.1)
/-- ADMIT of a VF as a number (15 Table VFN-6). -/
def admitNum : Admit → Nat
  | .open_ => 0 | .quiescing => 1 | .quiesced => 2 | .resetting => 3
/-- Write the state of a VF. -/
def setVf (v : Nat) (x : VfSt) (s : State) : State := { s with vfn := { s.vfn with vfs := tset s.vfn.vfs v x } }
/-- Change a VF's state, with EV_VF_STATE (15 Table VFN-9). -/
def changeVf (v cause : Nat) (x : VfSt) (s : State) : State :=
  let old := vfSt s v
  recordEvent (evPkg 0x0C01 v (objNum old.o.obj + 256 * objNum x.o.obj + 65536 * admitNum old.admission + 16777216 * admitNum x.admission) cause v)
    (setVf v x s)
/-- A draining VF is OFF when the graphs that its drain disabled are; a pending enable starts it (09 R293, 15 R469, R476). -/
def vfOffCheck (v : Nat) (s : State) : State :=
  let x := vfSt s v
  if x.o.obj = .draining ∧ x.drains.all (fun g => (graphSt s g).o.obj == .off) = true then
    let (o, act) := objDrained x.o
    let s1 := changeVf v 0 { x with o := {}, admission := .open_, tol := 20, drains := [] } s
    if act = .start then changeVf v 0 { vfSt s1 v with o := o, grants := [0, 0, 0, 0] } (evStart 12 v s1) else s1
  else s
/-- Objects whose draining can end now reach OFF. -/
def drainEnds (s : State) : State :=
  let s1 := foldSt (fun e s => foldSt (fun k s => groupOff e.1 k s) (List.range e.2.2.ngroups) (graphOff e.1 s)) s.cfg.graphs s
  foldSt (fun e s => vfOffCheck e.1 s) s1.vfn.vfs s1

/-! ### Operands and dispatch -/

/-- The operands of an output group: chain outputs and detector outputs, keyed by the uncorrected instant (R279). -/
def groupOperands (s : State) (outs : List ChainOut) : List Operand :=
  outs.flatMap (fun o =>
    (consumersOf s 0 o.chain).map (fun c => ⟨c.1, o.inst, some (c.2.1, ⟨.s, o.value, o.qual⟩), true⟩) ++
    (match o.det with
     | some d => (consumersOf s 1 o.chain).map (fun c => ⟨c.1, o.inst, some (c.2.1, ⟨.s, d.1, d.2⟩), true⟩)
     | none => []))
/-- An operand that would create an entry. -/
def wantsEntry (s : State) (o : Operand) : Bool :=
  (findEntry s o.node o.inst).isNone && !(match (nodeSt s o.node).lastConsumed with | some k => decide (o.inst ≤ k) | none => false)
    && decide (fateOf s o.node o.inst ≠ .none)
/-- The region that has no room for a group's new entries (R285). -/
def refusedAt (s : State) (l : List Operand) : Option Nat :=
  ((l.filter (wantsEntry s)).map (fun o => operandRegion s o.node)).find? (fun r =>
    decide (readyCap ≤ (readyList s r).length ∨ partCap < occOf s r + 512))

/-- The head group of a stream's lane goes to the matching store, or is refused and stays (R282, R285). -/
def execMatchOperand (stream : Nat) (s : State) : Host.Outcome State Fault Refusal :=
  .next (let x := strSt s stream
    match x.lane with
    | [] => s
    | outs :: rest =>
      let l := groupOperands s outs
      match refusedAt s l with
      | some r => raiseCounting r 1 (spillOf s r) (evRegion 0x0707 (r / 4 + 256 * (r % 4)) 0 0 r r) (bump (.grf r 6) s)
      | none =>
        let s1 := deliverList l (setStr stream { x with lane := rest } s)
        drainEnds (match svCtx s1 stream with | some c => releaseNow stream c s1 | none => s1))

/-- The moment of R283 has come. -/
def graceDue (s : State) (id n : Nat) : Bool :=
  match nodeAt s id with
  | some (_, r) => decide (munits (timeOf s id n) + (r.budget + 12000000 : Nat) * two32 ≤ munits (now s))
  | none => false
/-- An entry still incomplete at T(n) + BUDGET + 12 ms is completed with invalid slots (R283). -/
def execGraceFill (node inst : Nat) (s : State) : Host.Outcome State Fault Refusal :=
  .next (match findEntry s node inst with
    | none => s
    | some e =>
      if e.ready ∨ graceDue s node inst = false then s
      else
        let kinds := match nodeAt s node with | some (_, r) => r.slots.map (·.kind) | none => []
        let e1 := { e with slots := (List.zip kinds e.slots).map (fun p =>
          if p.2.isSome then p.2 else some ⟨if p.1 ≤ 1 then .s else .i, 0, qDead⟩) }
        let s1 := bump (.grf (regionOf s node) 2) (modEntry node inst (fun _ => e1) s)
        let (s2, more) := becomeReady e1 s1
        drainEnds (deliverList more s2))

/-- Units of a cluster. -/
def clusterUnits : Nat := 8
/-- Firings in service in a cluster. -/
def busyUnits (s : State) (l : Loc) : Nat := (s.grf.service.filter (fun f => locOf s f.node == l)).length
/-- The firing that a free unit of a cluster takes (R288, 01 R26 to R29). -/
def nextFiring (s : State) (l : Loc) : Option Entry :=
  firstBy (dlBefore s) (s.grf.store.filter (fun e =>
    e.inList && locOf s e.node == l && !inService s e.node && earliest s e.node e.inst))
/-- The unit that takes a firing: one of the cluster's free units, which of them being open to the spec (log entry 113). -/
def pickUnit (l : Loc) (s : State) : Nat × State :=
  let busy := (s.grf.service.filter (fun f => locOf s f.node == l)).map (·.unit)
  let free := (List.range 8).filter (fun u => !busy.contains u)
  let (n, s1) := freeNat free.length s
  (nth free n 0, s1)
/-- Put a firing into service on a unit. -/
def startFiring (e : Entry) (s : State) : State :=
  let late := isLate s e.node e.inst
  let (unit, s0) := pickUnit (locOf s e.node) s
  let f : Firing := { node := e.node, inst := e.inst, ops := e.slots.filterMap id, late, unit, startRaw := s.tim.raw, result := none }
  let s1 := consume e s0
  let s2 := if late then noteLate e.node (bump (.grfNodeLate e.node) (bump (.grf (regionOf s e.node) 0) s1)) else s1
  { s2 with grf := { s2.grf with service := s2.grf.service ++ [f] } }
/-- A free value of an output's type. -/
def freeOut (v : Val) (q : Nat) (s : State) : Val × State :=
  let (n, s1) := freeNat (2 ^ 32) s
  match v.type with
  | .b => (⟨.b, (n % 2 : Nat), q⟩, s1)
  | .f => (let f := fflush (BitVec.ofNat 32 n); (⟨.f, if fbad f then 0 else fBits f, q⟩, s1))
  | k => (⟨k, sgn 32 n, q⟩, s1)
/-- Free outputs, all with one quality. -/
def freeOuts (q : Nat) : List Val → State → List Val × State
  | [], s => ([], s)
  | v :: l, s => let (a, s1) := freeOut v q s; let (b, s2) := freeOuts q l s1; (a :: b, s2)
/-- Outputs that are invalid with failure (01 R43): their values are open. -/
def failedOuts (id n : Nat) (late : Bool) (s : State) : List Val × State :=
  freeOuts (qPut 0x2041 14 late ||| bbit (holdAt s (timeOf s id n)) 15) (lastOuts s id) s
/-- The parameters of a firing's setting group. -/
def paramsFor (s : State) (id n : Nat) : List Nat :=
  match nodeAt s id with
  | some (g, r) => nth (paramsOf r) (groupFor s id n (graphSt s g)) []
  | none => []
/-- SIG_WRITE gives its signal a value (10 R337, 08 Table SIG-2); other operators write none. -/
def fireWrite (id n : Nat) (v : Val) (qual : Nat) (s : State) : State :=
  match nodeAt s id with
  | some (_, r) =>
    let sig := nth (paramsFor s id n) 0 0
    let t := timeOf s id n
    if r.operator ≠ 0x0A01 then s
    else match sigDef s sig with
      | some d => (match toSignal d.type t v with | some b => nodeWrite sig b qual t (cycleAt s id n + 2) s | none => s)
      | none => s
  | none => s
/-- What a failed firing gives its signal: its output, invalid with failure (01 R43). -/
def failedWrite (id n : Nat) (outs : List Val) (s : State) : State :=
  match outs with | o :: _ => fireWrite id n o o.qual s | [] => s
/-- A matching-store entry fails parity: the firing is discarded (01 Table ARC-3). -/
def discardParity (e : Entry) (s : State) : State × List Operand :=
  let (outs, s1) := failedOuts e.node e.inst (isLate s e.node e.inst) (parityError 1 1 (locOf s e.node) e.node s)
  emit e.node e.inst outs (consume e (failedWrite e.node e.inst outs s1))

/-- Give each free unit of a cluster its firing; `bad` when the first entry taken fails parity. -/
def dispatchGo (l : Loc) : Nat → Bool → State → State
  | 0, _, s => s
  | fuel + 1, bad, s =>
    if clusterUnits ≤ busyUnits s l then s
    else match nextFiring s l with
      | none => s
      | some e =>
        if bad then (let (s1, more) := discardParity e s; dispatchGo l fuel false (deliverList more s1))
        else if isLate s e.node e.inst && !mustRun s e.node then
          (let (s1, more) := discardSkip e s; dispatchGo l fuel false (deliverList more s1))
        else dispatchGo l fuel false (startFiring e s)
/-- A freed unit or a ready firing: the dispatcher of a cluster (R288). -/
def execDispatch (region cluster : Nat) (parityBad : Bool) (s : State) : Host.Outcome State Fault Refusal :=
  .next (drainEnds (dispatchGo ⟨region / 4, region % 4, cluster⟩ (s.grf.store.length + s.cfg.graphs.length + clusterUnits) parityBad s))

/-! ### A firing (01 R21, R22; 10 R315 to R321) -/

/-- The firing of a node that is in service. -/
def serviceOf (s : State) (id : Nat) : Option Firing := s.grf.service.find? (fun f => f.node == id)
/-- An F output that is an infinity or not a number takes the fallback value (10 R316). -/
def fixOut (cls : FClass) (last : Int) (o : VType × Int × Bool) : VType × Int × Bool × Bool :=
  if o.1 = .f ∧ fbad (bitsF o.2.1) = true then (.f, (if cls = .f then last else 0), true, true) else (o.1, o.2.1, o.2.2, false)
/-- The operands as they enter. -/
def entered (t : MTime) (row : OpRow) (ops : List Val) : List Val :=
  (List.zip (List.range ops.length) ops).map (fun p => enter t (row.slot p.1) p.2)
/-- Outputs of a fallback: zeros, but the last F outputs in class F (Table OPL-3). -/
def fallbackOuts (cls : FClass) (last : List Val) (outs : List (VType × Int × Bool)) : List (VType × Int × Bool × Bool) :=
  (List.zip (List.range outs.length) outs).map (fun p =>
    (p.2.1, if cls = .f ∧ p.2.1 = .f then (nth last p.1 ⟨.f, 0, 0⟩).bits else 0, true, false))
/-- Run an operator on a firing's operands: its outputs and its new state. -/
def operate (op : Nat) (row : OpRow) (fn : FireIn → FireOut) (prm : List Nat) (t : MTime) (late hold : Bool) (x : NodeSt)
    (ops : List Val) : List Val × OpSt :=
  let l := entered t row ops
  let raw := l.headD ⟨.i, 0, 0⟩
  let q := mergeQ (l.map (·.qual))
  let a : FireIn := { prm, x := l.map (·.bits), q, tns := mtimeNs t, t, st := x.op, raw,
                      alt := (fBits (toF t raw), toI raw, toB raw) }
  let r := fn a
  let falls := (l.any (fun v => qInvalid v.qual) && decide (row.cls ≠ .c)) || (decide (op = 0x0205) && freqLow a)
  let outs := if falls then fallbackOuts row.cls x.outs r.outs
    else (List.zip (List.range r.outs.length) r.outs).map (fun p => fixOut row.cls (nth x.outs p.1 ⟨.f, 0, 0⟩).bits p.2)
  let base := match r.own with
    | some own => if falls then outQual q late hold else qPut own 14 late ||| bbit hold 15
    | none => outQual (if falls then q else r.q) late hold
  let st := if falls then (match row.cls with
      | .z => {}
      | _ => if op = 0x0205 then { x.op with mark := true } else x.op)
    else r.st
  (outs.map (fun o => ⟨o.1, o.2.1,
    (let w := if o.2.2.1 then qVal base 1 else base; if o.2.2.2 then qSet w 2 else w)⟩), st)

/-- The unit runs the firing that a node has in service with its operator: outputs and new state await the commit. -/
def runFiring (op : Nat) (fn : FireIn → FireOut) (id : Nat) (s : State) : State :=
  match serviceOf s id, nodeAt s id, opRow op with
  | some f, some (_, r), some row =>
    if r.operator ≠ op ∨ f.result.isSome = true then s
    else
      let t := timeOf s id f.inst
      let prm := paramsFor s id f.inst
      let res := operate op row fn prm t f.late (holdAt s t) (nodeSt s id) f.ops
      { s with grf := { s.grf with service := s.grf.service.map (fun g => if g.node == id then { g with result := some res } else g) } }
  | _, _, _ => s

/-! ### Commit (01 R22, R23; 14 R436, R449) -/

/-- The page key of a node's state (14 R435). -/
def nodePage (id : Nat) : PageKey := ⟨0, id, 0⟩
/-- The node's state at the last boundary; its cold state where none was kept. -/
def checkpointOp (s : State) (id : Nat) : OpSt :=
  match tget s.pair.checkpoint (nodePage id) with | some (.node op) => op | _ => {}

/-- Time in firings as it is kept: a second of RAW, the ns used in it, and in the one before it. -/
abbrev BusyTime := Nat × Nat × Nat
/-- The record carried on to a second. -/
def busyAt (sec : Nat) (e : BusyTime) : BusyTime :=
  if e.1 = sec then e else if e.1 + 1 = sec then (sec, 0, e.2.1) else (sec, 0, 0)
/-- Add the time from one RAW to another, each second taking its own part. -/
def addSpan (from_ to_ : Nat) (e : BusyTime) : BusyTime :=
  let sec := to_ / rawSec 1
  let (_, a, b) := busyAt sec e
  let mine := 2 * (to_ - max from_ (rawSec sec))
  let before := if sec = 0 then 0 else 2 * (rawSec sec - max from_ (rawSec (sec - 1)))
  (sec, a + mine, b + before)
/-- The time from a dispatch counts for its function (R304) and its unit (R303). -/
def addBusy (func unit start : Nat) (s : State) : State :=
  { s with grf := { s.grf with
    funcBusy := tset s.grf.funcBusy func (addSpan start s.tim.raw (tgetD s.grf.funcBusy func (0, 0, 0)))
    unitBusy := tset s.grf.unitBusy unit (addSpan start s.tim.raw (tgetD s.grf.unitBusy unit (0, 0, 0))) } }
/-- The number of a firing's unit in the package. -/
def unitOf (s : State) (f : Firing) : Nat :=
  let l := locOf s f.node
  256 * l.die + 64 * l.region + 8 * l.cluster + f.unit
/-- What firings in service have used of the last completed second. -/
def servedBefore (s : State) (l : List Firing) : Nat :=
  let sec := s.tim.raw / rawSec 1
  if sec = 0 then 0 else sumN (l.map (fun f => 2 * (rawSec sec - max f.startRaw (rawSec (sec - 1)))))
/-- FXU time of a function in the last completed second. -/
def lastBusy (s : State) (func : Nat) : Nat :=
  (busyAt (s.tim.raw / rawSec 1) (tgetD s.grf.funcBusy func (0, 0, 0))).2.2
    + servedBefore s (s.grf.service.filter (fun f => match nodeAt s f.node with | some (g, _) => graphOwner s g == func | none => false))
/-- GRF_UNIT_BUSY: the share of the last completed second that a unit spent in firings, in 1/65,536 (R303). -/
def unitBusy (s : State) (unit : Nat) : Nat :=
  let ns := (busyAt (s.tim.raw / rawSec 1) (tgetD s.grf.unitBusy unit (0, 0, 0))).2.2
    + servedBefore s (s.grf.service.filter (fun f => unitOf s f == unit))
  min 65535 (65536 * ns / 1000000000)

/-- A deferred migration of a node is queued for its retry, after those that were requested or retried before (11 R349). -/
def retryMig (node : Nat) (s : State) : State :=
  let (mine, others) := s.plm.migs.partition (fun m => m.node == node && m.deferred)
  { s with plm := { s.plm with migs := others ++ mine.map (fun m => { m with deferred := false }) } }
/-- The unit is free, its time is counted, and the operands are retained (14 R436). -/
def leaveService (f : Firing) (s : State) : State :=
  let func := match nodeAt s f.node with | some (g, _) => graphOwner s g | none => 0
  let s1 := retryMig f.node (addBusy func (unitOf s f) f.startRaw s)
  { s1 with grf := { s1.grf with service := s1.grf.service.filter (fun g => !(g.node == f.node)),
                                 retained := s1.grf.retained ++ [(f.node, f.inst, f.ops, f.late, s.cycleNum)] } }
/-- Deliver the outputs of a firing that has ended. -/
def finish (f : Firing) (outs : List Val) (s : State) : State :=
  let (s1, l) := emit f.node f.inst outs s
  drainEnds (deliverList l s1)
/-- A firing that ended in a parity error: its outputs are invalid with failure. -/
def finishFailed (f : Firing) (s : State) : State :=
  let (outs, s1) := failedOuts f.node f.inst f.late s
  finish f outs (failedWrite f.node f.inst outs s1)
/-- SIG_WRITE's value, from the operand as it enters its operator. -/
def goodWrite (f : Firing) (outs : List Val) (s : State) : State :=
  match opRow 0x0A01, outs with
  | some row, o :: _ => (match entered (timeOf s f.node f.inst) row f.ops with | v :: _ => fireWrite f.node f.inst v o.qual s | [] => s)
  | _, _ => s
/-- The module is in STANDBY. -/
def isStandby (s : State) : Bool := decide (s.pair.state = .standby)
/-- A node's state has failed parity: the checkpoint takes its place, or, when that fails too, the partner's copy is asked
for; without a partner in STANDBY the node restarts cold (01 Table ARC-3, 14 R449). -/
def repairState (id : Nat) (both : Bool) (s : State) : State :=
  let x := nodeSt s id
  if isStandby s then s
  else if !both then setNode id { x with op := checkpointOp s id } s
  else if s.pair.state = .active ∧ partnerState s = 2 then leashSend (.pageReq ⟨0, id, 0⟩) (locOf s id).die id (setNode id { x with lost := true } s)
  else coldNode id s

/-- A firing completes: it commits its node state and delivers its outputs (01 R22, R23, R45). -/
def execFiringCommit (node : Nat) (parity : FiringParity) (s : State) : Host.Outcome State Fault Refusal :=
  .next (match serviceOf s node with
    | none => s
    | some f =>
      let bad := parityError 0 1 (locOf s node) node
      match parity with
      | .good => (match f.result with
        | none => s
        | some (outs, st) =>
          let x := nodeSt s node
          let s1 := leaveService f s
          if x.lost then finishFailed f s1
          else finish f outs (goodWrite f outs (noteWritten ⟨0, node, 0⟩
            (setNode node { x with op := st, outs := outs, outStamp := timeOf s node f.inst } s1))))
      | .buffer => finishFailed f (parityError 2 1 (locOf s node) node (leaveService f s))
      | .state => (let s1 := repairState node false (bad (leaveService f s))
                   if isStandby s then drainEnds s1 else finishFailed f s1)
      | .stateAndCheckpoint => (let s1 := repairState node true (bad (leaveService f s))
                                if isStandby s then drainEnds s1 else finishFailed f s1))

end Sys2Proof.Machine
end

