-- ==== Sys2Proof/Machine/Graphs.lean ====
section
/-! DEFINITION. Graphs, node groups, setting groups and scheduled actions (09 R274 to R277, R292 to R302), the commands of
the class, and the 45 operator firings (10). -/
namespace Sys2Proof.Machine

/-! ### Image checks (R275, Table GRF-4) -/

/-- Reason 1 for one record: its ranges, and its places inside the image. -/
def recordInside (g : GraphImage) (r : NodeRec) : Bool :=
  let last := g.imageLen - 96
  decide (r.group < g.ngroups ∧ 1000 ≤ r.budget ∧ r.budget ≤ 100000000 ∧ r.slots.length ≤ 16 ∧ 1 ≤ r.nout ∧ r.nout ≤ 8
    ∧ 1 ≤ r.cycleDiv ∧ r.cycleDiv ≤ 1024 ∧ r.stateLen ≤ 16384 ∧ r.slotOfs % 8 = 0)
    && (r.cycle || decide (0 < r.slots.length))
    && decide (r.slotOfs + 8 * r.slots.length ≤ last ∧ g.initOfs + r.initRel + r.stateLen ≤ last
      ∧ (paramsOf r).length = g.nsets) && (paramsOf r).all (fun p => decide (r.paramRel + 4 * p.length ≤ g.paramStride))
    && r.slots.all (fun sl => decide (sl.out ≤ 7) && (sl.kind == 2 || sl.out == 0))
/-- Reason 1: magic, format, length, and every offset and record inside the image. -/
def imageInside (len : Nat) (g : GraphImage) : Bool :=
  decide (g.magic = 0x4652475A ∧ g.format = 1 ∧ g.imageLen = len ∧ 352 ≤ len ∧ len ≤ 67108864)
    && decide (g.graph ≤ 511 ∧ 1 ≤ g.ngroups ∧ g.ngroups ≤ 64 ∧ 1 ≤ g.nsets ∧ g.nsets ≤ 8 ∧ g.nodeBase ≤ 32767
      ∧ 1 ≤ g.nodes.length ∧ g.nodes.length ≤ 32768)
    && decide (g.nodeOfs % 64 = 0 ∧ g.paramOfs % 8 = 0 ∧ g.paramStride % 8 = 0 ∧ g.initOfs % 8 = 0)
    && decide (64 ≤ g.nodeOfs ∧ g.nodeOfs + 64 * g.nodes.length ≤ len - 96 ∧ g.paramOfs + g.nsets * g.paramStride ≤ len - 96
      ∧ g.initOfs ≤ len - 96)
    && g.nodes.all (recordInside g)
/-- The firmware serves a library version (10 R306, R307). -/
def servesLib (v : Nat) : Bool := decide (v = 1 ∨ (1 ≤ v ∧ v ≤ Config.libVerMax))
/-- The first failing check of an image; 0 when it passes (Table GRF-4). -/
def imageReason (s : State) (len keySlot : Nat) (g : GraphImage) : Nat :=
  if !imageInside len g then 1
  else if !imageSigned (engineKey s keySlot 5 [3]) (graphBytes g) g.sign then 2
  else if Config.behaviourRev < g.minBrev then 3
  else if !servesLib g.libVer then 4
  else if !g.nodes.all nodeRecOk then 5
  else 0

/-! ### Ownership (R277, R302, 15 R460, R470) -/

/-- A function may act on a graph in force. -/
def mayAct (s : State) (func g : Nat) : Bool := func == 0 || graphOwner s g == func
/-- A graph is in force. -/
def graphExists (s : State) (g : Nat) : Bool := thas s.cfg.graphs g
/-- A graph of another function is named. -/
def deniedGraph (func g : Nat) (s : State) : Bool := graphExists s g && !mayAct s func g
/-- The function has lost the graph to PF custody: no command of it may name the graph (15 R470). -/
def lostToPf (func g : Nat) (s : State) : Bool :=
  func != 0 && (graphSt s g).custody && (match tget s.cfg.graphs g with | some e => e.1 == func | none => false)
/-- A graph that another function owns, in force or committed, is to be unloaded, or one in PF custody (R277, 15 R470). -/
def deniedUnload (func g : Nat) (s : State) : Bool :=
  lostToPf func g s || func != 0 && (match tget (candidate s func).graphs g with | some e => e.1 != func | none => false)
/-- Graphs after the latest commit and a function's staging area. -/
def stagedGraph (s : State) (func g : Nat) : Bool :=
  thas (candidate s func).graphs g

/-! ### Enable and disable (R292 to R295) -/

/-- The booking of an object and its state after an enable or disable: `at_` is the change booked for the next boundary. A
disable of an ON object is booked for the boundary, and an enable before it cancels it (R294). -/
def bookChange (en : Bool) (o : ObjSt) (at_ : Option Bool) : ObjSt × Option Bool × Nat × ObjAct :=
  if o.obj = .on then
    if en then (if at_ = some false then (o, none, stOk, .cancel) else (o, at_, stOk, .nothing))
    else (o, some false, stOk, .nothing)
  else
    let (o1, st, act) := objChange en o
    (o1, if act = .start then some true else at_, st, act)

/-- Enable or disable a graph. -/
def graphChange (g : Nat) (en : Bool) (jseq : Nat) (s : State) : Nat × State :=
  let x := graphSt s g
  let (o, at_, st, act) := bookChange en x.o x.atBoundary
  let s1 := setGraph g { x with o := o, atBoundary := at_ } s
  (st, match act with
    | .start => (let y := graphSt s1 g; coldAll g none (evGraph g 0 1 (setGraph g { y with lateSkip := 0 } s1)))
    | .cancel => evCancel 7 g jseq s1
    | _ => s1)
/-- Enable or disable a node group. -/
def groupChange (g k : Nat) (en : Bool) (jseq : Nat) (s : State) : Nat × State :=
  let x := graphSt s g
  let (o, at_, st, act) := bookChange en (groupSt x k) (tget x.groupAt k)
  let s1 := setGraph g { x with groups := tset x.groups k o,
                                groupAt := (match at_ with | some b => tset x.groupAt k b | none => tdel x.groupAt k) } s
  (st, match act with
    | .start => coldAll g (some k) (evGroup g k 0 1 s1)
    | .cancel => evCancel 7 (g * 64 + k) jseq s1
    | _ => s1)
/-- Enable or disable by TYPE and ID (Table GRF-11); ST_FAILED where the object does not exist. -/
def enableById (type id : Nat) (en : Bool) (jseq : Nat) (s : State) : Nat × State :=
  if type = 0 then (if graphExists s id then graphChange id en jseq s else (stFailed, s))
  else match tget s.cfg.graphs (id / 64) with
    | some e => if id % 64 < e.2.ngroups then groupChange (id / 64) (id % 64) en jseq s else (stFailed, s)
    | none => (stFailed, s)

/-! ### At the boundary (R294, R295, R297) -/

/-- The signals that nodes write (08 R241). -/
def writtenBy (s : State) (ids : List Nat) : List Nat :=
  dedupN ((allNodes s).flatMap (fun n => if ids.contains n.1 ∧ n.2.2.operator = 0x0A01 then (paramsOf n.2.2).map (fun p => nth p 0 0) else []))
/-- The boundary after nodes have reached OFF: their signals commit their last value as old, their direct members become old
(R294). -/
def oldOutputs (b : MTime) (ids : List Nat) (s : State) : State :=
  gpOffDirect ids (foldSt (fun i s => if (sigDef s i).isSome then
      (let r := writerRec s i; setRec i { r with qual := qPut (qClr (qOld r.qual) 14) 15 (holdAt s b), stamp := b } s)
    else s) (writtenBy s ids) s)
/-- The boundary after a graph or some of its groups have reached OFF (R294, R295). -/
def offBoundary (b : MTime) (g : Nat) (s : State) : State :=
  let x := graphSt s g
  let ids := if x.offDue then nodesOf s g none else x.groupsDue.flatMap (fun k => nodesOf s g (some k))
  if ids.isEmpty then s else oldOutputs b ids (setGraph g { x with offDue := false, groupsDue := [] } s)
/-- Drop the entries of nodes for instants at or after a drain boundary. -/
def dropFrom (ids : List Nat) (u : Nat) (s : State) : State :=
  { s with grf := { s.grf with store := s.grf.store.filter (fun e => !(ids.contains e.node && atOrAfter s e.node e.inst u)) } }
/-- A graph at a boundary of `u` cycle units: STARTING ends, a booked drain begins. -/
def graphStep (u g : Nat) (s : State) : State :=
  let x := graphSt s g
  match x.atBoundary with
  | some true =>
    let (o, act) := objStarted x.o
    let s1 := setGraph g { x with o := o, atBoundary := none, fromTime := u, drainTime := u } s
    if act = .drain then evGraph g 1 3 s1 else evGraph g 1 2 s1
  | some false =>
    dropFrom (nodesOf s g none) u
      (evGraph g 2 3 (setGraph g { x with o := { x.o with obj := .draining }, atBoundary := none, drainTime := u } s))
  | none => s
/-- A node group at a boundary. -/
def groupStep (u g k : Nat) (s : State) : State :=
  let x := graphSt s g
  match tget x.groupAt k with
  | some true =>
    let (o, act) := objStarted (groupSt x k)
    let s1 := setGraph g { x with groups := tset x.groups k o, groupAt := tdel x.groupAt k,
                                  groupFrom := tset x.groupFrom k u, groupDrain := tset x.groupDrain k u } s
    if act = .drain then evGroup g k 1 3 s1 else evGroup g k 1 2 s1
  | some false =>
    let o := groupSt x k
    evGroup g k 2 3 (setGraph g { x with groups := tset x.groups k { o with obj := .draining }, groupAt := tdel x.groupAt k,
                                         groupDrain := tset x.groupDrain k u } s)
  | none => s
/-- Selections of setting groups by commands of these functions go, since their commands have failed (02 R83). -/
def dropGroups (p : Nat → Bool) (s : State) : State :=
  foldSt (fun e s =>
    let s1 := setGraph e.1 { graphSt s e.1 with pendGroup := none } s
    { s1 with grf := { s1.grf with groupCmds := tdel s1.grf.groupCmds e.1 } }) (s.grf.groupCmds.filter (fun e => p e.2.func)) s
/-- Take a setting group into force at a boundary (R297). -/
def takeGroup (u g new : Nat) (s : State) : State :=
  let x := graphSt s g
  if new = x.setGroup then s
  else recordEvent (evPkg 0x0706 g (x.setGroup + 256 * new) 0 g)
    (setGraph g { x with setGroup := new, groupLog := ((u, new, x.setGroup) :: x.groupLog).take 256 } s)
/-- A setting group that was selected for the boundary. -/
def groupPending (u g : Nat) (s : State) : State :=
  let x := graphSt s g
  match x.pendGroup with
  | some n =>
    let ok := match tget s.cfg.graphs g with | some e => decide (n < e.2.nsets) | none => false
    let s0 := setGraph g { x with pendGroup := none } s
    let s1 := if ok then takeGroup u g n s0 else s0
    (match tget s1.grf.groupCmds g with
      | some b => completeCmd b.jseq (if ok then stOk else stFailed) 0
          { (if ok then noteAdmit (.command b.jseq 0x0743) s1 else s1) with grf := { s1.grf with groupCmds := tdel s1.grf.groupCmds g } }
      | none => s1)
  | none => s
/-- Every graph at a boundary. -/
def graphsBoundary (u : Nat) (s : State) : State :=
  drainEnds (foldSt (fun e s =>
    let s1 := foldSt (groupStep u e.1) (List.range e.2.2.ngroups) (graphStep u e.1 s)
    groupPending u e.1 s1) s.cfg.graphs s)
/-- The old records and members of graphs that have reached OFF. -/
def graphsOff (b : MTime) (s : State) : State := foldSt (fun e s => offBoundary b e.1 s) s.cfg.graphs s

/-- The operands and triggers of an opening cycle: signal slots of waiting entries (R280), and CYCLE nodes (R278). -/
def cycleOperands (num : Nat) (s : State) : State :=
  let s1 := { s with grf := { s.grf with store := s.grf.store.map (fun e => if e.ready then e else fillSignals s e) } }
  let fulls := (s1.grf.store.filter (fun e => full e && !e.ready)).map (fun e => (⟨e.node, e.inst, none, false⟩ : Operand))
  let cyc := ((allNodes s1).filter (fun n => n.2.2.cycle && num % max 1 n.2.2.cycleDiv == 0)).map
    (fun n => (⟨n.1, num, none, false⟩ : Operand))
  drainEnds (deliverList (fulls ++ cyc) s1)
/-- Operands of firings and scans retained for the two most recent cycles (14 R436). -/
def pruneRetained (num : Nat) (s : State) : State :=
  { s with grf := { s.grf with retained := s.grf.retained.filter (fun r => decide (num ≤ r.2.2.2.2 + 2)) },
           lgc := { s.lgc with kept := s.lgc.kept.filter (fun k => decide (num ≤ k.cycle + 2)) } }

/-! ### The schedule (R298 to R302) -/

/-- Entries of the schedule table. -/
def schedCap : Nat := 1024
/-- An action in its ranges (Table GRF-7). -/
def actionOk (p : SchedParams) : Bool :=
  match p.action with
  | 0 => decide (p.target ≤ 511 ∧ p.arg0 ≤ 7)
  | 1 => decide (p.target / 65536 ≤ 1 ∧ p.arg0 ≤ 1) && (p.target / 65536 == 1 && decide (p.target % 65536 ≤ 32767)
      || p.target / 65536 == 0 && decide (p.target ≤ 511))
  | 2 => decide (p.target = 0)
  | 3 => decide (p.target ≤ 63 ∧ p.arg0 ≤ 2)
  | 4 => decide (p.arg0 ≤ 1)
  | 5 => decide (p.target = 0 ∧ p.arg0 ≤ 1)
  | _ => false
/-- The graph that an action names. -/
def actionGraph (action target : Nat) : Nat := if action = 1 ∧ target / 65536 = 1 then target % 65536 / 64 else target % 65536
/-- The object of a graph action exists (R304). -/
def actionNames (s : State) (action target : Nat) : Bool :=
  match action with
  | 0 => graphExists s target
  | 1 => (match tget s.cfg.graphs (actionGraph action target) with
      | some e => decide (target / 65536 = 0 ∨ target % 64 < e.2.ngroups)
      | none => false)
  | _ => true
/-- The lowest handle that is free. -/
def freeHandle (s : State) : Option Nat := firstFrom (fun h => !thas s.grf.sched h) schedCap 0
/-- AT is earlier than the module time at acceptance plus 10 µs (R300). -/
def atPast (s : State) (sec ns : Nat) : Bool := mlt (secNs sec ns) (mtimeOfUnits (munits (now s) + 10000 * two32))
/-- Module time minus AT, ns, signed. -/
def lateness (s : State) (sec ns : Nat) : Int := (mtimeNs (now s) : Int) - (mtimeNs (secNs sec ns) : Int)

/-- SCHEDULE books an action; a HEEL becomes the pending heel (R298 to R300). -/
def schedulePacket (h : Hdr) (p : SchedParams) : Packet :=
  { h, opcode := 0x0741, pfOnly := false,
    unsupported := fun s => p.action == 4 && !hasPort s p.target,
    denied := fun s => (decide (p.action ≠ 4) && pairFollows s) || (h.func != 0 && (decide (1 < p.action)
      || deniedGraph h.func (actionGraph p.action p.target) s)),
    eff := fun j s =>
      if p.action = 5 then
        (let (st, res, s1) := bookHeel (actionOk p) p.atSec p.atNs (p.arg0 == 1) h.strict 2 s
         .done st (if st = stOk then 0xFFFF else res) s1)
      else match freeHandle s with
        | none => failRes stQueueFull s
        | some n =>
          if s.pwr.restored = false then failRes stBusy s
          else if atPast s p.atSec p.atNs = true ∧ h.strict = true then failRes stPast s
          else if 1000000000 ≤ p.atNs ∨ actionOk p = false ∨ actionNames s p.action p.target = false then failRes stFailed s
          else
          let e : SchedEntry := ⟨p.atSec, p.atNs, p.action, p.target, p.arg0, p.arg1, h.strict, j, h.func, atPast s p.atSec p.atNs, now s⟩
          let s1 := { s with grf := { s.grf with sched := tset s.grf.sched n e } }
          if atPast s p.atSec p.atNs then .done stLate (resB 0 (twos 64 (lateness s p.atSec p.atNs))) s1
          else .done stOk (resB 0 n) s1 }
/-- SCHEDULE. -/
def execSchedule (h : Hdr) (p : SchedParams) (s : State) : Host.Outcome State Fault Refusal :=
  .next (submit (.schedule h p) (schedulePacket h p) s)

/-- SCHEDULE_CANCEL removes a booked action or the pending heel (R302). -/
def scheduleCancelPacket (h : Hdr) (handle : Nat) : Packet :=
  { h, opcode := 0x0742, pfOnly := false,
    denied := fun s => pairFollows s || (h.func != 0 && (handle == 0xFFFF || (match tget s.grf.sched handle with
      | some e => e.func != h.func
      | none => false))),
    eff := fun _ s =>
      if handle = 0xFFFF then
        (if s.flt.pending.isSome then okRes { s with flt := { s.flt with pending := none } } else failRes stFailed s)
      else if thas s.grf.sched handle then okRes { s with grf := { s.grf with sched := tdel s.grf.sched handle } }
      else failRes stFailed s }
/-- SCHEDULE_CANCEL. -/
def execScheduleCancel (h : Hdr) (handle : Nat) (s : State) : Host.Outcome State Fault Refusal :=
  .next (submit (.scheduleCancel h handle) (scheduleCancelPacket h handle) s)

/-- SCHEDULE_READ (Table GRF-10, R299). -/
def scheduleReadPacket (h : Hdr) (handle : Nat) : Packet :=
  { h, opcode := 0x0781, pfOnly := false,
    eff := fun _ s =>
      if handle = 0xFFFF then
        (match s.flt.pending with
         | some p => .done stOk (resB 0 (p.sec % 2 ^ 64) ||| resB 8 p.ns ||| resB 12 5 ||| resB 13 1) s
         | none => .done stOk (resB 12 5) s)
      else if schedCap ≤ handle then failRes stFailed s
      else match tget s.grf.sched handle with
        | some e => .done stOk (resB 0 (e.sec % 2 ^ 64) ||| resB 8 e.ns ||| resB 12 e.action ||| resB 13 1) s
        | none => .done stOk 0 s }
/-- SCHEDULE_READ. -/
def execScheduleRead (h : Hdr) (handle : Nat) (s : State) : Host.Outcome State Fault Refusal :=
  .next (submit (.scheduleRead h handle) (scheduleReadPacket h handle) s)

/-! ### Commands (R304) -/

/-- The function's staging area without a staged load of a graph, which a load replaces (R277). -/
def withoutLoad (func graph : Nat) (s : State) : State :=
  { s with cmd := { s.cmd with staging := tset s.cmd.staging func ((staged s func).filter (fun x => match x.setting with
    | .graphLoad _ g => g.graph != graph
    | _ => true)) } }
/-- GRF_GRAPH_LOAD checks and stages an image (R275, R277; 15 R460). -/
def grfGraphLoadPacket (h : Hdr) (image : ImageAt) (keySlot : Nat) (img : GraphImage) : Packet :=
  { h, opcode := 0x0700, pfOnly := false, busyBefore := true, noRoom := fun s => noStageRoom h.func (withoutLoad h.func img.graph s), outBytes := image.len, isLoad := true, needsKey := fun _ => true,
    denied := fun s => lostToPf h.func img.graph s || h.func != 0 && img.nodes.any (·.prot) && tgetD s.cfg.vfProt (h.func - 1) 0 == 0,
    eff := fun j s =>
      if 255 < keySlot ∨ image.addr % 64 ≠ 0 then failRes stFailed s
      else
        let r := imageReason s image.len keySlot img
        if r ≠ 0 then .done stFailed (resB 0 r) s
        else if (graphWrites img).any (writeClash (applySetting (candidate s h.func) ⟨j, 0x0700, 0, .graphLoad h.func img⟩)) then
          failRes stFailed s
        else
          stageRes h j 0x0700 (.graphLoad h.func img) (withoutLoad h.func img.graph s) }
/-- GRF_GRAPH_LOAD. -/
def execGrfGraphLoad (h : Hdr) (image : ImageAt) (keySlot : Nat) (img : GraphImage) (s : State) : Host.Outcome State Fault Refusal :=
  .next (submit (.grfGraphLoad h image keySlot img) (grfGraphLoadPacket h image keySlot img) s)

/-- GRF_GRAPH_UNLOAD stages the removal of a graph. -/
def grfGraphUnloadPacket (h : Hdr) (graph : Nat) : Packet :=
  { configPacket h 0x0701 (fun s => decide (graph ≤ 511) && stagedGraph s h.func graph) (.graphUnload graph) with
    pfOnly := false, denied := deniedUnload h.func graph }
/-- GRF_GRAPH_UNLOAD. -/
def execGrfGraphUnload (h : Hdr) (graph : Nat) (s : State) : Host.Outcome State Fault Refusal :=
  .next (submit (.grfGraphUnload h graph) (grfGraphUnloadPacket h graph) s)

/-- GRF_ENABLE (R294 to R296). -/
def grfEnablePacket (h : Hdr) (type enable id : Nat) : Packet :=
  { h, opcode := 0x0740, pfOnly := false, busyBefore := true,
    denied := fun s => pairFollows s || deniedGraph h.func (if type = 0 then id else id / 64) s,
    eff := fun j s =>
      if 1 < type ∨ 1 < enable then failRes stFailed s
      else let (st, s1) := enableById type id (enable == 1) j s; .done st 0 s1 }
/-- GRF_ENABLE. -/
def execGrfEnable (h : Hdr) (type enable id : Nat) (s : State) : Host.Outcome State Fault Refusal :=
  .next (submit (.grfEnable h type enable id) (grfEnablePacket h type enable id) s)

/-- A setting group is selected for the next boundary, and its command waits for it. -/
def bookGroup (graph group : Nat) (b : StepBook) (s : State) : State :=
  let s1 := setGraph graph { graphSt s graph with pendGroup := some group } s
  { s1 with grf := { s1.grf with groupCmds := tset s1.grf.groupCmds graph b } }
/-- GRF_SETTING_GROUP completes at the boundary at which its group takes force (R297, 15 Table VFN-5; log entry 57). -/
def grfSettingGroupPacket (h : Hdr) (graph group : Nat) : Packet :=
  { h, opcode := 0x0743, pfOnly := false, busyBefore := true,
    denied := fun s => pairFollows s || deniedGraph h.func graph s,
    eff := fun j s =>
      if thas s.grf.groupCmds graph then failRes stBusy s
      else match tget s.cfg.graphs graph with
        | none => failRes stFailed s
        | some e => if e.2.nsets ≤ group then failRes stFailed s
            else .wait (bookGroup graph group ⟨0, h.func, h.qp, j⟩ s) }
/-- GRF_SETTING_GROUP. -/
def execGrfSettingGroup (h : Hdr) (graph group : Nat) (s : State) : Host.Outcome State Fault Refusal :=
  .next (submit (.grfSettingGroup h graph group) (grfSettingGroupPacket h graph group) s)

/-- GRF_GRAPH_READ. -/
def grfGraphReadPacket (h : Hdr) (graph : Nat) : Packet :=
  { h, opcode := 0x0780, pfOnly := false, denied := lostToPf h.func graph,
    eff := fun _ s => match tget s.cfg.graphs graph with
      | none => failRes stFailed s
      | some e =>
        let x := graphSt s graph
        .done stOk (resB 0 (objNum x.o.obj) ||| resB 1 x.setGroup ||| resB 2 e.2.nodes.length ||| resB 4 (e.2.libVer % 2 ^ 32)
          ||| resB 8 (x.lateSkip % 2 ^ 64)) s }
/-- GRF_GRAPH_READ. -/
def execGrfGraphRead (h : Hdr) (graph : Nat) (s : State) : Host.Outcome State Fault Refusal :=
  .next (submit (.grfGraphRead h graph) (grfGraphReadPacket h graph) s)

/-- Ready firings of a function. -/
def readyOf (s : State) (func : Nat) : Nat :=
  (s.grf.store.filter (fun e => e.ready && (match nodeAt s e.node with
    | some (g, _) => graphOwner s g == func
    | none => false))).length
/-- A function number names a VF that the variant lacks (15 R457). -/
def funcUnsupported (func : Nat) (s : State) : Bool := decide (Config.vfs s.variant < func)
/-- GRF_SHARE_READ. -/
def grfShareReadPacket (h : Hdr) (func : Nat) : Packet :=
  { h, opcode := 0x0782, pfOnly := true, unsupported := funcUnsupported func,
    eff := fun _ s =>
      if funcBusy func s then failRes stBusy s
      else if funcExists s func then
        .done stOk (resB 0 (lastBusy s func % 2 ^ 64) ||| resB 8 (entriesOf s func) ||| resB 12 (readyOf s func)) s
      else failRes stFailed s }
/-- GRF_SHARE_READ. -/
def execGrfShareRead (h : Hdr) (func : Nat) (s : State) : Host.Outcome State Fault Refusal :=
  .next (submit (.grfShareRead h func) (grfShareReadPacket h func) s)

/-! ### Operator firings (10 Tables OPL-4 to OPL-12) -/

/-- A firing of DFT_FULL. -/
def execDftFull (node : Nat) (s : State) : Host.Outcome State Fault Refusal :=
  .next (runFiring 0x0100 opDftFull node s)
/-- A firing of DFT_HALF. -/
def execDftHalf (node : Nat) (s : State) : Host.Outcome State Fault Refusal :=
  .next (runFiring 0x0101 opDftHalf node s)
/-- A firing of COSINE. -/
def execCosine (node : Nat) (s : State) : Host.Outcome State Fault Refusal :=
  .next (runFiring 0x0102 opCosine node s)
/-- A firing of SEQ. -/
def execSeq (node : Nat) (s : State) : Host.Outcome State Fault Refusal :=
  .next (runFiring 0x0200 opSeq node s)
/-- A firing of MAG. -/
def execMag (node : Nat) (s : State) : Host.Outcome State Fault Refusal :=
  .next (runFiring 0x0201 opMag node s)
/-- A firing of MAGANG. -/
def execMagang (node : Nat) (s : State) : Host.Outcome State Fault Refusal :=
  .next (runFiring 0x0202 opMagang node s)
/-- A firing of PQS3. -/
def execPqs3 (node : Nat) (s : State) : Host.Outcome State Fault Refusal :=
  .next (runFiring 0x0203 opPqs3 node s)
/-- A firing of PQS1. -/
def execPqs1 (node : Nat) (s : State) : Host.Outcome State Fault Refusal :=
  .next (runFiring 0x0204 opPqs1 node s)
/-- A firing of FREQ. -/
def execFreq (node : Nat) (s : State) : Host.Outcome State Fault Refusal :=
  .next (runFiring 0x0205 opFreq node s)
/-- A firing of ANGDIFF. -/
def execAngdiff (node : Nat) (s : State) : Host.Outcome State Fault Refusal :=
  .next (runFiring 0x0206 opAngdiff node s)
/-- A firing of PH_SUM. -/
def execPhSum (node : Nat) (s : State) : Host.Outcome State Fault Refusal :=
  .next (runFiring 0x0207 opPhSum node s)
/-- A firing of IMP_PE. -/
def execImpPe (node : Nat) (s : State) : Host.Outcome State Fault Refusal :=
  .next (runFiring 0x0300 opImpPe node s)
/-- A firing of IMP_PP. -/
def execImpPp (node : Nat) (s : State) : Host.Outcome State Fault Refusal :=
  .next (runFiring 0x0301 opImpPp node s)
/-- A firing of MHO. -/
def execMho (node : Nat) (s : State) : Host.Outcome State Fault Refusal :=
  .next (runFiring 0x0302 opMho node s)
/-- A firing of QUAD. -/
def execQuad (node : Nat) (s : State) : Host.Outcome State Fault Refusal :=
  .next (runFiring 0x0303 opQuad node s)
/-- A firing of DIR. -/
def execDir (node : Nat) (s : State) : Host.Outcome State Fault Refusal :=
  .next (runFiring 0x0304 opDir node s)
/-- A firing of DIFF_BIAS. -/
def execDiffBias (node : Nat) (s : State) : Host.Outcome State Fault Refusal :=
  .next (runFiring 0x0400 opDiffBias node s)
/-- A firing of HARM_RATIO. -/
def execHarmRatio (node : Nat) (s : State) : Host.Outcome State Fault Refusal :=
  .next (runFiring 0x0401 opHarmRatio node s)
/-- A firing of IDMT. -/
def execIdmt (node : Nat) (s : State) : Host.Outcome State Fault Refusal :=
  .next (runFiring 0x0500 opIdmt node s)
/-- A firing of DEFT. -/
def execDeft (node : Nat) (s : State) : Host.Outcome State Fault Refusal :=
  .next (runFiring 0x0501 opDeft node s)
/-- A firing of UV. -/
def execUv (node : Nat) (s : State) : Host.Outcome State Fault Refusal :=
  .next (runFiring 0x0600 opUv node s)
/-- A firing of OV. -/
def execOv (node : Nat) (s : State) : Host.Outcome State Fault Refusal :=
  .next (runFiring 0x0601 opOv node s)
/-- A firing of BF_CHECK. -/
def execBfCheck (node : Nat) (s : State) : Host.Outcome State Fault Refusal :=
  .next (runFiring 0x0602 opBfCheck node s)
/-- A firing of FREQ_PROT. -/
def execFreqProt (node : Nat) (s : State) : Host.Outcome State Fault Refusal :=
  .next (runFiring 0x0603 opFreqProt node s)
/-- A firing of DC_DIDT. -/
def execDcDidt (node : Nat) (s : State) : Host.Outcome State Fault Refusal :=
  .next (runFiring 0x0700 opDcDidt node s)
/-- A firing of DC_OC. -/
def execDcOc (node : Nat) (s : State) : Host.Outcome State Fault Refusal :=
  .next (runFiring 0x0701 opDcOc node s)
/-- A firing of STRING_IMB. -/
def execStringImb (node : Nat) (s : State) : Host.Outcome State Fault Refusal :=
  .next (runFiring 0x0702 opStringImb node s)
/-- A firing of TIMER_PD. -/
def execTimerPd (node : Nat) (s : State) : Host.Outcome State Fault Refusal :=
  .next (runFiring 0x0800 opTimerPd node s)
/-- A firing of PULSE. -/
def execPulse (node : Nat) (s : State) : Host.Outcome State Fault Refusal :=
  .next (runFiring 0x0801 opPulse node s)
/-- A firing of CMP_HYST. -/
def execCmpHyst (node : Nat) (s : State) : Host.Outcome State Fault Refusal :=
  .next (runFiring 0x0802 opCmpHyst node s)
/-- A firing of BOOL_COMB. -/
def execBoolComb (node : Nat) (s : State) : Host.Outcome State Fault Refusal :=
  .next (runFiring 0x0803 opBoolComb node s)
/-- A firing of LATCH. -/
def execLatch (node : Nat) (s : State) : Host.Outcome State Fault Refusal :=
  .next (runFiring 0x0804 opLatch node s)
/-- A firing of EDGE. -/
def execEdge (node : Nat) (s : State) : Host.Outcome State Fault Refusal :=
  .next (runFiring 0x0805 opEdge node s)
/-- A firing of COUNT. -/
def execCount (node : Nat) (s : State) : Host.Outcome State Fault Refusal :=
  .next (runFiring 0x0806 opCount node s)
/-- A firing of SCALE. -/
def execScale (node : Nat) (s : State) : Host.Outcome State Fault Refusal :=
  .next (runFiring 0x0900 opScale node s)
/-- A firing of ARITH. -/
def execArith (node : Nat) (s : State) : Host.Outcome State Fault Refusal :=
  .next (runFiring 0x0901 opArith node s)
/-- A firing of SUMW. -/
def execSumw (node : Nat) (s : State) : Host.Outcome State Fault Refusal :=
  .next (runFiring 0x0902 opSumw node s)
/-- A firing of MINMAX. -/
def execMinmax (node : Nat) (s : State) : Host.Outcome State Fault Refusal :=
  .next (runFiring 0x0903 opMinmax node s)
/-- A firing of LIMIT. -/
def execLimit (node : Nat) (s : State) : Host.Outcome State Fault Refusal :=
  .next (runFiring 0x0904 opLimit node s)
/-- A firing of ABSF. -/
def execAbsf (node : Nat) (s : State) : Host.Outcome State Fault Refusal :=
  .next (runFiring 0x0905 opAbsf node s)
/-- A firing of SELECT. -/
def execSelect (node : Nat) (s : State) : Host.Outcome State Fault Refusal :=
  .next (runFiring 0x0906 opSelect node s)
/-- A firing of MOVAVG. -/
def execMovavg (node : Nat) (s : State) : Host.Outcome State Fault Refusal :=
  .next (runFiring 0x0907 opMovavg node s)
/-- A firing of DELAYK. -/
def execDelayk (node : Nat) (s : State) : Host.Outcome State Fault Refusal :=
  .next (runFiring 0x0908 opDelayk node s)
/-- A firing of SIG_READ_NODE. -/
def execSigReadNode (node : Nat) (s : State) : Host.Outcome State Fault Refusal :=
  .next (runFiring 0x0A00 opSigRead node s)
/-- A firing of SIG_WRITE_NODE. -/
def execSigWriteNode (node : Nat) (s : State) : Host.Outcome State Fault Refusal :=
  .next (runFiring 0x0A01 opSigWrite node s)

end Sys2Proof.Machine
end

