-- ==== Sys2Proof/Machine/Logic.lean ====
section
/-! DEFINITION. Scheme logic (12): the processor and its instructions, scans, timers, counters and edges, what happens to
tasks at a boundary, load checks, on-line change, restart, and the commands of the class. -/
namespace Sys2Proof.Machine

/-! ### Tasks -/

/-- The image of a task in force. -/
def taskImg (s : State) (t : Nat) : Option LogicImage := tget s.cfg.tasks t
/-- The state of a task. -/
def taskSt (s : State) (t : Nat) : TaskSt := tgetD s.lgc.tasks t {}
/-- Write the state of a task. -/
def setTask (t : Nat) (x : TaskSt) (s : State) : State := { s with lgc := { s.lgc with tasks := tset s.lgc.tasks t x } }
/-- The processor of a task: 4 × die + region (R351). -/
def procOf (s : State) (t : Nat) : Nat := let l := tgetD s.plm.taskLoc t ⟨0, 0, 0⟩; 4 * l.die + l.region
/-- An event about a task. -/
def evTask (s : State) (t code p1 p2 p3 : Nat) : Event := evRegion code p1 p2 p3 (procOf s t) t
/-- Signals that a task declares. -/
def declared (s : State) (t : Nat) : List Nat := match taskImg s t with | some g => g.decls.map (·.id) | none => []
/-- MODE as a number (R379). -/
def modeNum : LMode → Nat
  | .run => 0 | .stop => 1 | .hold => 2
/-- The mode of a number. -/
def lmodeOf (n : Nat) : LMode := if n = 1 then .stop else if n = 2 then .hold else .run

/-- The tables of a task as STARTING loads them, with its overrides: all primed (R368, R379, R389). -/
def freshTables (g : LogicImage) (ov : Tbl (Nat × Nat) (BitVec 128)) : LTables :=
  { timers := (List.zip (List.range g.timers.length) g.timers).map (fun p =>
      { pt := (match tget ov (1, p.1) with | some v => v.toNat | none => p.2.pt), evcomp := p.2.evcomp }),
    counters := (List.zip (List.range g.counters.length) g.counters).map (fun p =>
      { pv := (match tget ov (2, p.1) with | some v => sgn 32 v.toNat | none => p.2.pv), retain := p.2.retain }),
    edges := List.replicate g.nedge {} }

/-! ### Instructions (Table LGC-3, R363 to R373) -/

/-- The record that a scan reads (R365). -/
def scanRec (s : State) (sc : Scan) (sig : Nat) : SigRec :=
  match tget sc.image sig with
  | some r => r
  | none => recAt s sig sc.cycle
/-- v(s). -/
def scanBit (s : State) (sc : Scan) (sig : Nat) : Bool := (scanRec s sc sig).value.getLsbD 0
/-- TYPE of a signal. -/
def sigType (s : State) (sig : Nat) : Nat := match sigDef s sig with | some d => d.type | none => 0
/-- A value as WACC takes it: INT32 sign-extended, FLOAT32 tagged FLOAT (R364). -/
def waccOf (type : Nat) (v : BitVec 128) : Wacc :=
  match type with
  | 1 => ⟨BitVec.ofInt 64 (sgn 32 v.toNat), false⟩
  | 3 => ⟨BitVec.ofNat 64 (v.toNat % 2 ^ 32), true⟩
  | _ => ⟨BitVec.ofNat 64 v.toNat, false⟩
/-- The word that a signal holds. -/
def sigWord (s : State) (sc : Scan) (sig : Nat) : Wacc := waccOf (sigType s sig) (scanRec s sc sig).value
/-- A constant of a task: its value, overridden or not, and its TYPE. -/
def constOf (s : State) (t k : Nat) : Nat × BitVec 128 :=
  match taskImg s t with
  | none => (0, 0)
  | some g =>
    let c := nth g.consts k ⟨0, 0⟩
    (c.type, match tget (taskSt s t).overrides (0, k) with | some v => v | none => c.value.zeroExtend 128)

/-- A binary32 comparison without flushing (R364). -/
def fcmp (a b : BitVec 64) : Option Bool × Option Bool :=
  let u (x : BitVec 64) := funpack ⟨24, 8, false⟩ (x.toNat % 2 ^ 32)
  (fltV (u a) (u b), fltV (u b) (u a))
/-- A comparison by its place among =, ≠, >, ≥, <, ≤. -/
def wcmp (k : Nat) (a b : Wacc) : Bool :=
  let by_ (lt gt : Bool) : Bool := match k with
    | 0 => !lt && !gt | 1 => lt || gt | 2 => gt | 3 => !lt | 4 => lt | _ => !gt
  if a.float then
    match fcmp a.bits b.bits with
    | (some lt, some gt) => by_ lt gt
    | _ => k == 1
  else by_ (decide (a.bits.toInt < b.bits.toInt)) (decide (b.bits.toInt < a.bits.toInt))

/-- Write a signal in the working image, with the QUAL and stamp of R366. -/
def scanWrite (s : State) (sig : Nat) (v : BitVec 128) (sc : Scan) : Scan :=
  { sc with image := tset sc.image sig ⟨v, 0x2000 ||| bbit (holdAt s sc.stamp) 15, sc.stamp⟩,
            written := if sc.written.contains sig then sc.written else sc.written ++ [sig] }
/-- Write a bit. -/
def scanPut (s : State) (sig : Nat) (b : Bool) (sc : Scan) : Scan := scanWrite s sig (BitVec.ofInt 128 (b01 b)) sc
/-- WACC as a signal of a TYPE takes it (R364). -/
def waccTo (type : Nat) (w : Wacc) : BitVec 128 :=
  match type with
  | 1 => BitVec.ofNat 128 (twos 32 (satS32 w.bits.toInt))
  | 3 => BitVec.ofNat 128 (w.bits.toNat % 2 ^ 32)
  | _ => w.bits.zeroExtend 128

/-- Combine two bits by a stored operation: 0 AND, 1 OR, 2 XOR. -/
def combine (op : Nat) (a b : Bool) : Bool := match op with | 0 => a && b | 1 => a || b | _ => xor a b
/-- Push a branch and load its operand (R367). -/
def pushBranch (s : State) (op sig : Nat) (neg : Bool) (sc : Scan) : Scan :=
  { sc with stack := (sc.acc, op) :: sc.stack, acc := xor neg (scanBit s sc sig), lstamp := some (scanRec s sc sig).stamp }

/-- ET of a timer (R371). -/
def timerEt (lt : Nat) (t : LTimer) : Nat :=
  match t.start with
  | some st => min ((lt : Int) - st).toNat t.pt
  | none => 0
/-- C of R372, in µs. -/
def evComp (sc : Scan) (t : LTimer) : Nat :=
  if t.evcomp then
    match sc.lstamp with
    | some l => min ((munits sc.stamp - munits l) / (1000 * two32)).toNat t.pt
    | none => 0
  else 0
/-- A timer starts at LT less C. -/
def timerStart (lt c : Nat) (t : LTimer) : LTimer := { t with start := some ((lt : Int) - c), running := true }
/-- TON (Table LGC-4). -/
def timerTon (lt c : Nat) (i : Bool) (t : LTimer) : LTimer :=
  if i then
    let t1 := if t.running then t else timerStart lt c t
    { t1 with q := decide (t.pt ≤ timerEt lt t1), primed := false, prev := i }
  else { t with running := false, start := none, q := false, primed := false, prev := i }
/-- TOF (Table LGC-4). -/
def timerTof (lt c : Nat) (i : Bool) (t : LTimer) : LTimer :=
  if i then { t with running := false, start := none, q := true, primed := false, prev := i }
  else
    let t1 := if t.q && !t.running then timerStart lt c t else t
    if t1.running then
      let q := decide (timerEt lt t1 < t.pt)
      { t1 with q := q, running := q, primed := false, prev := i }
    else { t1 with primed := false, prev := i }
/-- TP (Table LGC-4). -/
def timerTp (lt c : Nat) (i : Bool) (t : LTimer) : LTimer :=
  let rise := i && !t.prev && !t.primed
  let t1 := if rise && !t.running then timerStart lt c t else t
  let past := decide (t.pt ≤ timerEt lt t1)
  { t1 with q := t1.running && !past, running := t1.running && !(past && !i), primed := false, prev := i }
/-- A timer stopped with Q 0. -/
def timerStop (t : LTimer) : LTimer := { t with running := false, start := none, q := false }

/-- A counter takes an edge of ACC (R368, R373). -/
def counterEdge (up i : Bool) (c : LCounter) : LCounter :=
  let cv := if i && !c.prev && !c.primed then satS32 (if up then c.cv + 1 else c.cv - 1) else c.cv
  { c with cv := cv, prev := i, primed := false }
/-- An edge memory takes ACC; the flag is Q (R368). -/
def edgeTake (rising i : Bool) (e : LEdge) : LEdge × Bool :=
  (⟨i, false⟩, !e.primed && (if rising then i && !e.m else !i && e.m))

/-- Change an element of a list. -/
def modAt {α : Type} (l : List α) (i : Nat) (f : α → α) : List α :=
  match l[i]? with
  | some a => l.set i (f a)
  | none => l

/-- A timer instruction with its function. -/
def runTimer (f : Nat → Nat → Bool → LTimer → LTimer) (i : Nat) (sc : Scan) (t : LTables) : Scan × LTables :=
  let x := nth t.timers i ⟨0, false, none, false, false, false, true⟩
  let y := f t.lt (evComp sc x) sc.acc x
  ({ sc with acc := y.q }, { t with timers := t.timers.set i y })
/-- A comparison with a value. -/
def runCmp (k : Nat) (v : Wacc) (sc : Scan) : Scan := { sc with acc := sc.acc && wcmp k sc.wacc v }
/-- A quality test. -/
def runQual (s : State) (p : Nat → Bool) (sig : Nat) (sc : Scan) : Scan := { sc with acc := sc.acc && p (scanRec s sc sig).qual }

/-- What one instruction does but for moving PC on (Table LGC-3). -/
def runOp (s : State) (op : LogicOp) (x : Nat) (sc : Scan) (t : LTables) : Scan × LTables :=
  let v := scanBit s sc x
  let bit (b : Bool) : Scan × LTables := ({ sc with acc := b }, t)
  let load (b : Bool) : Scan × LTables := ({ sc with acc := b, lstamp := some (scanRec s sc x).stamp }, t)
  let const := constOf s sc.task x
  let ck (k : Nat) : Scan × LTables := (runCmp k (waccOf const.1 const.2) sc, t)
  let cs (k : Nat) : Scan × LTables := (runCmp k (sigWord s sc x) sc, t)
  match op with
  | .nop | .end_ => (sc, t)
  | .ld => load v
  | .ldn => load (!v)
  | .and_ => bit (sc.acc && v)
  | .andn => bit (sc.acc && !v)
  | .or_ => bit (sc.acc || v)
  | .orn => bit (sc.acc || !v)
  | .xor_ => bit (xor sc.acc v)
  | .xorn => bit (xor sc.acc (!v))
  | .ldk => bit (decide (const.2 ≠ 0))
  | .not_ => bit (!sc.acc)
  | .st => (scanPut s x sc.acc sc, t)
  | .stn => (scanPut s x (!sc.acc) sc, t)
  | .set => (if sc.acc then scanPut s x true sc else sc, t)
  | .rst => (if sc.acc then scanPut s x false sc else sc, t)
  | .andParen => (pushBranch s 0 x false sc, t)
  | .andnParen => (pushBranch s 0 x true sc, t)
  | .orParen => (pushBranch s 1 x false sc, t)
  | .ornParen => (pushBranch s 1 x true sc, t)
  | .xorParen => (pushBranch s 2 x false sc, t)
  | .close => (match sc.stack with
    | (b, o) :: l => ({ sc with acc := combine o b sc.acc, stack := l }, t)
    | [] => (sc, t))
  | .rtrig => (let (e, q) := edgeTake true sc.acc (nth t.edges x {}); ({ sc with acc := q }, { t with edges := t.edges.set x e }))
  | .ftrig => (let (e, q) := edgeTake false sc.acc (nth t.edges x {}); ({ sc with acc := q }, { t with edges := t.edges.set x e }))
  | .ton => runTimer timerTon x sc t
  | .tof => runTimer timerTof x sc t
  | .tp => runTimer timerTp x sc t
  | .trst => (sc, if sc.acc then { t with timers := modAt t.timers x timerStop } else t)
  | .ctu => (let c := counterEdge true sc.acc (nth t.counters x ⟨0, false, 0, false, true⟩)
             ({ sc with acc := decide (c.pv ≤ c.cv) }, { t with counters := t.counters.set x c }))
  | .ctd => (let c := counterEdge false sc.acc (nth t.counters x ⟨0, false, 0, false, true⟩)
             ({ sc with acc := decide (c.cv ≤ 0) }, { t with counters := t.counters.set x c }))
  | .crst => (sc, if sc.acc then { t with counters := modAt t.counters x (fun c => { c with cv := 0 }) } else t)
  | .cld => (sc, if sc.acc then { t with counters := modAt t.counters x (fun c => { c with cv := c.pv }) } else t)
  | .jmp | .jmpc | .jmpcn => (sc, t)
  | .qgood => (runQual s (fun q => validity q == 0) x sc, t)
  | .qinv => (runQual s (fun q => validity q == 1) x sc, t)
  | .qquest => (runQual s (fun q => validity q == 3) x sc, t)
  | .qold => (runQual s (bitN · 7) x sc, t)
  | .qtest => (runQual s (bitN · 11) x sc, t)
  | .qsubst => (runQual s (bitN · 10) x sc, t)
  | .ldw => ({ sc with wacc := sigWord s sc x }, t)
  | .ldwk => ({ sc with wacc := waccOf const.1 const.2 }, t)
  | .ldwc => ({ sc with wacc := ⟨BitVec.ofInt 64 (nth t.counters x ⟨0, false, 0, false, true⟩).cv, false⟩ }, t)
  | .ldwt => ({ sc with wacc := ⟨BitVec.ofNat 64 (timerEt t.lt (nth t.timers x ⟨0, false, none, false, false, false, true⟩)), false⟩ }, t)
  | .cmpeq => cs 0
  | .cmpne => cs 1
  | .cmpgt => cs 2
  | .cmpge => cs 3
  | .cmplt => cs 4
  | .cmple => cs 5
  | .cmpeqk => ck 0
  | .cmpnek => ck 1
  | .cmpgtk => ck 2
  | .cmpgek => ck 3
  | .cmpltk => ck 4
  | .cmplek => ck 5
  | .stw => (scanWrite s x (waccTo (sigType s x) sc.wacc) sc, t)
  | .stwc => (if sc.acc then scanWrite s x (waccTo (sigType s x) sc.wacc) sc else sc, t)

/-- PC after an instruction; END goes to the program's length (R374). -/
def nextPc (n : Nat) (op : LogicOp) (x : Nat) (acc : Bool) (pc : Nat) : Nat :=
  match op with
  | .end_ => n
  | .jmp => x
  | .jmpc => if acc then x else pc + 1
  | .jmpcn => if acc then pc + 1 else x
  | _ => pc + 1

/-! ### Scans (R365, R366, R369, R374 to R378) -/

/-- The scan in progress on a processor. -/
def scanOf (s : State) (p : Nat) : Option Scan := (tget s.lgc.scans p).bind (fun sc => if sc.done then none else some sc)
/-- Write a processor's scan. -/
def setScan (p : Nat) (sc : Scan) (s : State) : State := { s with lgc := { s.lgc with scans := tset s.lgc.scans p sc } }
/-- A scan ends: its writes commit one system cycle after its start boundary (R366). -/
def finishScan (p : Nat) (sc : Scan) (s : State) : State :=
  let s1 := foldSt (fun sig s => match tget sc.image sig with
    | some r => pushWrite sig 1 r.value r.qual (some sc.stamp) (sc.cycle + 1) (timeOrder sc.stamp) s
    | none => s) sc.written (setScan p { sc with done := true } s)
  peak (.lgcScanMax p) (2 * (s.tim.raw - sc.startRaw)) (bump (.lgcTaskScans sc.task) s1)
/-- The instruction at PC. -/
def fetchLogic (s : State) (sc : Scan) : Option (LogicOp × Nat) :=
  match taskImg s sc.task with
  | some g => (g.instr[sc.pc]?).bind decodeLogic
  | none => none
/-- Execute one instruction of a scan; the scan ends at END, at a jump to NINSTR, or after its last instruction. -/
def stepScan (p : Nat) (sc : Scan) (op : LogicOp) (x : Nat) (s : State) : State :=
  let n := match taskImg s sc.task with | some g => g.instr.length | none => 0
  let y := taskSt s sc.task
  let (sc1, t1) := runOp s op x sc y.t
  let sc2 := { sc1 with pc := nextPc n op x sc.acc sc.pc }
  let s1 := setScan p sc2 (setTask sc.task { y with t := t1 } s)
  if n ≤ sc2.pc then finishScan p sc2 s1 else s1
/-- Execute up to a number of instructions. -/
def runScan (p : Nat) : Nat → State → State
  | 0, s => s
  | fuel + 1, s =>
    match scanOf s p with
    | none => s
    | some sc => match fetchLogic s sc with
      | some (op, x) => runScan p fuel (stepScan p sc op x s)
      | none => finishScan p sc s
/-- The one instruction at PC of the scan in progress, when it is this one. -/
def execLogic (op : LogicOp) (p x : Nat) (s : State) : State :=
  match scanOf s p with
  | none => s
  | some sc => if fetchLogic s sc = some (op, x) then stepScan p sc op x s else s

/-- DT of a scan that starts: on a standby module, what the HEAD of this cycle carries for the task, when it came within 4 µs of the
boundary (R370, 14 R433). -/
def scanDt (s : State) (task own : Nat) : Nat :=
  if pairFollows s then
    match tget s.pair.mirrors s.cycleNum with
    | some m => if s.lgc.boundRaw + 2000 < m.headRaw then own
      else (match m.dts.find? (fun e => e.1 == task) with | some e => e.2 | none => own)
    | none => own
  else own
/-- A module that follows still waits, up to 4 µs after the boundary, for the HEAD that carries the scans' DT (R370, 14
R433). -/
def headAwaited (s : State) : Bool :=
  pairFollows s && !(match tget s.pair.mirrors s.cycleNum with | some m => m.headIn | none => false)
    && decide (s.tim.raw < s.lgc.boundRaw + 2000)
/-- Start the first scan that is due on a processor (R375, R369); its stamp is the boundary's module time (R366). -/
def startScan (p : Nat) (s : State) : State :=
  match s.lgc.due.find? (fun e => e.1 == p) with
  | none => s
  | some e =>
    let task := e.2.1
    let y := taskSt s task
    let dt := scanDt s task e.2.2
    let t := { y.t with lt := (y.t.lt + dt) % 2 ^ 64 }
    let sc : Scan := { task, cycle := s.cycleNum, stamp := s.lgc.bound, saved := t, startRaw := s.tim.raw, dt }
    setScan p sc (setTask task { y with t := t } { s with lgc := { s.lgc with due := s.lgc.due.erase e, kept := s.lgc.kept ++ [sc] } })
/-- A scan is aborted: its writes and its changes to the tables are discarded, its signals are late at the boundary
(R377, R378). -/
def abortScan (p : Nat) (sc : Scan) (cause : Nat) (s : State) : State :=
  let y := taskSt s sc.task
  let marks := (declared s sc.task).filter (fun i => !s.sig.lateMarks.contains i)
  recordEvent (evTask s sc.task 0x0902 sc.task sc.cycle cause) (bump (.lgcOverrun p)
    { setScan p { sc with done := true } (setTask sc.task { y with t := sc.saved } s) with
      lgc.kept := s.lgc.kept.filter (fun k => !(k.task == sc.task && k.cycle == sc.cycle))
      sig := { s.sig with lateMarks := s.sig.lateMarks ++ marks } })
/-- A processor starts its next due scan, or goes on with the one in progress, for a number of instructions; a parity
error aborts it (R375, R378). -/
def execLogicScan (proc steps : Nat) (parityBad : Bool) (s : State) : Host.Outcome State Fault Refusal :=
  .next (let s1 := if (scanOf s proc).isSome || headAwaited s then s else startScan proc s
    if parityBad then (match scanOf s1 proc with | some sc => abortScan proc sc 1 (bump (.parity 10 (proc / 4)) s1) | none => s1) else runScan proc steps s1)

/-- At a boundary, every scan that has not ended is an overrun: those in progress, and those that never started (R377). -/
def overrunProc (p : Nat) : Nat → State → State
  | 0, s => s
  | fuel + 1, s =>
    match scanOf s p with
    | some sc => overrunProc p fuel (abortScan p sc 0 s)
    | none => if s.lgc.due.any (fun e => e.1 == p) then overrunProc p fuel (startScan p s) else s
/-- Abort the overruns of every processor. -/
def logicOverruns (s : State) : State :=
  let procs := dedupN (s.lgc.scans.map (·.1) ++ s.lgc.due.map (·.1))
  foldSt (fun p s => overrunProc p (2 * s.lgc.due.length + 2) s) procs s

/-! ### Restart (R397, R398) -/

/-- What a restart keeps of a signal: its RETAIN record as old data, or INIT. -/
def restartSig (warm : Bool) (b : MTime) (sig : Nat) (acc : State × Nat) : State × Nat :=
  let s := acc.1
  match sigDef s sig with
  | none => acc
  | some d =>
    match (if warm && d.retain then tget s.lgc.retainSigs sig else none) with
    | some r => (setRec sig { r with qual := qSet r.qual 7 } s, acc.2 + 1)
    | none => (setRec sig ⟨d.init, bbit (holdAt s b) 15, b⟩ s, acc.2)
/-- The tables of a task after a restart: counters of RETAIN keep CV when it is warm; the flag counts them. -/
def restartTables (s : State) (t : Nat) (warm : Bool) (g : LogicImage) (ov : Tbl (Nat × Nat) (BitVec 128)) : LTables × Nat :=
  let f := freshTables g ov
  let cs := (List.zip (List.range f.counters.length) f.counters).map (fun p =>
    match (if warm && p.2.retain then tget s.lgc.retainCtrs (t, p.1) else none) with
    | some v => ({ p.2 with cv := v }, 1)
    | none => (p.2, 0))
  ({ f with counters := cs.map (·.1) }, sumN (cs.map (·.2)))
/-- Restart one task at a boundary (R398); a cold restart releases the forces of its signals (R251, R397). -/
def restartTask (t : Nat) (warm : Bool) (b : MTime) (s : State) : State :=
  match taskImg s t with
  | none => s
  | some g =>
    let ids := declared s t
    let s0 := if warm then s else foldSt (fun i s => if forced s i then dropForce i s else s) ids s
    let (s1, n) := ids.foldl (fun acc i => restartSig warm b i acc) (s0, 0)
    let y := taskSt s1 t
    let (tb, k) := restartTables s1 t warm g y.overrides
    let freed := (ids.filter (forced s)).length
    let s2 := setTask t { y with t := tb, lastRaw := none, pendRestart := none } s1
    let s3 := if !warm && 0 < freed then recordEvent (evAt b (evPkg 0x0605 0 2 freed 0)) s2 else s2
    recordEvent (evTask s3 t 0x0906 (if warm then 0 else 1) t (n + k)) s3

/-! ### Modes and the key switch (R380 to R385) -/

/-- POS of the debounced pins (Table LGC-9). -/
def keyPosition (runN stopN : Bool) : Nat := if !stopN && !runN then 3 else if !stopN then 2 else if !runN then 1 else 0
/-- The key decides every task's mode (R384). -/
def keyRules (s : State) : Bool := s.cfg.modeSrc == 1 && s.lgc.keyPos != 0
/-- STOP takes effect at a boundary: each declared signal commits its value as invalid and blocked (R381). -/
def stopSignals (t : Nat) (b : MTime) (s : State) : State :=
  foldSt (fun i s => if (sigDef s i).isSome then
      (let r := writerRec s i; setRec i { r with qual := qPut (qSet (qVal r.qual 1) 12) 15 (holdAt s b), stamp := b } s)
    else s) (declared s t) s
/-- A task takes a mode at a boundary (R380 to R382). -/
def takeMode (t : Nat) (m : LMode) (src : Nat) (b : MTime) (s : State) : State :=
  let y := taskSt s t
  if y.o.obj ≠ .on ∨ y.mode = m then s
  else
    let s1 := setTask t { y with mode := m, step := false, fromHold := decide (y.mode = .hold ∧ m = .run) } s
    let s2 := recordEvent (evTask s1 t 0x0901 t (modeNum y.mode + 256 * modeNum m) src) s1
    if m = .stop then stopSignals t b s2
    else if y.mode = .stop then restartTask t true b s2
    else s2
/-- A debounced change of the key switch is recorded and takes effect at the next boundary (R383, R384). -/
def execKeyPositionChange (runN stopN : Bool) (s : State) : Host.Outcome State Fault Refusal :=
  .next (let old := keyPosition s.lgc.runN s.lgc.stopN
    let new := keyPosition runN stopN
    let s1 := { s with lgc := { s.lgc with runN := runN, stopN := stopN } }
    if old = new then s1 else raise 0x0903 old new 0 s1)

/-! ### On-line change (R389 to R394) -/

/-- A value write takes effect at a boundary (R389). -/
def applyValue (b : MTime) (v : PendValue) (s0 : State) : State :=
  let s := if v.what ≤ 2 then noteWritten ⟨3, v.task, 0⟩ s0 else s0
  let y := taskSt s v.task
  let ov := { y with overrides := tset y.overrides (v.what, v.index) v.value }
  match v.what with
  | 0 => setTask v.task ov s
  | 1 => setTask v.task { ov with t := { y.t with timers := modAt y.t.timers v.index (fun t => { t with pt := v.value.toNat }) } } s
  | 2 => setTask v.task { ov with t := { y.t with counters := modAt y.t.counters v.index (fun c => { c with pv := sgn 32 v.value.toNat }) } } s
  | _ => if (sigDef s v.index).isSome then setRec v.index ⟨v.value, 0x2000 ||| bbit (holdAt s b) 15, b⟩ s else s

/-- The instructions of a program that work a timer, counter or edge memory: its kind (R392). -/
def elementKind (ops : List LogicOp) (g : LogicImage) (i : Nat) : List Bool :=
  ops.map (fun o => (g.instr.filterMap decodeLogic).any (fun p => p.1 == o && p.2 == i))
/-- An element of both images, worked by the same instructions, keeps its state; the others start primed (R392). -/
def carryElems {α : Type} (ops : List LogicOp) (gOld gNew : LogicImage) (keep : α → α → α) (old new : List α) : List α :=
  (List.zip (List.range new.length) new).map (fun p => match old[p.1]? with
    | some o => if elementKind ops gOld p.1 = elementKind ops gNew p.1 then keep o p.2 else p.2
    | none => p.2)
/-- Tables carried over a switch: what exists in both images with the same kind keeps its state (R392, log 56). -/
def carryTables (gOld gNew : LogicImage) (old new : LTables) : LTables :=
  { lt := old.lt, rem := old.rem, nomRem := old.nomRem,
    timers := carryElems [.ton, .tof, .tp] gOld gNew (fun o n => { o with pt := n.pt, evcomp := n.evcomp }) old.timers new.timers,
    counters := carryElems [.ctu, .ctd] gOld gNew (fun o n => { o with pv := n.pv, retain := n.retain }) old.counters new.counters,
    edges := carryElems [.rtrig, .ftrig] gOld gNew (fun o _ => o) old.edges new.edges }
/-- What the images of a list declare of a signal. -/
def declaredBy (l : List LogicImage) (sig : Nat) : Option SigDef := l.findSome? (fun g => declOf g sig)
/-- The images in force of the tasks that a switch names. -/
def oldImages (l : Tbl Nat LogicImage) (c : Cfg) : List LogicImage := l.filterMap (fun e => tget c.tasks e.1)
/-- A signal that the images of a switch keep, define anew or remove; the count of forces released (R392, R393). A definition
that a new image gives for the first time keeps a force whose signal keeps its TYPE. -/
def switchSig (b : MTime) (l : Tbl Nat LogicImage) (old : Cfg) (sig : Nat) (acc : State × Nat) : State × Nat :=
  let n := acc.2 + bbit (forced acc.1 sig) 0
  let fresh (e : SigDef) : SigRec := ⟨e.init, bbit (holdAt acc.1 b) 15, b⟩
  match declaredBy (oldImages l old) sig, declaredBy (l.map (·.2)) sig with
  | some d, some e => if d.type = e.type then acc else (setRec sig (fresh e) (voidForce b sig acc.1), n)
  | none, some e =>
    if (match defOf old sig with | some d => d.type == e.type | none => false) then (setRec sig (fresh e) acc.1, acc.2)
    else (setRec sig (fresh e) (voidForce b sig acc.1), n)
  | some _, none => (removeSignal sig (voidForce b sig acc.1), n)
  | none, none => acc
/-- A configuration after a switch: the new images, and SIG_DEFINE's entries as the new declarations say (R392). -/
def switchCfg (l : Tbl Nat LogicImage) (c : Cfg) : Cfg :=
  { c with tasks := l.foldl (fun t e => tset t e.1 e.2) c.tasks,
           signals := c.signals.filterMap (fun e => match declaredBy (oldImages l c) e.1, declaredBy (l.map (·.2)) e.1 with
             | _, some d => some (e.1, d)
             | some _, none => none
             | none, none => some e),
           stored := l.foldl (fun t e => tset t (0x0900, e.1) (e.2.imageLen + 16)) c.stored }
/-- The bank switch at its boundary (R392, R393), which enters the admission record (14 R434). -/
def bankSwitch (b : MTime) (s : State) : State :=
  let l := s.lgc.staged2
  let new := switchCfg l s.cfg
  let before := s.cfg.tasks
  let ids := dedupN (l.flatMap (fun e => declared s e.1 ++ e.2.decls.map (·.id)))
  let s1 := { s with cfg := new, commits := s.commits.map (fun k => { k with gen := k.gen + 1, cfg := switchCfg l k.cfg }),
                     bankA := s.bankA.map (fun e => (e.1 + 1, switchCfg l e.2)), bankB := s.bankB.map (fun e => (e.1 + 1, switchCfg l e.2)),
                     cmd := { s.cmd with gen := s.cmd.gen + 1 },
                     lgc := { s.lgc with staged2 := [], switchAt := none } }
  let (s2, n) := ids.foldl (fun acc i => switchSig b l s.cfg i acc) (s1, 0)
  let s3 := foldSt (fun e s =>
    let y := taskSt s e.1
    setTask e.1 { y with overrides := [], t := carryTables (tgetD before e.1 e.2) e.2 y.t (freshTables e.2 []) } s) l s2
  let s4 := foldSt (fun p s => { s with lgc := { s.lgc with bank := tset s.lgc.bank p (1 - tgetD s.lgc.bank p 0 % 2) } })
    (dedupN (l.map (fun e => procOf s2 e.1))) s3
  noteAdmit (.command s.lgc.switchSeq 0x0945) (raise 0x0904 (sumN ((dedupN (l.map (·.1))).map (fun t => 2 ^ t))) s4.cmd.gen n s4)

/-! ### At the boundary (R375, R379 to R392, R396) -/

/-- The signals of a task that has reached OFF commit as old (R379, 09 R294). -/
def taskOffSignals (b : MTime) (t : Nat) (s : State) : State :=
  let y := taskSt s t
  if y.offDue then
    foldSt (fun i s => if (sigDef s i).isSome then
        (let r := writerRec s i; setRec i { r with qual := qPut (qClr (qOld r.qual) 14) 15 (holdAt s b), stamp := b } s)
      else s) (declared s t) (setTask t { y with offDue := false } s)
  else s
/-- A task enters STARTING: its tables are loaded and primed (R379). -/
def taskStart (t : Nat) (s : State) : State :=
  match taskImg s t with
  | some g => (let y := taskSt s t
               setTask t { y with t := freshTables g y.overrides, lastRaw := none, step := false, fromHold := false, mode := .run } s)
  | none => s
/-- A draining task whose scan has committed is OFF (R379). -/
def taskDrained (t : Nat) (s : State) : State :=
  let y := taskSt s t
  if y.o.obj = .draining then
    let (o, act) := objDrained y.o
    let s1 := setTask t { y with o := o, offDue := true } s
    if act = .start then taskStart t (evStart 9 t s1) else s1
  else s
/-- STARTING ends at the boundary: ON, in the mode that `taskStart` or a restart with STOP has given, unless the key switch
sets another, or DRAINING where a drain is booked, with no scan to wait for (R379, R395). -/
def taskStarted (t : Nat) (s : State) : State :=
  let y := taskSt s t
  if y.o.obj = .starting then
    let (o, act) := objStarted y.o
    let s1 := setTask t { y with o := o } s
    if act = .drain then taskDrained t s1 else s1
  else s
/-- Mode changes of a boundary for one task: the command's or the schedule's, then the key's (R380, R384). -/
def taskModes (b : MTime) (t : Nat) (s : State) : State :=
  let y := taskSt s t
  let s1 := match y.pendMode with
    | some (m, src) => (let s' := setTask t { y with pendMode := none } s
                        if keyRules s && !pairFollows s then s' else takeMode t m src b s')
    | none => s
  if keyRules s1 && !pairFollows s1 then takeMode t (if s1.lgc.keyPos = 1 then .run else .stop) 2 b s1 else s1
/-- A restart that was commanded (R398). -/
def taskRestart (b : MTime) (t : Nat) (s : State) : State :=
  match (taskSt s t).pendRestart with
  | some k => (let y := taskSt s t
               let s1 := setTask t { y with pendRestart := none } s
               if y.o.obj = .on then restartTask t (k == 0) b s1 else s1)
  | none => s
/-- A task whose scan starts at this boundary: it is due, with DT (R369, R375, R382); a step enters the admission record (14 R434). -/
def taskDue (num t : Nat) (s : State) : State :=
  match taskImg s t with
  | none => s
  | some g =>
    let y := taskSt s t
    if y.o.obj ≠ .on ∨ num % max 1 g.div ≠ 0 ∨ y.mode = .stop ∨ (y.mode = .hold ∧ y.step = false) then s
    else
      let nominal := y.fromHold || decide (y.mode = .hold)
      let total := if nominal then g.div * s.cfg.cycleLen * 125 + y.t.nomRem
        else match y.lastRaw with | some r => s.tim.raw - r + y.t.rem | none => 0
      let (dt, tb) := if nominal then (total / 144, { y.t with nomRem := total % 144 }) else (total / 500, { y.t with rem := total % 500 })
      let s0 := if y.step then noteAdmit (.command y.stepSeq 0x0942) s else s
      let s1 := setTask t { y with t := tb, lastRaw := some s.tim.raw, fromHold := false, step := false } s0
      { s1 with lgc := { s1.lgc with due := s1.lgc.due ++ [(procOf s t, t, dt)] } }
/-- Tasks in ascending number. -/
def taskIds (s : State) : List Nat := (sortBy (fun a b => decide (a.1 ≤ b.1)) s.cfg.tasks).map (·.1)
/-- The logic at the boundary that opens cycle `num`, after the commits and forces of that boundary; a booked switch whose
boundary TIM_STEP has skipped takes place here (log entry 135). -/
def logicBoundary (num : Nat) (b : MTime) (s : State) : State :=
  let s0 := { s with lgc := { s.lgc with scans := [], due := [] } }
  let s1 := foldSt (taskOffSignals b) (s0.lgc.tasks.map (·.1)) s0
  let s2 := foldSt (fun t s => taskStarted t (taskDrained t s)) (taskIds s1) s1
  let s3 := foldSt (applyValue b) s2.lgc.pendValues { s2 with lgc := { s2.lgc with pendValues := [] } }
  let s4 := match s3.lgc.switchAt with | some k => if k ≤ num then bankSwitch b s3 else s3 | none => s3
  let s5 := foldSt (taskModes b) (taskIds s4) s4
  let s6 := foldSt (taskRestart b) (taskIds s5) s5
  foldSt (taskDue num) (taskIds s6) s6

/-! ### Load checks (R387, Table LGC-6) -/

/-- Reason 1, with the ranges of R386: reserved bytes zero and TYPE of a constant up to 3 (log entry 134). -/
def logicInside (len : Nat) (g : LogicImage) : Bool :=
  let last := g.imageLen - 96
  decide (g.magic = 0x43474C5A ∧ g.format = 1 ∧ g.imageLen = len ∧ 160 ≤ len ∧ len ≤ 67108864)
    && decide (g.task ≤ 63 ∧ 1 ≤ g.div ∧ g.div ≤ 1024 ∧ 1 ≤ g.instr.length ∧ g.instr.length ≤ 262144 ∧ g.consts.length ≤ 65536
      ∧ g.timers.length ≤ 8192 ∧ g.counters.length ≤ 4096 ∧ g.nedge ≤ 16384 ∧ g.decls.length ≤ 262144)
    && [g.instrOfs, g.constOfs, g.timerOfs, g.countOfs, g.declOfs].all (fun o => decide (o % 8 = 0 ∧ 64 ≤ o))
    && g.padZero && g.consts.all (fun c => decide (c.type ≤ 3))
    && decide (g.instrOfs + 4 * g.instr.length ≤ last ∧ g.constOfs + 16 * g.consts.length ≤ last
      ∧ g.timerOfs + 8 * g.timers.length ≤ last ∧ g.countOfs + 8 * g.counters.length ≤ last
      ∧ g.declOfs + 32 * g.decls.length ≤ last)
/-- An OPERAND lies within its table, and a jump meets R374. -/
def operandOk (s : State) (g : LogicImage) (pc : Nat) (op : LogicOp) (x : Nat) : Bool :=
  match logicKind op with
  | .none => x == 0
  | .signal => decide (x < Config.signals s.variant)
  | .const => decide (x < g.consts.length)
  | .timer => decide (x < g.timers.length)
  | .counter => decide (x < g.counters.length)
  | .edge => decide (x < g.nedge)
  | .index => decide (pc < x ∧ x ≤ g.instr.length)
/-- The decoded program; none when an OPCODE is not in Table LGC-3. -/
def programOf (g : LogicImage) : Option (List (LogicOp × Nat)) := g.instr.mapM decodeLogic
/-- A push of a branch. -/
def isPush : LogicOp → Bool
  | .andParen | .andnParen | .orParen | .ornParen | .xorParen => true
  | _ => false
/-- An instruction that may stand at a depth above 0 (R367). -/
def deepOk : LogicOp → Bool
  | .ld | .ldn | .and_ | .andn | .or_ | .orn | .xor_ | .xorn | .ldk | .not_ | .andParen | .andnParen | .orParen | .ornParen
  | .xorParen | .close | .qgood | .qinv | .qquest | .qold | .qtest | .qsubst | .ldw | .ldwk | .ldwc | .ldwt | .cmpeq | .cmpne
  | .cmpgt | .cmpge | .cmplt | .cmple | .cmpeqk | .cmpnek | .cmpgtk | .cmpgek | .cmpltk | .cmplek => true
  | _ => false
/-- The depth before each instruction and after the last; none when a rule of R367 is broken. -/
def depths : List (LogicOp × Nat) → Nat → Option (List Nat)
  | [], d => if d = 0 then some [0] else none
  | (op, _) :: l, d =>
    if 0 < d ∧ deepOk op = false then none
    else if isPush op then (if 16 ≤ d then none else (depths l (d + 1)).map (d :: ·))
    else if op = .close then (if d = 0 then none else (depths l (d - 1)).map (d :: ·))
    else (depths l d).map (d :: ·)
/-- Reason 5: depths, and every jump target at depth 0. -/
def stackOk (l : List (LogicOp × Nat)) : Bool :=
  match depths l 0 with
  | none => false
  | some ds => l.all (fun p => logicKind p.1 != .index || nth ds p.2 0 == 0)
/-- An instruction that writes its signal. -/
def isStore : LogicOp → Bool
  | .st | .stn | .set | .rst | .stw | .stwc => true
  | _ => false
/-- A word instruction over a signal or a constant. -/
def isWord : LogicOp → Bool
  | .ldw | .ldwk | .cmpeq | .cmpne | .cmpgt | .cmpge | .cmplt | .cmple | .cmpeqk | .cmpnek | .cmpgtk | .cmpgek | .cmpltk | .cmplek
  | .stw | .stwc => true
  | _ => false
/-- A quality test, which takes a signal of any TYPE (R363, Table LGC-6). -/
def isQuality : LogicOp → Bool
  | .qgood | .qinv | .qquest | .qold | .qtest | .qsubst => true
  | _ => false
/-- A comparison or a store of WACC, whose tags must agree. -/
def usesWacc (op : LogicOp) : Bool := isWord op && op != .ldw && op != .ldwk
/-- Tags that WACC may have: INT, FLOAT. -/
abbrev Tags := Bool × Bool
/-- The union of two sets of tags. -/
def tagsOr (a b : Tags) : Tags := (a.1 || b.1, a.2 || b.2)
/-- The TYPE that an instruction's operand has; none when it is not known. -/
def operandType (c : Cfg) (g : LogicImage) (op : LogicOp) (x : Nat) : Option Nat :=
  match logicKind op with
  | .signal => (match declOf g x with | some d => some d.type | none => (defOf c x).map (·.type))
  | .const => some (nth g.consts x ⟨0, 0⟩).type
  | _ => some 0
/-- Reason 6 along the program: types of operands and tags of WACC; `here` the tags that reach this instruction, `ahead`
those that jumps carry to later ones. -/
def typesOk (c : Cfg) (g : LogicImage) (strict : Bool) : List (LogicOp × Nat) → Nat → Tags → List (Nat × Tags) → Bool
  | [], _, _, _ => true
  | (op, x) :: l, pc, here0, ahead =>
    let here := (ahead.filter (fun e => e.1 == pc)).foldl (fun a e => tagsOr a e.2) here0
    let ty := operandType c g op x
    let known := ty.isSome || !strict
    let t := ty.getD (if isWord op then 1 else 0)
    let kind := logicKind op
    let typed := decide (kind = .signal ∨ kind = .const) && !isQuality op
    let tag : Tags := if t = 3 then (false, true) else (true, false)
    let ok := known && (!typed || (if isWord op then decide (1 ≤ t ∧ t ≤ 3) else t == 0))
      && (!(usesWacc op && ty.isSome) || !((here.1 && !tag.1) || (here.2 && !tag.2)))
    let out : Tags := if op = .ldw ∨ op = .ldwk then (if ty.isSome then tag else here)
      else if op = .ldwc ∨ op = .ldwt then (true, false) else here
    let next : Tags := if op = .end_ ∨ op = .jmp then (false, false) else out
    let ahead1 := if kind = .index then (x, out) :: ahead else ahead
    ok && typesOk c g strict l (pc + 1) next ahead1
/-- Every signal written is declared, with SOURCE 1, and every declared signal is written. -/
def declsOk (g : LogicImage) (l : List (LogicOp × Nat)) : Bool :=
  let w := (l.filter (fun p => isStore p.1)).map (·.2)
  w.all (fun i => g.decls.any (fun e => e.id == i)) && g.decls.all (fun e => w.contains e.id && e.sig.source == 1 && e.valid && sigEntryOk e)
    && nodupN (g.decls.map (·.id))
/-- Reason 6. -/
def logicTyped (c : Cfg) (g : LogicImage) (strict : Bool) : Bool :=
  match programOf g with
  | some l => typesOk c g strict l 0 (true, false) [] && declsOk g l
  | none => false
/-- The first failing check of a logic image before reason 7, against a configuration; 0 when it passes. `strict`: a signal
that the configuration does not define fails (at LGC_TASK_DEFINE it may still be staged, and the commit checks it). -/
def logicReason (s : State) (c : Cfg) (strict : Bool) (len keySlot : Nat) (g : LogicImage) : Nat :=
  if !logicInside len g then 1
  else if !imageSigned (engineKey s keySlot 5 [3]) (logicBytes g) g.sign then 2
  else if Config.behaviourRev < g.minBrev then 3
  else match programOf g with
    | none => 4
    | some l =>
      if !(List.zip (List.range l.length) l).all (fun p => operandOk s g p.1 p.2.1 p.2.2) then 4
      else if !stackOk l then 5
      else if !logicTyped c g strict then 6
      else 0

/-! ### Fit and scan time (R361, R376) -/

/-- Signals that a program reads. -/
def logicReads (g : LogicImage) : List Nat :=
  dedupN ((g.instr.filterMap decodeLogic).filterMap (fun p => if logicKind p.1 = .signal ∧ isStore p.1 = false then some p.2 else none))
/-- Worst-case scan time of a task on a die, ns (R376). -/
def worstNs (sigDie : Nat → Nat) (die : Nat) (g : LogicImage) : Nat :=
  let r := logicReads g
  let own := (r.filter (fun i => sigDie i == die)).length
  2000 + 2 * own + 14 * (r.length - own) + g.instr.length + 2 * g.decls.length
/-- The scan times of a processor's tasks exceed 90 % of the system cycle (R376). -/
def scansTooLong (cycleLen : Nat) (times : List Nat) : Bool := decide (9 * 1000000000 * cycleLen < sumN times * 10 * unitsPerSec)
/-- Images fit one processor's resources (Table LGC-2). -/
def fitsProc (l : List LogicImage) : Bool :=
  decide (sumN (l.map (·.instr.length)) ≤ 262144 ∧ sumN (l.map (·.consts.length)) ≤ 65536 ∧ sumN (l.map (·.timers.length)) ≤ 8192
    ∧ sumN (l.map (·.counters.length)) ≤ 4096 ∧ sumN (l.map (·.nedge)) ≤ 16384)
/-- An exact quotient of natural numbers: numerator and denominator. -/
abbrev Quot2 := Nat × Nat
/-- The sum of two quotients. -/
def qadd (a b : Quot2) : Quot2 :=
  let l := Nat.lcm a.2 b.2
  (a.1 * (l / a.2) + b.1 * (l / b.2), l)
/-- The sum of a list of quotients. -/
def qsum (l : List Quot2) : Quot2 := l.foldl qadd (0, 1)
/-- a < b. -/
def qlt (a b : Quot2) : Bool := decide (a.1 * b.2 < b.1 * a.2)
/-- ceil(1,000 × q / unit). -/
def perMille (q : Quot2) (unit : Nat) : Nat := (1000 * q.1 + q.2 * unit - 1) / (q.2 * unit)
/-- The planned load of a scheme logic processor that runs the images, per-mille (11 R341). -/
def imagesPlan (cycleLen : Nat) (l : List LogicImage) : Nat :=
  perMille (qsum (l.map (fun g => ((g.instr.length * unitsPerSec, max 1 (cycleLen * g.div)) : Quot2)))) 1000000000
/-- Images fit one processor: its resources, and its PLAN of 850 per-mille (R361, 11 Table PLM-1). -/
def imagesFit (cycleLen : Nat) (l : List LogicImage) : Bool := fitsProc l && decide (imagesPlan cycleLen l ≤ 850)
/-- The images of a processor's tasks after the staged switch. -/
def procImages (s : State) (p : Nat) (staged2 : Tbl Nat LogicImage) : List LogicImage :=
  (s.cfg.tasks.filter (fun e => procOf s e.1 == p)).map (fun e => tgetD staged2 e.1 e.2)

/-! ### Commands (R400) -/

/-- A task that is defined. -/
def taskDefined (s : State) (t : Nat) : Bool := decide (t ≤ 63) && thas s.cfg.tasks t

/-- LGC_TASK_DEFINE checks and stages an image, or stages a removal (R387); reason 7 looks at the task alone, since its
processor is chosen at the commit (log entry 134). -/
def lgcTaskDefinePacket (h : Hdr) (image : ImageAt) (keySlot valid task : Nat) (img : LogicImage) : Packet :=
  { h, opcode := 0x0900, pfOnly := true, busyBefore := true, noRoom := noStageRoom h.func, outBytes := if valid = 1 then image.len else 0, isLoad := true,
    needsKey := fun _ => valid == 1,
    eff := fun j s =>
      let c := candidate s h.func
      if image.addr % 64 ≠ 0 ∨ 255 < keySlot ∨ 1 < valid ∨ (valid = 1 ∧ task ≠ 0) then failRes stFailed s
      else if valid = 1 then
        (let r := logicReason s c false image.len keySlot img
         if r ≠ 0 then .done stFailed (resB 0 r) s
         else if imagesFit c.cycleLen [img] = false then .done stFailed (resB 0 7) s
         else if (taskWrites img.task img).any (writeClash (applySetting c ⟨j, 0x0900, 0, .lgcTask img.task true img⟩)) then
           failRes stFailed s
         else stageRes h j 0x0900 (.lgcTask img.task true img) s)
      else if thas c.tasks task then stageRes h j 0x0900 (.lgcTask task false img) s
      else failRes stFailed s }
/-- LGC_TASK_DEFINE. -/
def execLgcTaskDefine (h : Hdr) (image : ImageAt) (keySlot valid task : Nat) (img : LogicImage) (s : State) :
    Host.Outcome State Fault Refusal :=
  .next (submit (.lgcTaskDefine h image keySlot valid task img) (lgcTaskDefinePacket h image keySlot valid task img) s)

/-- LGC_CONFIG. -/
def lgcConfigPacket (h : Hdr) (modeSrc restartMode : Nat) : Packet :=
  configPacket h 0x0901 (fun _ => decide (modeSrc ≤ 1 ∧ restartMode ≤ 2)) (.lgcConfig modeSrc restartMode)
/-- LGC_CONFIG. -/
def execLgcConfig (h : Hdr) (modeSrc restartMode : Nat) (s : State) : Host.Outcome State Fault Refusal :=
  .next (submit (.lgcConfig h modeSrc restartMode) (lgcConfigPacket h modeSrc restartMode) s)

/-- A scan of the task is in progress or has not committed. -/
def scanPending (s : State) (t : Nat) : Bool := s.lgc.scans.any (fun e => e.2.task == t) || s.lgc.due.any (fun e => e.2.1 == t)
/-- LGC_ENABLE (R379). -/
def lgcEnablePacket (h : Hdr) (task enable : Nat) : Packet :=
  { h, opcode := 0x0940, pfOnly := true, busyBefore := true, denied := pairFollows,
    eff := fun j s =>
      if 1 < enable ∨ taskDefined s task = false then failRes stFailed s
      else
        let y := taskSt s task
        let (o, st, act) := objChange (enable == 1) y.o
        let s1 := setTask task { y with o := o } s
        .done st 0 (match act with
          | .start => taskStart task s1
          | .drain => if scanPending s1 task then s1 else taskDrained task s1
          | .cancel => evCancel 9 task j s1
          | .nothing => s1) }
/-- LGC_ENABLE. -/
def execLgcEnable (h : Hdr) (task enable : Nat) (s : State) : Host.Outcome State Fault Refusal :=
  .next (submit (.lgcEnable h task enable) (lgcEnablePacket h task enable) s)

/-- Denied by the key switch or on a module that follows (R384, R385). -/
def modeDenied (s : State) : Bool := pairFollows s || keyRules s
/-- Book a mode change for the next boundary; the status it answers. -/
def bookMode (task mode src : Nat) (s : State) : Nat × State :=
  if taskDefined s task then (let y := taskSt s task; (stOk, setTask task { y with pendMode := some (lmodeOf mode, src) } s))
  else (stFailed, s)
/-- LGC_MODE (R380). -/
def lgcModePacket (h : Hdr) (task mode : Nat) : Packet :=
  { h, opcode := 0x0941, pfOnly := true, busyBefore := true, denied := modeDenied,
    eff := fun _ s =>
      if 2 < mode then failRes stFailed s
      else if task = 0xFF then okRes (foldSt (fun t s => (bookMode t mode 0 s).2) (taskIds s) s)
      else let (st, s1) := bookMode task mode 0 s; .done st 0 s1 }
/-- LGC_MODE. -/
def execLgcMode (h : Hdr) (task mode : Nat) (s : State) : Host.Outcome State Fault Refusal :=
  .next (submit (.lgcMode h task mode) (lgcModePacket h task mode) s)

/-- LGC_STEP (R382). -/
def lgcStepPacket (h : Hdr) (task : Nat) : Packet :=
  { h, opcode := 0x0942, pfOnly := true, busyBefore := true, denied := modeDenied,
    eff := fun j s =>
      let y := taskSt s task
      if y.step then failRes stBusy s
      else if taskDefined s task = false ∨ y.o.obj ≠ .on ∨ y.mode ≠ .hold then failRes stFailed s
      else okRes (setTask task { y with step := true, stepSeq := j } s) }
/-- LGC_STEP. -/
def execLgcStep (h : Hdr) (task : Nat) (s : State) : Host.Outcome State Fault Refusal :=
  .next (submit (.lgcStep h task) (lgcStepPacket h task) s)

/-- A value write names a value of the task and keeps to its type (Table LGC-11). -/
def valueOk (g : LogicImage) (p : LgcValueParams) : Bool :=
  match p.what with
  | 0 => (match g.consts[p.index]? with | some c => valueFits c.type p.value | none => false)
  | 1 => decide (p.index < g.timers.length ∧ p.value.toNat < 2 ^ 32)
  | 2 => decide (p.index < g.counters.length ∧ p.value.toNat < 2 ^ 32)
  | 3 => (match declOf g p.index with | some d => valueFits d.type p.value | none => false)
  | _ => false
/-- LGC_VALUE_WRITE (R389). -/
def lgcValueWritePacket (h : Hdr) (p : LgcValueParams) : Packet :=
  { h, opcode := 0x0943, pfOnly := true, busyBefore := true, denied := pairFollows,
    eff := fun _ s => match taskImg s p.task with
      | none => failRes stFailed s
      | some g => if valueOk g p then
          okRes { s with lgc := { s.lgc with pendValues := s.lgc.pendValues ++ [⟨p.task, p.what, p.index, p.value⟩] } }
        else failRes stFailed s }
/-- LGC_VALUE_WRITE. -/
def execLgcValueWrite (h : Hdr) (p : LgcValueParams) (s : State) : Host.Outcome State Fault Refusal :=
  .next (submit (.lgcValueWrite h p) (lgcValueWritePacket h p) s)

/-- The variant has no second bank (R361, R400). -/
def noBank2 (s : State) : Bool := decide (s.variant = .zv2)
/-- LGC_ONLINE_LOAD (R387, R390). -/
def lgcOnlineLoadPacket (h : Hdr) (image : ImageAt) (p : OnlineFields) (img : LogicImage) : Packet :=
  { h, opcode := 0x0944, pfOnly := true, busyBefore := true, unsupported := noBank2, outBytes := image.len, isLoad := true,
    needsKey := fun _ => true,
    eff := fun _ s =>
      let st2 := tset s.lgc.staged2 img.task img
      let c := switchCfg st2 s.cfg
      if s.lgc.switchAt.isSome then failRes stBusy s
      else if image.addr % 64 ≠ 0 ∨ 255 < p.keySlot ∨ p.valid ≠ 0 ∨ p.task ≠ 0 then failRes stFailed s
      else
        let r := logicReason s c true image.len p.keySlot img
        if r ≠ 0 then .done stFailed (resB 0 r) s
        else match taskImg s img.task with
          | none => .done stFailed (resB 0 7) s
          | some old =>
            if old.div ≠ img.div ∨ imagesFit s.cfg.cycleLen (procImages s (procOf s img.task) st2) = false then
              .done stFailed (resB 0 7) s
            else if (taskWrites img.task img).any (writeClash c) then failRes stFailed s
            else okRes { s with lgc := { s.lgc with staged2 := st2 } } }
/-- LGC_ONLINE_LOAD. -/
def execLgcOnlineLoad (h : Hdr) (image : ImageAt) (p : OnlineFields) (img : LogicImage) (s : State) :
    Host.Outcome State Fault Refusal :=
  .next (submit (.lgcOnlineLoad h image p img) (lgcOnlineLoadPacket h image p img) s)

/-- A signal is read by a graph slot, a subscription or publication member, or a task not being switched (R391). -/
def readElsewhere (s : State) (sig : Nat) : Bool :=
  (allNodes s).any (fun n => n.2.2.slots.any (fun sl => sl.kind == 3 && sl.ref == sig))
    || s.cfg.gs.any (fun e => e.2.map.any (fun m => m.signal == sig) || e.2.statusSig == sig)
    || s.cfg.gp.any (fun e => e.2.members.any (fun m => m.src == 0 && m.ref == sig))
    || s.cfg.tasks.any (fun e => !thas s.lgc.staged2 e.1 && (logicReads e.2).contains sig)
/-- The switch would remove or retype a signal that others read. -/
def switchBreaks (s : State) : Bool :=
  let new := switchCfg s.lgc.staged2 s.cfg
  (s.lgc.staged2.flatMap (fun e => declared s e.1 ++ e.2.decls.map (·.id))).any (fun i =>
    decide ((defOf new i).map (·.type) ≠ (defOf s.cfg i).map (·.type)) && readElsewhere s i)
/-- The scan times after the switch break R376. -/
def switchTooLong (s : State) : Bool :=
  (dedupN (s.lgc.staged2.map (fun e => procOf s e.1))).any (fun p =>
    scansTooLong s.cfg.cycleLen ((procImages s p s.lgc.staged2).map (worstNs (sigDieOf s) (p / 4))))
/-- The cycle of the switch: at least two system cycles after acceptance, a multiple of every DIV (R391). -/
def switchCycle (s : State) : Nat :=
  let len := max 1 s.cfg.cycleLen
  let least := (cycleUnitsUp (now s) + 2 * len + len - 1) / len
  let m := s.lgc.staged2.foldl (fun a e => Nat.lcm a (max 1 e.2.div)) 1
  (least + m - 1) / m * m
/-- LGC_ONLINE_SWITCH (R391). -/
def lgcOnlineSwitchPacket (h : Hdr) (cancel : Nat) : Packet :=
  { h, opcode := 0x0945, pfOnly := true, busyBefore := true, unsupported := noBank2, denied := pairFollows,
    eff := fun j s =>
      if s.lgc.switchAt.isSome then failRes stBusy s
      else if 1 < cancel then failRes stFailed s
      else if cancel = 1 then okRes { s with lgc := { s.lgc with staged2 := [] } }
      else if s.lgc.staged2.isEmpty ∨ switchTooLong s = true ∨ switchBreaks s = true then failRes stFailed s
      else .done stOk (resB 0 (switchCycle s % 2 ^ 64)) { s with lgc := { s.lgc with switchAt := some (switchCycle s), switchSeq := j } } }
/-- LGC_ONLINE_SWITCH. -/
def execLgcOnlineSwitch (h : Hdr) (cancel : Nat) (s : State) : Host.Outcome State Fault Refusal :=
  .next (submit (.lgcOnlineSwitch h cancel) (lgcOnlineSwitchPacket h cancel) s)

/-- LGC_RESTART (R398). -/
def lgcRestartPacket (h : Hdr) (task kind : Nat) : Packet :=
  { h, opcode := 0x0946, pfOnly := true, busyBefore := true, denied := pairFollows,
    eff := fun _ s =>
      if 1 < kind ∨ taskDefined s task = false then failRes stFailed s
      else let y := taskSt s task; okRes (setTask task { y with pendRestart := some kind } s) }
/-- LGC_RESTART. -/
def execLgcRestart (h : Hdr) (task kind : Nat) (s : State) : Host.Outcome State Fault Refusal :=
  .next (submit (.lgcRestart h task kind) (lgcRestartPacket h task kind) s)

/-- LGC_TASK_STATE (Table LGC-9). -/
def taskWord (s : State) (t : Nat) : Nat :=
  match taskImg s t with
  | none => 0
  | some g =>
    let y := taskSt s t
    2 ^ 31 + bbit y.step 30 + modeNum y.mode * 2 ^ 28 + objNum y.o.obj * 2 ^ 26 + procOf s t / 4 * 2 ^ 23 + procOf s t % 4 * 2 ^ 21 + g.div
/-- LGC_TASK_READ. -/
def lgcTaskReadPacket (h : Hdr) (task : Nat) : Packet :=
  { h, opcode := 0x0980, pfOnly := false,
    eff := fun _ s =>
      if taskDefined s task then .done stOk (resB 0 (taskWord s task) ||| resB 8 (taskSt s task).t.lt) s else failRes stFailed s }
/-- LGC_TASK_READ. -/
def execLgcTaskRead (h : Hdr) (task : Nat) (s : State) : Host.Outcome State Fault Refusal :=
  .next (submit (.lgcTaskRead h task) (lgcTaskReadPacket h task) s)

/-! ### Instruction rows -/

/-- LGC_NOP executes at the PC of the scan on the processor (12 R362, Table LGC-3). -/
def execLgcNop (proc : Nat) (s : State) : Host.Outcome State Fault Refusal := .next (execLogic .nop proc 0 s)
/-- END executes at the PC of the scan on the processor (12 R362, Table LGC-3). -/
def execLgcEnd (proc : Nat) (s : State) : Host.Outcome State Fault Refusal := .next (execLogic .end_ proc 0 s)
/-- LD executes at the PC of the scan on the processor (12 R362, Table LGC-3). -/
def execLgcLd (proc sig : Nat) (s : State) : Host.Outcome State Fault Refusal := .next (execLogic .ld proc sig s)
/-- LDN executes at the PC of the scan on the processor (12 R362, Table LGC-3). -/
def execLgcLdn (proc sig : Nat) (s : State) : Host.Outcome State Fault Refusal := .next (execLogic .ldn proc sig s)
/-- AND executes at the PC of the scan on the processor (12 R362, Table LGC-3). -/
def execLgcAnd (proc sig : Nat) (s : State) : Host.Outcome State Fault Refusal := .next (execLogic .and_ proc sig s)
/-- ANDN executes at the PC of the scan on the processor (12 R362, Table LGC-3). -/
def execLgcAndn (proc sig : Nat) (s : State) : Host.Outcome State Fault Refusal := .next (execLogic .andn proc sig s)
/-- OR executes at the PC of the scan on the processor (12 R362, Table LGC-3). -/
def execLgcOr (proc sig : Nat) (s : State) : Host.Outcome State Fault Refusal := .next (execLogic .or_ proc sig s)
/-- ORN executes at the PC of the scan on the processor (12 R362, Table LGC-3). -/
def execLgcOrn (proc sig : Nat) (s : State) : Host.Outcome State Fault Refusal := .next (execLogic .orn proc sig s)
/-- XOR executes at the PC of the scan on the processor (12 R362, Table LGC-3). -/
def execLgcXor (proc sig : Nat) (s : State) : Host.Outcome State Fault Refusal := .next (execLogic .xor_ proc sig s)
/-- XORN executes at the PC of the scan on the processor (12 R362, Table LGC-3). -/
def execLgcXorn (proc sig : Nat) (s : State) : Host.Outcome State Fault Refusal := .next (execLogic .xorn proc sig s)
/-- LDK executes at the PC of the scan on the processor (12 R362, Table LGC-3). -/
def execLgcLdk (proc k : Nat) (s : State) : Host.Outcome State Fault Refusal := .next (execLogic .ldk proc k s)
/-- NOT executes at the PC of the scan on the processor (12 R362, Table LGC-3). -/
def execLgcNot (proc : Nat) (s : State) : Host.Outcome State Fault Refusal := .next (execLogic .not_ proc 0 s)
/-- ST executes at the PC of the scan on the processor (12 R362, Table LGC-3). -/
def execLgcSt (proc sig : Nat) (s : State) : Host.Outcome State Fault Refusal := .next (execLogic .st proc sig s)
/-- STN executes at the PC of the scan on the processor (12 R362, Table LGC-3). -/
def execLgcStn (proc sig : Nat) (s : State) : Host.Outcome State Fault Refusal := .next (execLogic .stn proc sig s)
/-- SET executes at the PC of the scan on the processor (12 R362, Table LGC-3). -/
def execLgcSet (proc sig : Nat) (s : State) : Host.Outcome State Fault Refusal := .next (execLogic .set proc sig s)
/-- RST executes at the PC of the scan on the processor (12 R362, Table LGC-3). -/
def execLgcRst (proc sig : Nat) (s : State) : Host.Outcome State Fault Refusal := .next (execLogic .rst proc sig s)
/-- AND_PAREN executes at the PC of the scan on the processor (12 R362, Table LGC-3). -/
def execLgcAndParen (proc sig : Nat) (s : State) : Host.Outcome State Fault Refusal := .next (execLogic .andParen proc sig s)
/-- ANDN_PAREN executes at the PC of the scan on the processor (12 R362, Table LGC-3). -/
def execLgcAndnParen (proc sig : Nat) (s : State) : Host.Outcome State Fault Refusal := .next (execLogic .andnParen proc sig s)
/-- OR_PAREN executes at the PC of the scan on the processor (12 R362, Table LGC-3). -/
def execLgcOrParen (proc sig : Nat) (s : State) : Host.Outcome State Fault Refusal := .next (execLogic .orParen proc sig s)
/-- ORN_PAREN executes at the PC of the scan on the processor (12 R362, Table LGC-3). -/
def execLgcOrnParen (proc sig : Nat) (s : State) : Host.Outcome State Fault Refusal := .next (execLogic .ornParen proc sig s)
/-- XOR_PAREN executes at the PC of the scan on the processor (12 R362, Table LGC-3). -/
def execLgcXorParen (proc sig : Nat) (s : State) : Host.Outcome State Fault Refusal := .next (execLogic .xorParen proc sig s)
/-- CLOSE_PAREN executes at the PC of the scan on the processor (12 R362, Table LGC-3). -/
def execLgcCloseParen (proc : Nat) (s : State) : Host.Outcome State Fault Refusal := .next (execLogic .close proc 0 s)
/-- RTRIG executes at the PC of the scan on the processor (12 R362, Table LGC-3). -/
def execLgcRtrig (proc e : Nat) (s : State) : Host.Outcome State Fault Refusal := .next (execLogic .rtrig proc e s)
/-- FTRIG executes at the PC of the scan on the processor (12 R362, Table LGC-3). -/
def execLgcFtrig (proc e : Nat) (s : State) : Host.Outcome State Fault Refusal := .next (execLogic .ftrig proc e s)
/-- TON executes at the PC of the scan on the processor (12 R362, Table LGC-3). -/
def execLgcTon (proc t : Nat) (s : State) : Host.Outcome State Fault Refusal := .next (execLogic .ton proc t s)
/-- TOF executes at the PC of the scan on the processor (12 R362, Table LGC-3). -/
def execLgcTof (proc t : Nat) (s : State) : Host.Outcome State Fault Refusal := .next (execLogic .tof proc t s)
/-- TP executes at the PC of the scan on the processor (12 R362, Table LGC-3). -/
def execLgcTp (proc t : Nat) (s : State) : Host.Outcome State Fault Refusal := .next (execLogic .tp proc t s)
/-- TRST executes at the PC of the scan on the processor (12 R362, Table LGC-3). -/
def execLgcTrst (proc t : Nat) (s : State) : Host.Outcome State Fault Refusal := .next (execLogic .trst proc t s)
/-- CTU executes at the PC of the scan on the processor (12 R362, Table LGC-3). -/
def execLgcCtu (proc c : Nat) (s : State) : Host.Outcome State Fault Refusal := .next (execLogic .ctu proc c s)
/-- CTD executes at the PC of the scan on the processor (12 R362, Table LGC-3). -/
def execLgcCtd (proc c : Nat) (s : State) : Host.Outcome State Fault Refusal := .next (execLogic .ctd proc c s)
/-- CRST executes at the PC of the scan on the processor (12 R362, Table LGC-3). -/
def execLgcCrst (proc c : Nat) (s : State) : Host.Outcome State Fault Refusal := .next (execLogic .crst proc c s)
/-- CLD executes at the PC of the scan on the processor (12 R362, Table LGC-3). -/
def execLgcCld (proc c : Nat) (s : State) : Host.Outcome State Fault Refusal := .next (execLogic .cld proc c s)
/-- JMP executes at the PC of the scan on the processor (12 R362, Table LGC-3). -/
def execLgcJmp (proc i : Nat) (s : State) : Host.Outcome State Fault Refusal := .next (execLogic .jmp proc i s)
/-- JMPC executes at the PC of the scan on the processor (12 R362, Table LGC-3). -/
def execLgcJmpc (proc i : Nat) (s : State) : Host.Outcome State Fault Refusal := .next (execLogic .jmpc proc i s)
/-- JMPCN executes at the PC of the scan on the processor (12 R362, Table LGC-3). -/
def execLgcJmpcn (proc i : Nat) (s : State) : Host.Outcome State Fault Refusal := .next (execLogic .jmpcn proc i s)
/-- QGOOD executes at the PC of the scan on the processor (12 R362, Table LGC-3). -/
def execLgcQgood (proc sig : Nat) (s : State) : Host.Outcome State Fault Refusal := .next (execLogic .qgood proc sig s)
/-- QINV executes at the PC of the scan on the processor (12 R362, Table LGC-3). -/
def execLgcQinv (proc sig : Nat) (s : State) : Host.Outcome State Fault Refusal := .next (execLogic .qinv proc sig s)
/-- QQUEST executes at the PC of the scan on the processor (12 R362, Table LGC-3). -/
def execLgcQquest (proc sig : Nat) (s : State) : Host.Outcome State Fault Refusal := .next (execLogic .qquest proc sig s)
/-- QOLD executes at the PC of the scan on the processor (12 R362, Table LGC-3). -/
def execLgcQold (proc sig : Nat) (s : State) : Host.Outcome State Fault Refusal := .next (execLogic .qold proc sig s)
/-- QTEST executes at the PC of the scan on the processor (12 R362, Table LGC-3). -/
def execLgcQtest (proc sig : Nat) (s : State) : Host.Outcome State Fault Refusal := .next (execLogic .qtest proc sig s)
/-- QSUBST executes at the PC of the scan on the processor (12 R362, Table LGC-3). -/
def execLgcQsubst (proc sig : Nat) (s : State) : Host.Outcome State Fault Refusal := .next (execLogic .qsubst proc sig s)
/-- LDW executes at the PC of the scan on the processor (12 R362, Table LGC-3). -/
def execLgcLdw (proc sig : Nat) (s : State) : Host.Outcome State Fault Refusal := .next (execLogic .ldw proc sig s)
/-- LDWK executes at the PC of the scan on the processor (12 R362, Table LGC-3). -/
def execLgcLdwk (proc k : Nat) (s : State) : Host.Outcome State Fault Refusal := .next (execLogic .ldwk proc k s)
/-- LDWC executes at the PC of the scan on the processor (12 R362, Table LGC-3). -/
def execLgcLdwc (proc c : Nat) (s : State) : Host.Outcome State Fault Refusal := .next (execLogic .ldwc proc c s)
/-- LDWT executes at the PC of the scan on the processor (12 R362, Table LGC-3). -/
def execLgcLdwt (proc t : Nat) (s : State) : Host.Outcome State Fault Refusal := .next (execLogic .ldwt proc t s)
/-- CMPEQ executes at the PC of the scan on the processor (12 R362, Table LGC-3). -/
def execLgcCmpeq (proc sig : Nat) (s : State) : Host.Outcome State Fault Refusal := .next (execLogic .cmpeq proc sig s)
/-- CMPNE executes at the PC of the scan on the processor (12 R362, Table LGC-3). -/
def execLgcCmpne (proc sig : Nat) (s : State) : Host.Outcome State Fault Refusal := .next (execLogic .cmpne proc sig s)
/-- CMPGT executes at the PC of the scan on the processor (12 R362, Table LGC-3). -/
def execLgcCmpgt (proc sig : Nat) (s : State) : Host.Outcome State Fault Refusal := .next (execLogic .cmpgt proc sig s)
/-- CMPGE executes at the PC of the scan on the processor (12 R362, Table LGC-3). -/
def execLgcCmpge (proc sig : Nat) (s : State) : Host.Outcome State Fault Refusal := .next (execLogic .cmpge proc sig s)
/-- CMPLT executes at the PC of the scan on the processor (12 R362, Table LGC-3). -/
def execLgcCmplt (proc sig : Nat) (s : State) : Host.Outcome State Fault Refusal := .next (execLogic .cmplt proc sig s)
/-- CMPLE executes at the PC of the scan on the processor (12 R362, Table LGC-3). -/
def execLgcCmple (proc sig : Nat) (s : State) : Host.Outcome State Fault Refusal := .next (execLogic .cmple proc sig s)
/-- CMPEQK executes at the PC of the scan on the processor (12 R362, Table LGC-3). -/
def execLgcCmpeqk (proc k : Nat) (s : State) : Host.Outcome State Fault Refusal := .next (execLogic .cmpeqk proc k s)
/-- CMPNEK executes at the PC of the scan on the processor (12 R362, Table LGC-3). -/
def execLgcCmpnek (proc k : Nat) (s : State) : Host.Outcome State Fault Refusal := .next (execLogic .cmpnek proc k s)
/-- CMPGTK executes at the PC of the scan on the processor (12 R362, Table LGC-3). -/
def execLgcCmpgtk (proc k : Nat) (s : State) : Host.Outcome State Fault Refusal := .next (execLogic .cmpgtk proc k s)
/-- CMPGEK executes at the PC of the scan on the processor (12 R362, Table LGC-3). -/
def execLgcCmpgek (proc k : Nat) (s : State) : Host.Outcome State Fault Refusal := .next (execLogic .cmpgek proc k s)
/-- CMPLTK executes at the PC of the scan on the processor (12 R362, Table LGC-3). -/
def execLgcCmpltk (proc k : Nat) (s : State) : Host.Outcome State Fault Refusal := .next (execLogic .cmpltk proc k s)
/-- CMPLEK executes at the PC of the scan on the processor (12 R362, Table LGC-3). -/
def execLgcCmplek (proc k : Nat) (s : State) : Host.Outcome State Fault Refusal := .next (execLogic .cmplek proc k s)
/-- STW executes at the PC of the scan on the processor (12 R362, Table LGC-3). -/
def execLgcStw (proc sig : Nat) (s : State) : Host.Outcome State Fault Refusal := .next (execLogic .stw proc sig s)
/-- STWC executes at the PC of the scan on the processor (12 R362, Table LGC-3). -/
def execLgcStwc (proc sig : Nat) (s : State) : Host.Outcome State Fault Refusal := .next (execLogic .stwc proc sig s)

end Sys2Proof.Machine
end

