-- ==== Sys2Proof/Machine/Placement.lean ====
section
/-! DEFINITION. Placement (11): planned loads and limits, groups, the order of placement, migrations, the causes of
movement, and the commands of the placement class. The functions here read the configuration that the state holds; a
commit asks about a candidate by putting it there. -/
namespace Sys2Proof.Machine

/-! ### Planned loads (R341) -/

/-- What a node's firings come from: a chain of a stream of rate `rate`, or the system cycle, every DIV cycles. -/
inductive FireRoot where
  | chain (p : ChainParams) (rate : Nat) | cycle (div : Nat)
  deriving DecidableEq, Repr, Inhabited
/-- That of a node: its own cycle, its first chain slot, or its first source that has one. -/
def fireRoot (s : State) : Nat → Nat → Option FireRoot
  | 0, _ => none
  | f + 1, id => match nodeAt s id with
    | none => none
    | some (_, r) =>
      if r.cycle then some (.cycle r.cycleDiv)
      else match r.slots.findSome? (fun sl => if sl.kind ≤ 1 then
          (tget s.cfg.chains sl.ref).bind (fun c => (svCtx s c.stream).map (fun x => FireRoot.chain c x.rate)) else none) with
        | some q => some q
        | none => r.slots.findSome? (fun sl => if sl.kind = 2 then fireRoot s f sl.ref else none)
/-- Its rate, per second. -/
def rootRate (s : State) : FireRoot → Quot2
  | .chain p rate => (rate, max 1 (product p))
  | .cycle div => (unitsPerSec, max 1 (s.cfg.cycleLen * div))
/-- What the firings of a node of the configuration come from. -/
def nodeRoot (s : State) (id : Nat) : Option FireRoot := fireRoot s (Config.nodes s.variant + 1) id
/-- The planned load of a node, unit cycles per second. -/
def loadOf (s : State) (id : Nat) : Quot2 :=
  match nodeAt s id, (nodeRoot s id).map (rootRate s) with
  | some (_, r), some q => (r.cost * q.1, q.2)
  | _, _ => (0, 1)

/-- A cluster's capacity, unit cycles per second. -/
def clusterCap : Nat := 12800000000
/-- Nodes placed in a cluster. -/
def clusterNodes (s : State) (l : Loc) : List Nat := (s.plm.nodeLoc.filter (fun e => e.2 == l)).map (·.1)
/-- PLAN of a cluster, per-mille. -/
def clusterPlan (s : State) (l : Loc) : Nat := perMille (qsum ((clusterNodes s l).map (loadOf s))) clusterCap
/-- PLAN of a region: the sum over its eight clusters. -/
def regionPlan (s : State) (d a : Nat) : Nat := sumN ((List.range 8).map (fun c => clusterPlan s ⟨d, a, c⟩))
/-- The sum of a die's PLANs. -/
def diePlan (s : State) (d : Nat) : Nat := sumN ((List.range 4).map (regionPlan s d))
/-- Tasks placed on a processor. -/
def procTasks (s : State) (p : Nat) : List Nat := (s.plm.taskLoc.filter (fun e => 4 * e.2.die + e.2.region == p)).map (·.1)
/-- PLAN of a scheme logic processor for a list of tasks. -/
def logicPlan (s : State) (ts : List Nat) : Nat := imagesPlan s.cfg.cycleLen (ts.filterMap (taskImg s))

/-! ### What may hold what (R342 to R344) -/

/-- The kind and number of a placed object. -/
inductive Obj3 where
  | node (id : Nat) | task (t : Nat)
  deriving DecidableEq, Repr, Inhabited
/-- The place of an object. -/
def placeOf (s : State) : Obj3 → Option Loc
  | .node id => tget s.plm.nodeLoc id
  | .task t => tget s.plm.taskLoc t
/-- Put an object in a place. -/
def putAt (o : Obj3) (l : Loc) (s : State) : State :=
  match o with
  | .node id => { s with plm := { s.plm with nodeLoc := tset s.plm.nodeLoc id l } }
  | .task t => { s with plm := { s.plm with taskLoc := tset s.plm.taskLoc t l } }

/-- The owner of an object; logic tasks belong to the PF. -/
def ownerOf (s : State) : Obj3 → Nat
  | .node id => (match nodeAt s id with | some (g, _) => (match tget s.cfg.graphs g with | some e => e.1 | none => 0) | none => 0)
  | .task _ => 0
/-- A VF without the protection-class flag owns the node. -/
def plainVf (s : State) (id : Nat) : Bool :=
  match ownerOf s (.node id) with | 0 => false | f + 1 => tgetD s.cfg.vfProt f 0 != 1

/-- A die in service for placement. -/
def dieHealthy (s : State) (d : Nat) : Bool := hasDie s d && !s.plm.exclDies.contains d
/-- The number of a cluster in the package. -/
def clusterNo (l : Loc) : Nat := 32 * l.die + 8 * l.region + l.cluster
/-- The place of a cluster number. -/
def clusterLoc (k : Nat) : Loc := ⟨k / 32, k / 8 % 4, k % 8⟩
/-- The cluster is under self-test rotation. -/
def underTest (s : State) (l : Loc) : Bool := match tget s.plm.bist l.die with | some b => b.cluster == clusterNo l | none => false
/-- Healthy dies that a function's mask allows (R344). -/
def allowedDies (s : State) (func : Nat) : List Nat :=
  (List.range (Config.dies s.variant)).filter (fun d => dieHealthy s d && bitN (tgetD s.cfg.ownerDies func 0xFF) d)
/-- A region with a cluster in service. -/
def regionHealthy (s : State) (d a : Nat) : Bool :=
  dieHealthy s d && (List.range 8).any (fun c => !s.plm.exclClusters.contains (clusterNo ⟨d, a, c⟩))

/-- The entry of a group covers the object (Table PLM-7). -/
def entryHas (s : State) (e : GroupEntry) : Obj3 → Bool
  | .node id => (match e.type with
    | 0 => decide (e.first ≤ id ∧ id < e.first + e.count)
    | 1 => (match nodeAt s id with | some (g, r) => g == e.first / 64 && r.group == e.first % 64 | none => false)
    | _ => false)
  | .task t => e.type == 2 && e.first == t
/-- SETs in which a group holds the object. -/
def setsOf (s : State) (p : GroupParams) (o : Obj3) : List Nat := (p.entries.filter (fun e => entryHas s e o)).map (·.set)
/-- Every object that is placed. -/
def placed (s : State) : List (Obj3 × Loc) :=
  s.plm.nodeLoc.map (fun e => (Obj3.node e.1, e.2)) ++ s.plm.taskLoc.map (fun e => (Obj3.task e.1, e.2))
/-- Two places agree as a group's KIND asks; a task has no cluster (R343). -/
def agree (kind : Nat) (o q : Obj3) (l m : Loc) : Bool :=
  let sameRegion := l.die == m.die && l.region == m.region
  match kind with
  | 0 => (match o, q with | .node _, .node _ => l == m | _, _ => sameRegion)
  | 1 => sameRegion
  | 2 => l.die == m.die
  | 3 => l.die != m.die
  | _ => !sameRegion
/-- A place meets a group's constraint against the members placed (R343). -/
def groupOk (s : State) (o : Obj3) (l : Loc) (p : GroupParams) : Bool :=
  let mine := setsOf s p o
  mine.isEmpty || (placed s).all (fun q => q.1 == o || (let theirs := setsOf s p q.1
    theirs.isEmpty || (if p.kind ≤ 2 then agree p.kind o q.1 l q.2
      else mine.all (fun a => theirs.all (fun b => a == b)) || agree p.kind o q.1 l q.2)))
/-- Every group's constraint is met. -/
def groupsOk (s : State) (o : Obj3) (l : Loc) : Bool := s.cfg.groups.all (fun e => groupOk s o l e.2)

/-- A place with the object taken out of the map. -/
def without (o : Obj3) (s : State) : State :=
  match o with
  | .node id => { s with plm := { s.plm with nodeLoc := tdel s.plm.nodeLoc id } }
  | .task t => { s with plm := { s.plm with taskLoc := tdel s.plm.taskLoc t } }
/-- The state bytes of a node. -/
def stateLenOf (s : State) (id : Nat) : Nat := match nodeAt s id with | some (_, r) => r.stateLen | none => 0
/-- The protection rule of Table PLM-1 for a node in a cluster. -/
def protOk (s : State) (id : Nat) (l : Loc) : Bool :=
  (!isProt s id || !(clusterNodes s l).any (plainVf s)) && (!plainVf s id || !(clusterNodes s l).any (isProt s))

/-- Objects of a function without the die in its mask may not lie there (R344). -/
def maskOk (s : State) (o : Obj3) (d : Nat) : Bool := bitN (tgetD s.cfg.ownerDies (ownerOf s o) 0xFF) d
/-- Reasons of room, protection and die mask that an object does not fit a place, lowest first (Tables PLM-1 and PLM-8);
`limit` is the PLAN that a cluster may reach. -/
def roomMisfit (s : State) (limit : Nat) (o : Obj3) (l : Loc) : List Nat :=
  let s0 := without o s
  let s1 := putAt o l s0
  (match o with
  | .node id =>
    let ns := clusterNodes s1 l
    let onDie := (s1.plm.nodeLoc.filter (fun e => e.2.die == l.die)).length
    (if 256 < ns.length ∨ 1048576 < sumN (ns.map (stateLenOf s)) then [1] else [])
      ++ (if Config.nodesPerDie < onDie then [2] else [])
      ++ (if limit < clusterPlan s1 l ∨ 5950 < regionPlan s1 l.die l.region then [3] else [])
      ++ (if !protOk s0 id l || s.plm.exclClusters.contains (clusterNo l) then [4] else [])
  | .task _ => if imagesFit s.cfg.cycleLen ((procTasks s1 (4 * l.die + l.region)).filterMap (taskImg s)) = false then [3] else [])
    ++ (if maskOk s o l.die then [] else [5])
/-- Reasons that an object does not fit a place, lowest first; none when it fits (R342 to R345). -/
def misfit (s : State) (limit : Nat) (o : Obj3) (l : Loc) : List Nat :=
  let r := roomMisfit s limit o l
  if groupsOk (without o s) o l then r else r.filter (· < 4) ++ [4] ++ r.filter (4 < ·)

/-- The map as it will be when every requested move has ended. -/
def planned (s : State) : State :=
  foldSt (fun e s => putAt (.task e.1) e.2.1 s) s.plm.taskMoves (foldSt (fun m s => putAt (.node m.node) m.dest s) s.plm.migs s)
/-- Reasons that an object does not fit a place, by the map as it stands and as requested moves will leave it. -/
def unfit (s : State) (limit : Nat) (o : Obj3) (l : Loc) : List Nat := misfit s limit o l ++ misfit (planned s) limit o l

/-! ### The order of placement (R346) -/

/-- The node sources of a node, in slot order. -/
def nodeSources (s : State) (id : Nat) : List Nat :=
  match nodeAt s id with | some (_, r) => (r.slots.filter (fun sl => sl.kind == 2)).map (·.ref) | none => []
/-- The chains of a node, in slot order. -/
def nodeChains (s : State) (id : Nat) : List Nat :=
  match nodeAt s id with | some (_, r) => (r.slots.filter (fun sl => decide (sl.kind ≤ 1))).map (·.ref) | none => []
/-- The die of a chain. -/
def chainDie (c : Nat) : Nat := c / 8192
/-- The first of a list with the greatest measure. -/
def bestBy (m : Nat → Nat) : List Nat → Option Nat
  | [] => none
  | a :: l => match bestBy m l with | some b => if m a < m b then some b else some a | none => some a
/-- The home die of a node. -/
def homeDie (s : State) (id : Nat) : Option Nat :=
  let cs := sortBy (fun a b => decide (a ≤ b)) (nodeChains s id)
  match bestBy (fun d => countBy (fun c => chainDie c == d) cs) (dedupN (cs.map chainDie)) with
  | some d => some d
  | none => match (nodeSources s id).findSome? (fun n => tget s.plm.nodeLoc n) with
    | some l => some l.die
    | none => match nodeAt s id with
      | some (g, _) => ((sortBy (fun a b => decide (a ≤ b)) (nodesOf s g none)).findSome? (fun n => tget s.plm.nodeLoc n)).map (·.die)
      | none => none

/-- a stands before b in lexicographic order. -/
def lexLe : List Nat → List Nat → Bool
  | [], _ => true
  | _ :: _, [] => false
  | a :: l, b :: m => decide (a < b) || (a == b && lexLe l m)
/-- Sort by a list of keys. -/
def sortKey (key : Nat → List Nat) (l : List Nat) : List Nat := sortBy (fun a b => lexLe (key a) (key b)) l

/-- Placed members of the object's co-location groups of a KIND or a narrower one; a logic task has no cluster (R343). -/
def coPlaces (s : State) (kind : Nat) (o : Obj3) : List Loc :=
  (s.cfg.groups.filter (fun e => decide (e.2.kind ≤ kind) && !(setsOf s e.2 o).isEmpty)).flatMap (fun e =>
    ((placed s).filter (fun q => q.1 != o && !(setsOf s e.2 q.1).isEmpty
      && (kind != 0 || (match q.1 with | .node _ => true | .task _ => false)))).map (·.2))
/-- Regions of a die in a node's order. -/
def regionOrder (s : State) (id d : Nat) : List Nat :=
  let co := (coPlaces s 1 (.node id)).find? (fun l => l.die == d)
  let arr := (nodeChains s id).find? (fun c => chainDie c == d)
  let src := fun a => countBy (fun n => match tget s.plm.nodeLoc n with | some l => l.die == d && l.region == a | none => false)
    (nodeSources s id)
  sortKey (fun a => [if co.map (·.region) = some a then 0 else 1, if arr.map (fun c => c / 2048 % 4) = some a then 0 else 1,
    16 - min 16 (src a), if 0 < src a then 0 else regionPlan s d a, a]) (List.range 4)
/-- Clusters of a region in a node's order. -/
def clusterOrder (s : State) (id d a : Nat) : List Nat :=
  let co := (coPlaces s 0 (.node id)).find? (fun l => l.die == d && l.region == a)
  let src := ((nodeSources s id).filterMap (fun n => tget s.plm.nodeLoc n)).find? (fun l => l.die == d && l.region == a)
  sortKey (fun c => [if co.map (·.cluster) = some c then 0 else 1, if src.map (·.cluster) = some c then 0 else 1,
    clusterPlan s ⟨d, a, c⟩, c]) (List.range 8)
/-- Dies in a node's order. -/
def dieOrder (s : State) (id : Nat) : List Nat :=
  let dies := allowedDies s (ownerOf s (.node id))
  match homeDie s id with
  | some h => sortKey (fun d => [hops s.variant h d, diePlan s d, d]) dies
  | none => sortKey (fun d => [diePlan s d, d]) dies

/-- Signals that a task reads, with the die of each that has one. -/
def readDies (s : State) (t : Nat) : List Nat :=
  match taskImg s t with | some g => (logicReads g).filterMap (fun i => tget s.plm.sigDie i) | none => []
/-- The candidate places of an object, in order. -/
def candidates (s : State) (o : Obj3) : List Loc :=
  match o with
  | .node id => (dieOrder s id).flatMap (fun d => (regionOrder s id d).flatMap (fun a =>
      ((clusterOrder s id d a).map (fun c => (⟨d, a, c⟩ : Loc))).filter (fun l => !s.plm.exclClusters.contains (clusterNo l))))
  | .task t =>
    let rd := readDies s t
    let dies := sortKey (fun d => [rd.length - countBy (· == d) rd, d]) (allowedDies s 0)
    dies.flatMap (fun d => (sortKey (fun a => [logicPlan s (procTasks s (4 * d + a)), a]) (List.range 4)).map (fun a => ⟨d, a, 0⟩))

/-- The first candidate that fits. -/
def firstFit (s : State) (limit : Nat) (o : Obj3) : Option Loc := (candidates s o).find? (fun l => (unfit s limit o l).isEmpty)
/-- Why an object finds no place (R345). -/
def noFitReason (s : State) (limit : Nat) (o : Obj3) : Nat :=
  match candidates s o with
  | l :: _ => (sortBy (fun a b => decide (a ≤ b)) (unfit s limit o l)).headD 4
  | [] => if (List.range (Config.dies s.variant)).all (fun d => !dieHealthy s d) then 6
          else if (allowedDies s (ownerOf s o)).isEmpty then 5 else 4

/-- An object that finds no place: its type and ID, and the reason (Table PLM-8). -/
abbrev NoFit := Nat × Nat × Nat
/-- Type and ID of an object in events. -/
def objId : Obj3 → Nat × Nat
  | .node id => (0, id)
  | .task t => (1, t)

/-- Place one object unless it has a place; a kept place must still meet the limits and constraints, with the PLAN that an
evacuation allows (R340, R344, log entry 40). -/
def placeOne (o : Obj3) (s : State) : Except NoFit State :=
  match placeOf s o with
  | some l => (match misfit s (max 850 s.cfg.placeLimit) o l with
    | [] => .ok s
    | r :: _ => .error ((objId o).1, (objId o).2, r))
  | none => match firstFit s s.cfg.placeLimit o with
    | some l => .ok (putAt o l s)
    | none => .error ((objId o).1, (objId o).2, noFitReason s s.cfg.placeLimit o)
/-- Place a list of objects. -/
def placeAll : List Obj3 → State → Except NoFit State
  | [], s => .ok s
  | o :: l, s => match placeOne o s with | .ok s1 => placeAll l s1 | .error e => .error e

/-- Nodes by graph then node ID. -/
def nodesInOrder (s : State) : List (Nat × Nat × NodeRec) :=
  sortBy (fun a b => lexLe [a.2.1, a.1] [b.2.1, b.1]) (allNodes s)
/-- Tasks in their order. -/
def tasksInOrder (s : State) : List Nat := taskIds s

/-- The die of a signal's writer: its node's, its task's, or its context's; none without a writer (R346). -/
def writerDie (s : State) (ws : List (Writer × Nat)) (id : Nat) : Option Nat :=
  ws.findSome? (fun w => if w.2 == id then (match w.1 with
    | .node _ n => (tget s.plm.nodeLoc n).map (·.die)
    | .task t => (tget s.plm.taskLoc t).map (·.die)
    | .gs c => some (c / 4096)
    | .gp c => some (c / 1024)) else none)
/-- Signals on a die. -/
def signalsOn (s : State) (d : Nat) : Nat := countBy (fun e => e.2 == d) s.plm.sigDie
/-- Place one signal near a die. -/
def placeSignal (id d : Nat) (s : State) : Except NoFit State :=
  let s0 := { s with plm := { s.plm with sigDie := tdel s.plm.sigDie id } }
  match (sortKey (fun e => [hops s.variant d e, e]) ((List.range (Config.dies s.variant)).filter (dieHealthy s))).find?
      (fun e => decide (signalsOn s0 e < Config.signalsPerDie)) with
  | some e => .ok { s with plm := { s.plm with sigDie := tset s.plm.sigDie id e } }
  | none => .error (2, id, 3)
/-- Place signals that have no place; none of `want` without a writer goes to die 0. -/
def placeSignals (ws : List (Writer × Nat)) : List Nat → State → Except NoFit State
  | [], s => .ok s
  | i :: l, s =>
    if thas s.plm.sigDie i then placeSignals ws l s
    else match placeSignal i ((writerDie s ws i).getD 0) s with | .ok s1 => placeSignals ws l s1 | .error e => .error e

/-- Signals of a configuration, defined or declared, in ascending ID. -/
def allSignals (c : Cfg) : List Nat :=
  sortBy (fun a b => decide (a ≤ b)) (dedupN (c.signals.map (·.1) ++ c.tasks.flatMap (fun e => e.2.decls.map (·.id))))
/-- A group with more SETs than healthy dies or regions (R345). -/
def groupTooWide (s : State) : Option NoFit :=
  (sortBy (fun a b => decide (a.1 ≤ b.1)) s.cfg.groups).findSome? (fun e =>
    let sets := (dedupN (e.2.entries.map (·.set))).length
    let dies := (List.range (Config.dies s.variant)).filter (dieHealthy s)
    let regions := sumN (dies.map (fun d => countBy (regionHealthy s d) (List.range 4)))
    if e.2.kind = 3 ∧ dies.length < sets then some (3, e.1, 6)
    else if e.2.kind = 4 ∧ regions < sets then some (3, e.1, 4) else none)
/-- Drop the places of objects that the configuration does not hold (R340). -/
def dropRemoved (s : State) : State :=
  let sigs := allSignals s.cfg
  { s with plm := { s.plm with
      nodeLoc := s.plm.nodeLoc.filter (fun e => (nodeAt s e.1).isSome)
      taskLoc := s.plm.taskLoc.filter (fun e => (taskImg s e.1).isSome)
      taskMoves := s.plm.taskMoves.filter (fun e => (taskImg s e.1).isSome)
      migs := s.plm.migs.filter (fun m => (nodeAt s m.node).isSome)
      sigDie := s.plm.sigDie.filter (fun e => sigs.contains e.1) } }
/-- The placement for the configuration in the state, around what is placed already, in the order of R346 (R340, R345). A
cluster whose self-test is under way is a place like another (log entry 137). -/
def placeAround (s : State) : Except NoFit State :=
  match groupTooWide s with
  | some e => .error e
  | none =>
    let s0 := dropRemoved s
    let ns := nodesInOrder s0
    let nodes := ((ns.filter (fun n => n.2.2.prot)) ++ (ns.filter (fun n => !n.2.2.prot))).map (fun n => Obj3.node n.1)
    let ws := allWrites s0.cfg
    let sigs := allSignals s0.cfg
    let bySource := fun (s : State) (l : List Nat) => sigs.filter (fun i =>
      (match defOf s.cfg i with | some d => l.contains d.source | none => false) && (writerDie s ws i).isSome)
    (placeAll nodes s0).bind fun s1 => (placeSignals ws (bySource s1 [0, 2]) s1).bind fun s2 =>
      (placeAll ((tasksInOrder s2).map Obj3.task) s2).bind fun s3 => (placeSignals ws (bySource s3 [1]) s3).bind fun s4 =>
        placeSignals ws sigs s4
/-- A place in a die or cluster excluded now. -/
def outOfService (s : State) (l : Loc) : Bool := s.plm.exclDies.contains l.die || s.plm.exclClusters.contains (clusterNo l)
/-- Nothing placed and no move asked for, in a module with the exclusions of its start-up. -/
def unplaced (s : State) : State :=
  { s with plm := { s.plm with
      nodeLoc := [], taskLoc := [], sigDie := [], migs := [], taskMoves := [], evacuated := []
      bist := s.plm.bist.map (fun b => (b.1, { b.2 with moved := [] }))
      exclDies := s.plm.startDies, exclClusters := s.plm.startClusters } }
/-- The first placement: a function of the configuration, the variant and the exclusions of the start-up (R339). What then lies in a die
or cluster that a fault has excluded since leaves it at once (R352, log entry 166). -/
def placeAfresh (s : State) : Except NoFit State :=
  (placeAround (unplaced s)).bind fun s1 =>
    let gone := (s1.plm.nodeLoc.filter (fun e => outOfService s e.2)).map (·.1)
    placeAround { s1 with plm := { s1.plm with
      nodeLoc := s1.plm.nodeLoc.filter (fun e => !outOfService s e.2), taskLoc := s1.plm.taskLoc.filter (fun e => !s.plm.exclDies.contains e.2.die)
      sigDie := s1.plm.sigDie.filter (fun e => !s.plm.exclDies.contains e.2), evacuated := gone
      exclDies := s.plm.exclDies, exclClusters := s.plm.exclClusters } }
/-- The placement of a commit: the first after a restart places everything afresh, a later one what has no place (R339, R340). -/
def placement (s : State) : Except NoFit State := if s.plm.settled then placeAround s else placeAfresh s

/-! ### Moves of tasks and signals (R351) -/

/-- Movement for a cause is stopped by PLM_FREEZE (Table PLM-3). -/
def frozenCause (s : State) (cause : Nat) : Bool := s.plm.frozen && decide (cause ≤ 1)
/-- The PLAN that a cause may fill a cluster to: 850 in an evacuation (R342). -/
def causeLimit (s : State) (cause : Nat) : Nat := if cause ≤ 1 then s.cfg.placeLimit else 850
/-- A move may be made: its place has room, and the moves as requested meet every limit and constraint, so that a co-located group may
go one by one (R342, R343). -/
def moveRoom (s : State) (under : State) (cause : Nat) (o : Obj3) (l : Loc) : Bool :=
  (roomMisfit under (causeLimit s cause) o l).isEmpty && (misfit (planned s) (causeLimit s cause) o l).isEmpty
/-- A task that waits to move does so between two of its scans, when its place has room and its cause is not frozen; else it waits
on (R351, R352, log entry 137). -/
def tryTask (t : Nat) (s : State) : State :=
  match tget s.plm.taskMoves t with
  | none => s
  | some (l, cause) =>
    if scanPending s t || frozenCause s cause || !moveRoom s s cause (.task t) l then s
    else
      let s1 := hostRegion l (putAt (.task t) l s)
      { s1 with plm := { s1.plm with mapGen := s1.plm.mapGen + 1, taskMoves := tdel s1.plm.taskMoves t } }
/-- Ask for the move of a task. A task is in at most one move, and a die fault takes over a pending one (R353). -/
def moveTask (t : Nat) (l : Loc) (cause : Nat) (s : State) : State :=
  if cause ≠ 3 ∧ thas s.plm.taskMoves t = true then s
  else tryTask t { s with plm := { s.plm with taskMoves := tset s.plm.taskMoves t (l, cause) } }
/-- At a boundary no scan is in progress: tasks that wait move (R351). -/
def taskMovesBoundary (s : State) : State := foldSt (fun e s => tryTask e.1 s) s.plm.taskMoves s
/-- Move a signal record near a die; none moves where no die has room. -/
def moveSignal (id d : Nat) (s : State) : State :=
  match placeSignal id d s with
  | .ok s1 => if tget s1.plm.sigDie id = tget s.plm.sigDie id then s
              else { s1 with plm := { s1.plm with mapGen := s1.plm.mapGen + 1 } }
  | .error _ => s
/-- At a boundary, each signal record moves to the die of its writer, and off a die that is excluded (R351, R352). -/
def placementBoundary (s : State) : State :=
  let ws := allWrites s.cfg
  foldSt (fun e s =>
    let d := (writerDie s ws e.1).getD e.2
    if dieHealthy s e.2 && (e.2 == d || !dieHealthy s d) then s else moveSignal e.1 (if (writerDie s ws e.1).isSome then d else 0) s)
    s.plm.sigDie s

/-! ### Migration (R347 to R350) -/

/-- Pending matching entries of a node. -/
def pendingOf (s : State) (id : Nat) : List Entry := s.grf.store.filter (fun e => e.node == id)
/-- M, in ns (R347). -/
def migTime (s : State) (m : Mig) : Nat :=
  400 + 2 * ((stateLenOf s m.node + 63) / 64) + 10 * (pendingOf s m.node).length + 24 * hops s.variant (locOf s m.node).die m.dest.die
/-- The node's slack is at least M + 2,000 ns (R347). -/
def slackOk (s : State) (m : Mig) : Bool :=
  let cost := match nodeAt s m.node with | some (_, r) => r.cost | none => 0
  (pendingOf s m.node).all (fun e =>
    decide (8 * munits (now s) + (5 * cost + 8 * (migTime s m + 2000) : Nat) * two32 ≤ 8 * (deadline s m.node e.inst : Int) * two32))
/-- The conditions of R347. -/
def migReady (s : State) (m : Mig) : Bool :=
  !inService s m.node && !(pendingOf s m.node).any (·.inList) && slackOk s m
/-- Request a migration; a node is in at most one, and a die fault takes over every pending move (R350, R353). -/
def requestMig (id : Nat) (dest : Loc) (cause : Nat) (s : State) : State :=
  let m : Mig := ⟨id, dest, cause, s.tim.raw, none, false, none, false, none⟩
  if (locOf s id) == dest then s
  else if cause ≠ 3 ∧ s.plm.migs.any (fun a => a.node == id) = true then s
  else { s with plm := { s.plm with migs := s.plm.migs.filter (fun a => a.node != id) ++ [m] } }
/-- The region of a migration: that of the node's present home. -/
def migRegion (s : State) (m : Mig) : Nat := regionOf s m.node
/-- Change a migration. -/
def modMig (id : Nat) (f : Mig → Mig) (s : State) : State :=
  { s with plm := { s.plm with migs := s.plm.migs.map (fun m => if m.node == id then f m else m) } }
/-- Defer a migration and count it once (R349). -/
def deferMig (m : Mig) (s : State) : State :=
  let s1 := if m.deferRaw.isNone then bump (.plmDefer (locOf s m.node).die) s else s
  modMig m.node (fun a => { a with deferred := true, deferRaw := some (a.deferRaw.getD s.tim.raw) }) s1
/-- The destination still has room when a migration starts, beside the nodes on their way to it, and the moves as requested
still meet every limit and constraint (R342). -/
def migRoom (s : State) (m : Mig) : Bool :=
  moveRoom s (foldSt (fun a s => putAt (.node a.node) a.dest s) (s.plm.migs.filter (·.started.isSome)) s) m.cause (.node m.node) m.dest
/-- Try the migrations of a region in their order until one starts; one whose destination has no room waits. -/
def tryMigs : List Mig → State → State
  | [], s => s
  | m :: l, s => if !migRoom s m then tryMigs l s else if migReady s m then modMig m.node (fun a => { a with started := some s.tim.raw }) s else tryMigs l (deferMig m s)

/-- The next migration of a region starts; those whose conditions do not hold are deferred (R347, R349). -/
def execMigrationStart (region : Nat) (s : State) : Host.Outcome State Fault Refusal :=
  .next (
    let mine := s.plm.migs.filter (fun m => migRegion s m == region)
    if mine.any (·.started.isSome) then s
    else tryMigs (mine.filter (fun m => !m.deferred && !frozenCause s m.cause)) s)

/-- The cluster under rotation on a die is empty: its test starts (R353). -/
def bistBegin (die : Nat) (s : State) : State :=
  match tget s.plm.bist die with
  | some b => if (clusterNodes s (clusterLoc b.cluster)).isEmpty then
      { s with plm := { s.plm with bist := tset s.plm.bist die { b with testing := true } } } else s
  | none => s
/-- The node's home changes, and its ready entries enter the destination's list (R348). -/
def arrive (id : Nat) (dest : Loc) (s : State) : State :=
  let s0 := { s with grf := { s.grf with store := s.grf.store.map (fun (e : Entry) => if e.node == id then { e with atDest := false } else e) } }
  let s1 := putAt (.node id) dest { s0 with plm := { s0.plm with migs := s0.plm.migs.filter (fun m => m.node != id), mapGen := s0.plm.mapGen + 1 } }
  promote (4 * dest.die + dest.region) 64 (hostRegion dest s1)
/-- A node goes back to the cluster that its self-test has left, when it fits there (R347, R353). -/
def goBack (id : Nat) (back : Option Loc) (s : State) : State :=
  match back with
  | some l => if (misfit (planned s) 850 (.node id) l).isEmpty then requestMig id l 2 s else s
  | none => s
/-- A migration completes (R348). -/
def execMigrationComplete (node : Nat) (s : State) : Host.Outcome State Fault Refusal :=
  .next (match s.plm.migs.find? (fun m => m.node == node && m.started.isSome) with
    | none => s
    | some m =>
      let src := locOf s node
      goBack node m.back
        (bistBegin src.die (promote (4 * src.die + src.region) 64 (arrive node m.dest (bump (.plmMigrate src.die) s)))))

/-- A migration has been deferred for longer than DEFER_WARN (R349). -/
def execDeferWarnExpiry (node : Nat) (s : State) : Host.Outcome State Fault Refusal :=
  .next (match s.plm.migs.find? (fun m => m.node == node && m.started.isNone && !m.warned) with
    | none => s
    | some m => match m.deferRaw with
      | none => s
      | some r => if s.tim.raw - r ≤ rawMs s.cfg.deferWarn then s
        else recordEvent (evPkg 0x0802 node ((s.tim.raw - r) / rawMs 1) m.cause node) (modMig node (fun a => { a with warned := true }) s))

/-- A place packed for an event: die, region and cluster, one byte each (16 R483). -/
def packLoc (l : Loc) : Nat := l.die + 256 * l.region + 65536 * l.cluster

/-! ### Causes of movement (R352 to R355) -/

/-- Nodes of a cluster that may be moved, largest planned load first. -/
def byLoad (s : State) (l : Loc) : List Nat :=
  sortBy (fun a b => !qlt (loadOf s a) (loadOf s b)) ((clusterNodes s l).filter (fun id => !s.plm.migs.any (fun m => m.node == id)))
/-- A place that a move may go to, by a map: in service, not under test, and fitting. -/
def openPlace (p : State) (limit : Nat) (o : Obj3) (l : Loc) : Bool :=
  !p.plm.exclClusters.contains (clusterNo l) && (!underTest p l || (match o with | .task _ => true | .node _ => false))
    && dieHealthy p l.die && (misfit p limit o l).isEmpty
/-- Clusters of a region other than one, lowest PLAN first, by a map. -/
def otherClusters (p : State) (d a c : Nat) : List Loc :=
  ((sortKey (fun k => [clusterPlan p ⟨d, a, k⟩, k]) ((List.range 8).filter (· != c))).map (fun k => ⟨d, a, k⟩))
/-- Clusters of a die outside a region. -/
def otherRegions (p : State) (d a : Nat) : List Loc :=
  ((List.range 4).filter (· != a)).flatMap (fun b => otherClusters p d b 8)

/-- The place that an object leaves. -/
def leaves (s : State) (o : Obj3) : Loc := (placeOf s o).getD ⟨0, 0, 0⟩
/-- A move that would part a group from a member that stays is given up. -/
def keepGroups : Nat → State → State → List (Obj3 × Loc) → List (Obj3 × Loc)
  | 0, _, _, m => m
  | f + 1, s, p, m => match m.find? (fun e => !groupsOk p e.1 e.2) with
    | none => m
    | some e => keepGroups f s (putAt e.1 (leaves s e.1) p) (m.filter (fun x => x.1 != e.1))
/-- Destinations for objects that leave their places together, one after another: each is looked for with the others of the
set taken out of the map, so that a co-located group goes as one (R343, R352). An object that finds none stays. -/
def planMoves (s : State) (limit : Nat) (places : State → Obj3 → List Loc) (l : List Obj3) : List (Obj3 × Loc) :=
  let p0 := l.foldl (fun p o => without o p) (planned s)
  let r := l.foldl (fun (acc : State × List (Obj3 × Loc)) o => match (places acc.1 o).find? (openPlace acc.1 limit o) with
    | some d => (putAt o d acc.1, acc.2 ++ [(o, d)])
    | none => (putAt o (leaves s o) acc.1, acc.2)) (p0, [])
  keepGroups l.length s r.1 r.2
/-- Ask for one move. -/
def requestMove (cause : Nat) (e : Obj3 × Loc) (s : State) : State :=
  match e.1 with
  | .node id => requestMig id e.2 cause s
  | .task t => moveTask t e.2 cause s

/-- Move nodes of a list until the moved loads total the excess; the count moved. -/
def rebalanceGo (l : Loc) (excess : Nat) : List Nat → Quot2 → Nat → State → State × Nat
  | [], _, n, s => (s, n)
  | id :: rest, tot, n, s =>
    if excess * clusterCap * tot.2 ≤ 1000 * tot.1 then (s, n)
    else match (otherClusters (planned s) l.die l.region l.cluster ++ otherRegions (planned s) l.die l.region).find?
        (openPlace (planned s) s.cfg.placeLimit (.node id)) with
      | some d => rebalanceGo l excess rest (qadd tot (loadOf s id)) (n + 1) (requestMig id d 0 s)
      | none => rebalanceGo l excess rest tot n s
/-- MEAS of a cluster: the mean of its eight units' GRF_UNIT_BUSY over the last completed second, per-mille (R341). -/
def measOf (s : State) (cluster : Nat) : Nat :=
  1000 * sumN ((List.range 8).map (fun u => unitBusy s (8 * cluster + u))) / (8 * 65536)
/-- MEAS of the second before the one a check at this second sees, from what the last check kept. -/
def measBefore (sec : Nat) (e : Nat × Nat × Nat) : Nat := if e.1 = sec then e.2.2 else if e.1 + 1 = sec then e.2.1 else 0
/-- A rebalance of a cluster that is due (Table PLM-3). -/
def rebalance (cluster : Nat) (s : State) : State :=
  let m := (tgetD s.plm.meas cluster (0, 0, 0)).2.1
  let l := clusterLoc cluster
  let s0 := { s with plm := { s.plm with rebalDue := s.plm.rebalDue.filter (· != cluster) } }
  let (s1, n) := rebalanceGo l (m - s.cfg.placeLimit) (byLoad s l) (0, 1) 0 s0
  recordEvent (evCluster 0x0804 (packLoc l) n m l 0) s1
/-- A second ends: MEAS of a cluster above 850 in it and in the one before makes a rebalance due, which waits while PLM_FREEZE
is in force (Table PLM-3, R358). -/
def execRebalanceCheck (die region cluster : Nat) (s : State) : Host.Outcome State Fault Refusal :=
  .next (
    if hasDie s die = false ∨ 3 < region ∨ 7 < cluster then s
    else
      let cluster := clusterNo ⟨die, region, cluster⟩
      let sec := s.tim.raw / rawSec 1
      let m := measOf s cluster
      let prev := measBefore sec (tgetD s.plm.meas cluster (0, 0, 0))
      let due := decide (850 < m ∧ 850 < prev)
      let others := s.plm.rebalDue.filter (· != cluster)
      let s1 := { s with plm := { s.plm with meas := tset s.plm.meas cluster (sec, m, prev),
                                             rebalDue := if due then others ++ [cluster] else others } }
      if due && !s.plm.frozen then rebalance cluster s1 else s1)

/-- Objects of a region, in the order of placement. -/
def regionNodes (s : State) (d a : Nat) : List Nat :=
  ((nodesInOrder s).map (·.1)).filter (fun id => match tget s.plm.nodeLoc id with | some l => l.die == d && l.region == a | none => false)
/-- The nodes and tasks of a region. -/
def regionObjects (s : State) (d a : Nat) : List Obj3 :=
  (regionNodes s d a).map .node ++ (procTasks s (4 * d + a)).map .task
/-- The highest region of the die that holds objects and no protection-class node moves out, when all of it fits elsewhere on the
die (Table PLM-3). -/
def consolidate (die : Nat) (s : State) : State :=
  match [3, 2, 1, 0].find? (fun a => !(regionNodes s die a).any (isProt s) && !(regionObjects s die a).isEmpty) with
  | none => s
  | some a =>
    let l := regionObjects s die a
    let m := planMoves s s.cfg.placeLimit (fun p o => (candidates p o).filter (fun x => x.die == die && x.region != a)) l
    if m.length = l.length then foldSt (requestMove 1) m s else s
/-- Every 10 s with CONSOLIDATE set, each die's objects are consolidated (Table PLM-3). -/
def execConsolidation (die : Nat) (s : State) : Host.Outcome State Fault Refusal :=
  .next (if s.cfg.consolidate ≠ 1 ∨ s.plm.frozen = true ∨ dieHealthy s die = false then s
    else every 7 die (rawSec 10) (consolidate die) s)

/-- Ask for the evacuation of a cluster: other clusters of the region, lowest PLAN first, up to 850. -/
def clearCluster (l : Loc) (s : State) : State :=
  foldSt (requestMove 2) (planMoves s 850 (fun p _ => otherClusters p l.die l.region l.cluster) ((byLoad s l).map .node)) s
/-- The next cluster of a die in the rotation: from the one after the last, skipping excluded ones. -/
def nextBist (s : State) (die : Nat) : Option Nat :=
  (List.range 32).findSome? (fun i =>
    let k := 32 * die + (tgetD s.plm.bistNext die 0 + i) % 32
    if s.plm.exclClusters.contains k then none else some k)
/-- The next cluster of the die is evacuated for its self-test (14 R450, Table PLM-3). -/
def rotate (die : Nat) (s : State) : State :=
  match nextBist s die with
  | none => s
  | some k =>
    let l := clusterLoc k
    let b : Bist := ⟨k, s.tim.raw, (clusterNodes s l).map (fun id => (id, l)), false⟩
    bistBegin die (clearCluster l { s with plm := { s.plm with bist := tset s.plm.bist die b, bistNext := tset s.plm.bistNext die (k % 32 + 1) } })
/-- Every 937.5 ms the self-test rotation of a die goes on to its next cluster. -/
def execClusterBist (die : Nat) (s : State) : Host.Outcome State Fault Refusal :=
  .next (if s.pair.state = .failed ∨ dieHealthy s die = false ∨ thas s.plm.bist die = true then s
    else every 2 die 468750000 (rotate die) s)

/-- The nodes that left a cluster for its test return to it; one in the middle of its move returns after it (R347, R353). -/
def bistReturn (b : Bist) (s : State) : State :=
  let l := clusterLoc b.cluster
  let s1 := { s with plm := { s.plm with bist := tdel s.plm.bist l.die, migs := (s.plm.migs.filter (fun m =>
    !(m.cause == 2 && m.started.isNone && (locOf s m.node) == l))).map (fun m =>
      if m.cause == 2 && (locOf s m.node) == l then { m with back := some l } else m) } }
  let back := (b.moved.filter (fun e => (nodeAt s e.1).isSome && (locOf s e.1) != l && !s1.plm.migs.any (fun m => m.node == e.1))).map
    (fun e => Obj3.node e.1)
  foldSt (requestMove 2) (planMoves s1 850 (fun _ _ => [l]) back) s1
/-- A cluster that is not empty 100 ms after the request skips its test; one that is empty takes it (R353). -/
def execEvPlmBistSkip (die : Nat) (s : State) : Host.Outcome State Fault Refusal :=
  .next (match tget s.plm.bist die with
    | none => s
    | some b =>
      if b.testing ∨ s.tim.raw - b.reqRaw < rawMs 100 then s
      else if (clusterNodes s (clusterLoc b.cluster)).isEmpty then bistBegin die s
      else
        let l := clusterLoc b.cluster
        let left := (clusterNodes s l).length
        let s1 := bistReturn b (bump (.plmBistSkip die) s)
        recordEvent (evCluster 0x0805 (packLoc l) left 0 l 0) { s1 with pair := { s1.pair with bistSkip := s1.pair.bistSkip + 1 } })

/-- A self-test event (14 Table PAIR-13): test, place, result. -/
def evSelftest (test place result : Nat) (s : State) : State := recordEvent (evSys 0x0B08 test place result 0) s
/-- A cluster's logic BIST ends (14 Table PAIR-8a). -/
def execClusterTestEnd (die : Nat) (ok : Bool) (s : State) : Host.Outcome State Fault Refusal :=
  .next (match tget s.plm.bist die with
    | none => s
    | some b =>
      if !b.testing then s
      else if ok then
        let s1 := bistReturn b s
        { s1 with pair := { s1.pair with bistPass := s1.pair.bistPass + 1 } }
      else
        let s1 := { s with plm := { s.plm with bist := tdel s.plm.bist die, exclClusters := dedupN (s.plm.exclClusters ++ [b.cluster]) },
                           pair := { s.pair with bistFail := s.pair.bistFail + 1 } }
        evSelftest 0 (packLoc (clusterLoc b.cluster)) 1 (setFlag 12 true s1))

/-- A node of a faulted die whose state cannot be read is created again at its destination: the source of its state is
0 the partner, 1 the next mirror, 2 cold (R354). -/
def recreate (id : Nat) (dest : Loc) (s : State) : State × Nat :=
  let s1 := arrive id dest s
  let x := nodeSt s1 id
  if s.pair.state = .active ∧ partnerState s = 2 then (leashSend (.pageReq ⟨0, id, 0⟩) dest.die id (setNode id { x with lost := true } s1), 0)
  else if s.pair.state = .standby then (setNode id { x with op := {}, outs := [] } s1, 1)
  else (coldNode id s1, 2)
/-- Move one object off a faulted die: the counts migrated and created again from the partner, the mirror and cold (R354). -/
def evacuateOne (readable : Bool) (acc : State × List Nat) (e : Obj3 × Loc) : State × List Nat :=
  match e.1 with
  | .task t => (moveTask t e.2 3 acc.1, acc.2)
  | .node id =>
    let s0 := { acc.1 with plm := { acc.1.plm with evacuated := dedupN (acc.1.plm.evacuated ++ [id]) } }
    if readable then (requestMig id e.2 3 s0, modAt acc.2 0 (· + 1))
    else
      let (s1, k) := recreate id e.2 s0
      (s1, modAt acc.2 (k + 1) (· + 1))
/-- An object lies on a die, or is on its way to it. -/
def boundFor (s : State) (d : Nat) (o : Obj3) : Bool := (leaves s o).die == d || (leaves (planned s) o).die == d
/-- A fault of a die other than die 0: the die-fault flag, its exclusion, and the evacuation, which takes over every pending
move (01 R40, R352 to R355). The records of its signals move at the next boundary (R351). -/
def dieEvacuate (die : Nat) (readable : Bool) (s : State) : State :=
  if die = 0 ∨ dieHealthy s die = false then s
  else
    let s1 := setFlag 2 true { s with
      hwi := { s.hwi with dieFaults := dedupN (s.hwi.dieFaults ++ [die]) }
      plm := { s.plm with exclDies := s.plm.exclDies ++ [die], bist := tdel s.plm.bist die } }
    let ns := nodesInOrder s1
    let order := (ns.filter (fun n => n.2.2.prot) ++ ns.filter (fun n => !n.2.2.prot)).map (fun n => Obj3.node n.1)
      ++ (tasksInOrder s1).map .task
    let m := planMoves s1 850 candidates (order.filter (boundFor s1 die))
    let (s2, k) := m.foldl (evacuateOne readable) (s1, [0, 0, 0, 0])
    recordEvent (evDie 0x0803 die (nth k 0 0) (nth k 1 0 + 65536 * nth k 2 0 + 4294967296 * nth k 3 0) die die) s2
/-- DIE_EVACUATION: a die has raised its fault flag. -/
def execDieEvacuation (die : Nat) (readable : Bool) (s : State) : Host.Outcome State Fault Refusal :=
  .next (dieEvacuate die readable s)

/-! ### Skew of the dies (03 R110, R111) -/

/-- The one-way delay that a two-way exchange measures, ps: half the round trip less the time at the die. -/
def exchangeDelay (x : TwoWay) : Int := ((x.t4 - x.t1) - (x.t3 - x.t2)) / 2
/-- What a die's copy of RAW is ahead of die 0's, ps, with that delay compensated. -/
def exchangeSkew (x : TwoWay) : Int := x.t3 + exchangeDelay x - x.t4
/-- The effect of an exchange: die 0 sends at t1, the die takes it at t2 and answers at t3, die 0 takes the answer at t4, in ps of each
die's own RAW. The die's copy is moved by the skew. EV_DIE_SKEW comes with the third exchange in a row above 1 ns (log entry
128); above 2 ns the die is at fault, which starts its evacuation (01 R40). -/
def alignDie (die : Nat) (x : TwoWay) (s : State) : State :=
  let skew := exchangeSkew x
  let run := if 1000 < skew.natAbs then tgetD s.tim.skewRun die 0 + 1 else 0
  let s1 := { s with tim := { s.tim with
    dieSkew := tset s.tim.dieSkew die skew, skewRun := tset s.tim.skewRun die run,
    dieOfs := tset s.tim.dieOfs die (tgetD s.tim.dieOfs die 0 - skew),
    dieDelay := tset s.tim.dieDelay die (exchangeDelay x) } }
  let s2 := if run = 3 then recordEvent (evPkg 0x010A die (ps skew) 0 die) s1 else s1
  if 2000 < skew.natAbs then dieEvacuate die true s2 else s2
/-- DIE_SKEW_EXCHANGE: every 1 ms, for each die but die 0 (R110). -/
def execDieSkewExchange (die : Nat) (x : TwoWay) (s : State) : Host.Outcome State Fault Refusal :=
  .next (if hasDie s die = false ∨ die = 0 then s else every 8 die (rawMs 1) (alignDie die x) s)

/-! ### Commands (R357, R358) -/

/-- A group entry in its ranges (Table PLM-7). -/
def groupEntryOk (kind : Nat) (e : GroupEntry) : Bool :=
  decide (e.type ≤ 2 ∧ e.set ≤ 7 ∧ 1 ≤ e.count ∧ e.count ≤ 32768) && (decide (3 ≤ kind) || e.set == 0)
    && (e.type == 0 || e.count == 1)
/-- PLM_GROUP_SET. -/
def plmGroupSetPacket (h : Hdr) (group valid : Nat) (p : GroupParams) : Packet :=
  configPacket h 0x0800 (fun _ => decide (group ≤ 1023 ∧ valid ≤ 1 ∧ p.kind ≤ 4 ∧ 1 ≤ p.entries.length ∧ p.entries.length ≤ 1024)
    && p.entries.all (groupEntryOk p.kind)) (.plmGroup group (valid == 1) p)
/-- PLM_GROUP_SET. -/
def execPlmGroupSet (h : Hdr) (group valid : Nat) (p : GroupParams) (s : State) : Host.Outcome State Fault Refusal :=
  .next (submit (.plmGroupSet h group valid p) (plmGroupSetPacket h group valid p) s)
/-- PLM_OWNER_DIES. -/
def plmOwnerDiesPacket (h : Hdr) (func dies : Nat) : Packet :=
  { configPacket h 0x0801 (fun _ => true) (.ownerDies func dies) with
    unsupported := funcUnsupported func,
    eff := fun j s => if funcBusy func s then failRes stBusy s
      else (configPacket h 0x0801 (fun s => decide (dies < 256 ∧ 0 < dies % 2 ^ Config.dies s.variant) && funcExists s func)
        (.ownerDies func dies)).eff j s }
/-- PLM_OWNER_DIES. -/
def execPlmOwnerDies (h : Hdr) (func dies : Nat) (s : State) : Host.Outcome State Fault Refusal :=
  .next (submit (.plmOwnerDies h func dies) (plmOwnerDiesPacket h func dies) s)
/-- PLM_POLICY. -/
def plmPolicyPacket (h : Hdr) (placeLimit consolidate deferWarn : Nat) : Packet :=
  configPacket h 0x0802 (fun _ => decide (100 ≤ placeLimit ∧ placeLimit ≤ 850 ∧ consolidate ≤ 1 ∧ 10 ≤ deferWarn ∧ deferWarn ≤ 60000))
    (.plmPolicy placeLimit consolidate deferWarn)
/-- PLM_POLICY. -/
def execPlmPolicy (h : Hdr) (placeLimit consolidate deferWarn : Nat) (s : State) : Host.Outcome State Fault Refusal :=
  .next (submit (.plmPolicy h placeLimit consolidate deferWarn) (plmPolicyPacket h placeLimit consolidate deferWarn) s)
/-- PLM_FREEZE; a release continues the rebalances still due (R358). -/
def plmFreezePacket (h : Hdr) (enable : Nat) : Packet :=
  { h, opcode := 0x0840, pfOnly := true,
    eff := fun _ s =>
      if 1 < enable then failRes stFailed s
      else
        let s1 := { s with plm := { s.plm with frozen := enable == 1 } }
        okRes (if enable = 0 then foldSt rebalance s.plm.rebalDue s1 else s1) }
/-- PLM_FREEZE. -/
def execPlmFreeze (h : Hdr) (enable : Nat) (s : State) : Host.Outcome State Fault Refusal :=
  .next (submit (.plmFreeze h enable) (plmFreezePacket h enable) s)

/-- An entry of the placement map (Table PLM-7). -/
def mapWord (moving evac : Bool) (die region cluster : Nat) : BitVec 32 :=
  BitVec.ofNat 32 (2 ^ 31 + bbit moving 30 + bbit evac 29 + die % 8 * 32 + region % 4 * 8 + cluster % 8)
/-- The entry of an object for a reader. -/
def mapEntry (s : State) (func type id : Nat) : BitVec 32 :=
  match type with
  | 0 => (match nodeAt s id, tget s.plm.nodeLoc id with
    | some (g, _), some l => if func = 0 ∨ graphOwner s g = func then
        mapWord (moving s id) (s.plm.evacuated.contains id || s.plm.bist.any (fun b => b.2.moved.any (fun m => m.1 == id) && l != clusterLoc b.2.cluster))
          l.die l.region l.cluster else 0
    | _, _ => 0)
  | 1 => (match tget s.plm.taskLoc id with
    | some l => if func = 0 then mapWord (thas s.plm.taskMoves id) false l.die l.region 0 else 0
    | none => 0)
  | _ => (match defOf s.cfg id, tget s.plm.sigDie id with
    | some d, some e => if func = 0 ∨ (d.source = 3 ∧ d.owner = func) then mapWord false false e 0 0 else 0
    | _, _ => 0)
/-- PLM_MAP_READ. -/
def plmMapReadPacket (h : Hdr) (type first count buf : Nat) : Packet :=
  { h, opcode := 0x0880, pfOnly := false, outBytes := 4 * count,
    eff := fun _ s =>
      if 2 < type ∨ count = 0 ∨ 65536 < count then failRes stFailed s
      else .done stOk (resB 0 (s.plm.mapGen % 2 ^ 64) ||| resB 8 (s.plm.mapGen % 2 ^ 64))
        (hostWrite h.func buf ((List.range count).flatMap (fun i => leBytes 4 (mapEntry s h.func type (first + i)).toNat)) s) }
/-- PLM_MAP_READ. -/
def execPlmMapRead (h : Hdr) (type first count buf : Nat) (s : State) : Host.Outcome State Fault Refusal :=
  .next (submit (.plmMapRead h type first count buf) (plmMapReadPacket h type first count buf) s)

end Sys2Proof.Machine
end

