-- ==== Sys2Proof/Machine/Loop.lean ====
section
/-! DEFINITION. The plant loop engine (13): its input, the computation of a sample, enabling and draining, coefficients,
and the commands of the loop class. -/
namespace Sys2Proof.Machine

/-! ### Coefficients (R413, Table LOP-1) -/

/-- A coefficient in its range. -/
def coefOk (i : Nat) (v : F32) : Bool :=
  !fbad v && (match i with
    | 1 => !flt v 0
    | 16 | 17 => flt 0 v
    | 18 | 19 | 20 => v == 0 || v == cONE
    | _ => decide (i ≤ 36))
/-- Coefficient `i` in force. -/
def coefAt (x : LopSt) (i : Nat) : F32 := nth x.coef i 0
/-- Every coefficient of a block in its range. -/
def coefsOk (l : List F32) : Bool := l.length == 37 && (List.range 37).all (fun i => coefOk i (nth l i 0))

/-! ### Input (R402 to R404) -/

/-- The rate of the loop. -/
def loopRate (s : State) : Nat := match s.cfg.loop with | some p => p.rate | none => 0
/-- T(n) − IN_LAG, in units of 2^−32 ns. -/
def loopAsk (p : LoopParams) (n : Nat) : Int := munits (instantTime p.rate n) - p.inLag * 1000 * two32
/-- The greatest instant of a rate whose time is not later than `t`. -/
def lastInstant (rate : Nat) (t : Int) : Nat := (((t + 1) * rate - 1) / secUnits).toNat
/-- The greatest instant not later than `n` at which a chain of decimation product `p` gives an output (07 R217, R227). -/
def lastOutput (s : State) (rate p n : Nat) : Nat :=
  n - (((n : Int) - heelInstant rate (heelFor s rate n)) % (max 1 p : Nat)).toNat
/-- The boundary of the greatest cycle number that is a multiple of DIV and opens not later than `t`. A firing of a cycle before the
last change of L has the number, and so the time, that the change has given it (log entry 60). -/
def cycleFiring (s : State) (div : Nat) (t : Int) : Int :=
  let at_ := fun (len : Nat) (t : Int) => cycleOf len (mtimeOfUnits t) / max 1 div * max 1 div
  let now_ := munits (boundaryTime s.cfg.cycleLen (at_ s.cfg.cycleLen t))
  match s.lop.lenWas with
  | none => now_
  | some (sec, len) =>
    if (sec : Int) * secUnits ≤ now_ then now_
    else munits (boundaryTime s.cfg.cycleLen (len * at_ len (min t (sec * secUnits - 1)) / max 1 s.cfg.cycleLen))
/-- The instant time of a node's firing with the greatest instant time not later than `t` (R403). -/
def firingTime (s : State) (t : Int) : FireRoot → Int
  | .chain p rate =>
    let d := if p.priv = 1 then groupDelay p else 0
    munits (instantTime rate (lastOutput s rate (product p) (lastInstant rate t + d) - d))
  | .cycle div => cycleFiring s div t
/-- The input of sample n, when it has arrived: its binary32 value and its QUAL (R403, R404). -/
def loopInput (s : State) (p : LoopParams) (n : Nat) : Option (F32 × Nat) :=
  let t := loopAsk p n
  if p.inputKind = 0 then
    match (nodeRoot s p.inputRef).map (firingTime s t) with
    | none => none
    | some least => ((sortBy (fun a b => decide (b.1 ≤ a.1)) (s.lop.inputs.filter (fun e => decide (least ≤ e.1 ∧ (e.1 : Int) ≤ t)))).head?).map
        (fun e => (toF (instantTime p.rate n) e.2, e.2.qual))
  else
    let c := cycleOf s.cfg.cycleLen (mtimeOfUnits t)
    if s.cycleNum < c then none
    else
      let v := sigOperand s p.inputRef c
      some (toF (instantTime p.rate n) v, v.qual)

/-! ### Computation (R405 to R408) -/

/-- A biquad: the output, the new s1 and s2, and its intermediate values. -/
def biquad (byp b0 b1 b2 a1 a2 e s1 s2 : F32) : F32 × F32 × F32 × List F32 :=
  if !fzero byp then (e, 0, 0, [])
  else
    let y := ffma b0 e s1
    let m := ffma (fneg a1) y s2
    let n1 := ffma b1 e m
    let q := fmul a2 y
    let n2 := ffma b2 e (fneg q)
    (y, n1, n2, [y, m, n1, q, n2])

/-- What a sample computes. -/
structure LoopCalc where
  s11 : F32
  s21 : F32
  s12 : F32
  s22 : F32
  i : F32
  /-- The limited PI result, and whether it was limited. -/
  u : F32
  clamped : Bool
  /-- Every intermediate value. -/
  mids : List F32
  deriving DecidableEq, Repr, Inhabited

/-- Error, deadband, biquads and PI (R405). -/
def loopPi (x : LopSt) (inp : F32) : LoopCalc :=
  let k := coefAt x
  let e := fsub (k 0) inp
  let e1 := if flt (k 1) e then fsub e (k 1) else if flt e (fneg (k 1)) then fadd e (k 1) else 0
  let (y1, a1, b1, m1) := biquad (k 19) (k 2) (k 3) (k 4) (k 5) (k 6) e1 x.s11 x.s21
  let (v, a2, b2, m2) := biquad (k 20) (k 7) (k 8) (k 9) (k 10) (k 11) y1 x.s12 x.s22
  let p := fmul (k 12) v
  let d := fmul (k 13) v
  let i0 := fadd x.i d
  let u0 := fadd p i0
  let back := (flt (k 15) u0 && flt 0 d) || (flt u0 (k 14) && flt d 0)
  let i1 := if back then x.i else i0
  let u1 := if back then fadd p x.i else u0
  let u := fmin (fmax u1 (k 14)) (k 15)
  { s11 := a1, s21 := b1, s12 := a2, s22 := b2, i := i1, u, clamped := !feq u u1,
    mids := [e, e1] ++ m1 ++ m2 ++ [v, p, d, i0, u0, u1, u] }

/-- The rate limiter: y, whether r was limited, and its intermediate values. -/
def loopWalk (x : LopSt) (u : F32) : F32 × Bool × List F32 :=
  let r0 := fsub u x.yp
  let r := fmin (fmax r0 (fneg (coefAt x 17))) (coefAt x 16)
  let y := fadd x.yp r
  (y, !feq r r0, [r0, r, y])
/-- Output k of y: its value before i32. -/
def outScaled (x : LopSt) (y : F32) (k : Nat) : F32 := ffma y (coefAt x (21 + k)) (coefAt x (29 + k))
/-- HOLD is in force. -/
def loopHold (x : LopSt) : Bool := !fzero (coefAt x 18)
/-- i32 saturated. -/
def i32Sat (v : F32) : Bool := fle 0x4F000000#32 v || flt v 0xCF000000#32
/-- The outputs of a computed sample with their QUALs (R406). -/
def loopOuts (x : LopSt) (y : F32) (q : Nat) (hold : Bool) : List (Int × Nat) :=
  (List.range 8).map (fun k =>
    let v := outScaled x y k
    let q0 := qPut (qSet (qClr q 14) 13) 15 (hold || bitN q 15)
    if loopHold x then (nth x.outPrev k 0, q0) else (fi32 v, if i32Sat v then qSet q0 2 else q0))
/-- Outputs that repeat out_prev. -/
def loopRepeat (x : LopSt) (q : Nat) (hold : Bool) : List (Int × Nat) :=
  (List.range 8).map (fun k => (nth x.outPrev k 0, q ||| bbit hold 15))

/-! ### Samples -/

/-- EV_LOOP_STATE. -/
def evLoopState (old new : Nat) (s : State) : State := recordEvent (evPkg 0x0A01 (old + 256 * new) 0 0 0) s
/-- EV_SCHED_EXEC (09 Table GRF-12). -/
def evSchedExec (h : Nat) (e : SchedEntry) (late : Int) (st : Nat) (s : State) : State :=
  recordEvent (evPkg 0x0704 (h + 65536 * e.action) (ps late) st 0) s
/-- Samples back to which the module can compute again. -/
def resampleMax : Nat := 256
/-- Write one coefficient at its sample (R414, R415). -/
def putCoef (c : PendCoef) (s : State) : State :=
  let s1 := { s with lop := { s.lop with coef := s.lop.coef.set c.index c.value,
                                         applied := s.lop.applied.filter (fun a => decide (c.effect ≤ a.effect + resampleMax)) ++ [c] } }
  let s2 := if c.late then bump (.lop 5) s1 else s1
  recordEvent (evAt (instantTime (loopRate s) c.effect) (evPkg 0x0A02 c.index c.value.toNat c.effect 0)) s2
/-- A setpoint action at its sample (09 Table GRF-7): the status is that of the equivalent command. -/
def putSetpoint (h n : Nat) (e : SchedEntry) (s : State) : State :=
  let s1 := { s with grf := { s.grf with sched := tdel s.grf.sched h } }
  let late := lateness s1 e.sec e.ns
  if coefOk 0 e.arg1 && s.cfg.loop.isSome then evSchedExec h e late stOk (putCoef ⟨0, e.arg1, n, false, e.jseq⟩ s1)
  else evSchedExec h e late stFailed s1
/-- The sample of a setpoint action: the first at or after AT, or after the acceptance when AT was past (09 R300, Table GRF-7). -/
def setpointAt (s : State) (e : SchedEntry) : Nat := instantFrom (loopRate s) (if e.late then e.accepted else secNs e.sec e.ns)
/-- Changes that take effect at a sample not later than n: each with its sample and its journal sequence, in the order they are made
(R414). -/
def dueCoefs (s : State) (n : Nat) : List (Nat × Nat × (State → State)) :=
  let a := s.lop.pend.map (fun c => (c.effect, c.jseq, putCoef c))
  let b := (s.grf.sched.filter (fun e => e.2.action == 2)).map (fun e => (setpointAt s e.2, e.2.jseq, putSetpoint e.1 (setpointAt s e.2) e.2))
  sortBy (fun x y => decide (x.1 < y.1 ∨ (x.1 = y.1 ∧ x.2.1 ≤ y.2.1))) ((a ++ b).filter (fun x => decide (x.1 ≤ n)))
/-- Apply the changes of the samples to n. -/
def applyCoefs (n : Nat) (s : State) : State :=
  let l := dueCoefs s n
  let s1 := { s with lop := { s.lop with pend := s.lop.pend.filter (fun c => !decide (c.effect ≤ n)) } }
  foldSt (fun e s => e.2.2 s) l s1
/-- A loop that computes no samples takes the changes of the samples to n all the same (R402, R414). -/
def idleCoefs (n : Nat) (s : State) : State := if s.cfg.loop.isSome && loopIdle s n then applyCoefs n s else s
/-- Those whose time has come. -/
def idleNow (s : State) : State := idleCoefs (lastInstant (loopRate s) (munits (now s))) s

/-- Sampled-value publications take the outputs of a sample (08 R264). -/
def feedLoop (rate n : Nat) (outs : List (Int × Nat)) (s : State) : State :=
  { s with sig := { s.sig with svp := s.sig.svp.map (fun e =>
      match tget s.cfg.svp e.1 with
      | none => e
      | some p =>
        if (e.2.o.obj = .on ∨ e.2.o.obj = .draining) ∧ p.rate = rate then
          let idx := (List.range p.sources.length).filter (fun i => (nth p.sources i ⟨0, 0⟩).kind == 1)
          (e.1, { e.2 with ready := e.2.ready ++ idx.map (fun i =>
            let o := nth outs (nth p.sources i ⟨1, 0⟩).ref (0, qDead)
            (i, n, o.1, o.2)) })
        else e) } }
/-- Give the outputs of sample n and go on to the next one. -/
def giveOuts (rate n : Nat) (outs : List (Int × Nat)) (s : State) : State :=
  feedLoop rate n outs { s with lop := { s.lop with outs := outs, last := n, nextSample := n + 1 } }

/-- A sample without a usable input (R407). -/
def sampleInvalid (p : LoopParams) (n : Nat) (s : State) : State :=
  let x := s.lop
  let run := x.invRun + 1
  let t := instantTime p.rate n
  let q := qSet (if p.invHold < run then 1 else 3) 7
  let s1 := bump (.lop 1) { s with lop := { x with invRun := run } }
  let s2 := if run = 1 then recordEvent (evAt t (evPkg 0x0A04 0 n run 0)) s1 else s1
  giveOuts p.rate n (loopRepeat x q (holdAt s t)) s2
/-- The invalid run ends with a valid input. -/
def endRun (p : LoopParams) (n : Nat) (s : State) : State :=
  if s.lop.invRun = 0 then s
  else recordEvent (evAt (instantTime p.rate n) (evPkg 0x0A04 1 n s.lop.invRun 0)) { s with lop := { s.lop with invRun := 0 } }
/-- A sample whose arithmetic met an infinity or a NaN (R408). -/
def sampleNonfinite (p : LoopParams) (n : Nat) (s : State) : State :=
  let x := s.lop
  let t := instantTime p.rate n
  let s1 := bump (.lop 4) { s with lop := { x with s11 := 0, s21 := 0, s12 := 0, s22 := 0, i := 0 } }
  giveOuts p.rate n (loopRepeat x (qSet 1 6) (holdAt s t)) (raiseCounting 0 1 0 (evPkg 0x0A03 0 n 0 0) s1)
/-- A sample computed from its input (R405, R406). -/
def sampleGood (p : LoopParams) (n : Nat) (v : F32) (q : Nat) (s : State) : State :=
  let x := s.lop
  let c := loopPi x v
  let (y, lim, mw) := loopWalk x c.u
  if (c.mids ++ mw ++ (if loopHold x then [] else (List.range 8).map (outScaled x y))).any fbad then sampleNonfinite p n s
  else
    let outs := loopOuts x y q (holdAt s (instantTime p.rate n))
    let s1 := { s with lop := { x with s11 := c.s11, s21 := c.s21, s12 := c.s12, s22 := c.s22, i := c.i, yp := y, outPrev := outs.map (·.1) } }
    let s2 := if c.clamped then bump (.lop 2) s1 else s1
    giveOuts p.rate n outs (if lim then bump (.lop 3) s2 else s2)

/-- The loop state and its booking at cold start (R405, R411). -/
def loopCold (x : LopSt) : LopSt :=
  { x with s11 := 0, s21 := 0, s12 := 0, s22 := 0, i := 0, yp := 0, outPrev := List.replicate 8 0, invRun := 0, drainRun := 0,
           startAt := none, drainNext := false, outs := List.replicate 8 (0, qDead) }
/-- DRAINING reaches OFF at sample n, or STARTING again when an enable is pending; an invalid run ends with it (R293, R407, R412). -/
def loopOff (p : LoopParams) (n : Nat) (s : State) : State :=
  let (o, act) := objDrained s.lop.o
  let s0 := endRun p n s
  let s1 := evLoopState 3 0 { s0 with lop := { loopCold s0.lop with o := o } }
  if act = .start then evLoopState 0 1 (evStart 10 0 s1) else s1
/-- A sample in DRAINING: u is 0, the state other than yp is held (R412). -/
def sampleDrain (p : LoopParams) (n : Nat) (q : Nat) (s : State) : State :=
  let x := s.lop
  let (y, lim, mw) := loopWalk x 0
  if (mw ++ (if loopHold x then [] else (List.range 8).map (outScaled x y))).any fbad then sampleNonfinite p n s
  else
    let outs := loopOuts x y q (holdAt s (instantTime p.rate n))
    let s1 := { s with lop := { x with yp := y } }
    giveOuts p.rate n outs (if lim then bump (.lop 3) s1 else s1)
/-- The number of drained samples grows, and the drain ends at y = 0 or at DRAIN_MAX. -/
def drainCount (p : LoopParams) (n : Nat) (s : State) : State :=
  let s1 := { s with lop := { s.lop with drainRun := s.lop.drainRun + 1 } }
  if fzero s1.lop.yp ∨ p.drainMax ≤ s1.lop.drainRun then loopOff p n s1 else s1

/-- State changes that take place at a sample: STARTING ends, and a booked disable begins to drain (R411, R412). -/
def loopTurn (s : State) : State :=
  let x := s.lop
  match x.o.obj with
  | .starting =>
    let o := (objStarted x.o).1
    evLoopState 1 (objNum o.obj) { s with lop := { x with o := o, startAt := none, firstOn := x.startAt.getD x.nextSample } }
  | .on => if x.drainNext then evLoopState 2 3 { s with lop := { x with drainNext := false, o := { x.o with obj := .draining } } } else s
  | _ => s
/-- The sample that is due: its parameters and number, when the loop has one and T(n) has passed. -/
def dueSample (s : State) : Option (LoopParams × Nat) :=
  match s.cfg.loop with
  | none => none
  | some p =>
    let n := s.lop.startAt.getD s.lop.nextSample
    let runs := match s.lop.o.obj with | .off => false | .starting => s.lop.startAt.isSome | _ => true
    if runs && mle (instantTime p.rate n) (now s) then some (p, n) else none
/-- Compute sample n with an input, or without one. -/
def runSample (p : LoopParams) (n : Nat) (inp : Option (F32 × Nat)) (s : State) : State :=
  let s1 := applyCoefs n (loopTurn s)
  let drain := decide (s1.lop.o.obj = .draining)
  let s2 := match inp with
    | none => sampleInvalid p n s1
    | some (v, q) =>
      if qInvalid q || fbad v then sampleInvalid p n s1
      else if drain then sampleDrain p n q (endRun p n s1) else sampleGood p n v q (endRun p n s1)
  if drain then drainCount p n s2 else s2

/-- A loop sample is computed once its input has arrived, and never before T(n) (R404, R405); a loop that has none due takes the
changes of coefficients that are. -/
def execLoopSample (s : State) : Host.Outcome State Fault Refusal :=
  .next (match dueSample s with
    | none => idleNow s
    | some (p, n) => match loopInput s p n with
      | none => s
      | some i => runSample p n (some i) s)
/-- The input has not arrived by T(n) + LOOP_WAIT (R404). -/
def execLoopWaitExpiry (s : State) : Host.Outcome State Fault Refusal :=
  .next (match dueSample s with
    | none => s
    | some (p, n) =>
      if (loopInput s p n).isSome ∨ munits (now s) < munits (instantTime p.rate n) + p.loopWait * 1000 * two32 then s
      else runSample p n none (bump (.lop 0) s))

/-- At a boundary a STARTING loop takes its first sample, the first at or after it (R411). -/
def loopBoundary (b : MTime) (s : State) : State :=
  let s := idleNow s
  if s.lop.o.obj = .starting ∧ s.lop.startAt = none then
    { s with lop := { s.lop with startAt := some (instantFrom (loopRate s) b) } }
  else s

/-! ### Commands (R413 to R417) -/

/-- LOOP_CONFIG. -/
def loopConfigPacket (h : Hdr) (p : LoopParams) : Packet :=
  configPacket h 0x0A00 (fun s => rates.contains p.rate && decide (p.inputKind ≤ 1 ∧ p.out ≤ 7 ∧ p.inLag ≤ 10000 ∧ 50 ≤ p.loopWait
      ∧ p.loopWait ≤ 10000 ∧ p.invHold ≤ 65535 ∧ 1 ≤ p.drainMax ∧ p.drainMax ≤ 4800000
      ∧ p.inputRef < (if p.inputKind = 0 then Config.nodes s.variant else Config.signals s.variant)) && coefsOk p.coef)
    (.loopConfig p)
/-- LOOP_CONFIG. -/
def execLoopConfig (h : Hdr) (p : LoopParams) (s : State) : Host.Outcome State Fault Refusal :=
  .next (submit (.loopConfig h p) (loopConfigPacket h p) s)

/-- Enable or disable the loop (R411, R412). -/
def loopChange (en : Bool) (jseq : Nat) (s : State) : Nat × State :=
  let x := s.lop
  if x.o.obj = .on then
    if en then (if x.drainNext then (stOk, evCancel 10 0 jseq { s with lop := { x with drainNext := false } }) else (stOk, s))
    else (stOk, { s with lop := { x with drainNext := true } })
  else
    let (o, st, act) := objChange en x.o
    let s1 := { s with lop := { x with o := o } }
    (st, match act with
      | .start => evLoopState 0 1 { s1 with lop := { loopCold s1.lop with o := o } }
      | .cancel => evCancel 10 0 jseq s1
      | _ => s1)
/-- LOOP_ENABLE. A loop without a configuration has no rate and cannot start. -/
def loopEnablePacket (h : Hdr) (enable : Nat) : Packet :=
  { h, opcode := 0x0A40, pfOnly := true, busyBefore := true, denied := pairFollows,
    eff := fun j s =>
      if 1 < enable ∨ s.cfg.loop.isNone = true then failRes stFailed s
      else let (st, s1) := loopChange (enable == 1) j s; .done st 0 s1 }
/-- LOOP_ENABLE. -/
def execLoopEnable (h : Hdr) (enable : Nat) (s : State) : Host.Outcome State Fault Refusal :=
  .next (submit (.loopEnable h enable) (loopEnablePacket h enable) s)

/-- LOOP_COEF_WRITE: effective at the first sample at least 20 µs after acceptance; an ACTIVE module sends it (R414, R415). -/
def loopCoefWritePacket (h : Hdr) (index : Nat) (value : F32) : Packet :=
  { h, opcode := 0x0A41, pfOnly := true, busyBefore := true, denied := pairFollows,
    eff := fun j s =>
      if 36 < index ∨ coefOk index value = false ∨ s.cfg.loop.isNone = true then failRes stFailed s
      else
        let n := instantFrom (loopRate s) (mtimeOfUnits (munits (now s) + 20000 * two32))
        let s1 := { s with lop := { s.lop with pend := s.lop.pend ++ [⟨index, value, n, false, j⟩] } }
        .done stOk (resB 0 (n % 2 ^ 64)) (if s.pair.state = .active then leashSend (.coef index value ⟨n, j⟩) 0 0 s1 else s1) }
/-- LOOP_COEF_WRITE. -/
def execLoopCoefWrite (h : Hdr) (index : Nat) (value : F32) (s : State) : Host.Outcome State Fault Refusal :=
  .next (submit (.loopCoefWrite h index value) (loopCoefWritePacket h index value) s)

/-- A number of samples at one rate, counted at another: the first sample at or after its time. -/
def recountSample (a b n : Nat) : Nat := if a = b then n else instantFrom b (instantTime a n)
/-- The last output of a node, as an input of the loop. -/
def nodeInput (s : State) (p : LoopParams) : List (Nat × Val) :=
  if p.inputKind ≠ 0 then []
  else match (nodeSt s p.inputRef).outs[p.out]? with
    | some v => [((munits (nodeSt s p.inputRef).outStamp).toNat, v)]
    | none => []
/-- LOOP_CONFIG takes force: the coefficients of an OFF loop get their values (R413); samples go on at the new rate (log entry 167). -/
def takeLoop (old : Cfg) (ops : List Nat) (s : State) : State :=
  match (if ops.contains 0x0A00 then s.cfg.loop else none) with
  | none => s
  | some p =>
    let x := s.lop
    let a := match old.loop with | some q => q.rate | none => p.rate
    let f := recountSample a p.rate
    let same := old.loop.any (fun q => q.inputKind == p.inputKind && q.inputRef == p.inputRef && q.out == p.out)
    { s with lop := { x with
        coef := if x.o.obj = .off then p.coef else x.coef
        inputs := if same then x.inputs else nodeInput s p
        startAt := x.startAt.map f, nextSample := f x.nextSample, firstOn := f x.firstOn
        pend := x.pend.map (fun c => { c with effect := f c.effect })
        applied := if x.o.obj = .off then [] else x.applied.map (fun c => { c with effect := f c.effect }) } }

/-- LOP_STATE (Table LOP-4). -/
def loopWord (s : State) : Nat := satN 65535 s.lop.invRun * 65536 + bbit (loopHold s.lop) 3 + objNum s.lop.o.obj
/-- LOOP_READ. -/
def loopReadPacket (h : Hdr) : Packet :=
  { h, opcode := 0x0A80, pfOnly := false,
    eff := fun _ s => .done stOk (resB 0 (loopWord s) ||| resB 8 (s.lop.last % 2 ^ 64)) s }
/-- LOOP_READ. -/
def execLoopRead (h : Hdr) (s : State) : Host.Outcome State Fault Refusal := .next (submit (.loopRead h) (loopReadPacket h) s)

end Sys2Proof.Machine
end

