-- ==== Sys2Proof/Machine/Pair.lean ====
section
/-! DEFINITION. The redundant pair (14): pair states and the arbiter, LEASH frames, the mirror on both sides, checked shadow
transmission, self-test and health report, and the commands of the pair class. -/
namespace Sys2Proof.Machine

/-! ### Numbers and flags -/

/-- MODE STANDALONE. -/
def standalone (s : State) : Bool := s.cfg.pair.mode == 1
/-- The module acts as active (R424). -/
def actsActive (s : State) : Bool := decide (s.pair.state = .active ∨ s.pair.state = .solo)
/-- The partner is in SYNCING or STANDBY. -/
def partnerFollows (s : State) : Bool := partnerState s == 1 || partnerState s == 2
/-- µs of lease remaining (Table PAIR-10). -/
def leaseLeft (s : State) : Nat := match s.pair.leaseEnd with | some e => (e - s.tim.raw) / rawUs 1 | none => 0
/-- The lease runs and the epoch of its grant is the known epoch (R424). -/
def leaseRuns (s : State) : Bool :=
  (match s.pair.leaseEnd with | some e => decide (s.tim.raw < e) | none => false) && s.pair.ownEpoch == s.pair.epoch
/-- The mask of LEASH lanes UP. -/
def lanesUp (s : State) : Nat := sumN ((List.range (Config.lanes s.variant)).map (fun l => bbit (laneSt s l).up l))
/-- The flags as they stand: DIVERGED, MIRROR_LOST, LEASH_DOWN (from the start-up on: 0 at reset, Table PAIR-10) and RESTRICTED follow
the state, and FATAL follows the fatal flags (Table PAIR-9). -/
def flagsNow (s : State) : BitVec 32 :=
  let f := s.pair.flags
  let f1 := if s.pair.diverged.isEmpty then f &&& ~~~(1#32 <<< 7) else f ||| (1#32 <<< 7)
  let f2 := if s.pair.mirrorLost then f1 ||| (1#32 <<< 5) else f1 &&& ~~~(1#32 <<< 5)
  let f3 := if leashUp s || s.pwr.phase == .reset then f2 &&& ~~~(1#32 <<< 4) else f2 ||| (1#32 <<< 4)
  let f4 := if s.key.restricted then f3 ||| (1#32 <<< 15) else f3
  let f5 := if s.pair.uncheckedSince then f4 ||| (1#32 <<< 6) else f4
  if f5.getLsbD 13 || f5.getLsbD 14 || f5.getLsbD 15 || f5.getLsbD 16 then f5 ||| 1#32 else f5

/-! ### Transitions (R420, Tables PAIR-2 and PAIR-6) -/

/-- What becomes of held frames on entry into a state (Table PAIR-6). -/
def shadowOn (old new : PState) (s : State) : State :=
  match new with
  | .active | .solo => if old = .standby then releaseShadow s else s
  | .standby => s
  | _ => discardShadow s
/-- The start of SYNCING: SYNC is sent, and the transfer begins (R439). -/
def syncStart (s : State) : State :=
  let s1 := { s with pair := { s.pair with syncRaw := s.tim.raw, syncDone := false, syncPages := 0, goodMirrors := 0, partNumberOk := false,
                                            mirrors := [], digestRun := [] } }
  recordEvent (evSys 0x0B0A 0 0 0 0) (leashSend (.sync 0 (Config.dies s.variant) Config.behaviourRev) 0 0 s1)
/-- Change the pair state with its cause (R420); a change at a boundary carries the boundary's stamp (16 R482). -/
def setPairAt (t : Option MTime) (new : PState) (cause : Nat) (s : State) : State :=
  if s.pair.state = new then s
  else
    let s2 := shadowOn s.pair.state new (pairTo t new cause s)
    let s3 := if new = .syncing then syncStart s2 else s2
    match new, s3.pair.relinquish with
    | .standby, some b => if cause = 9 then completeCmd b.jseq stOk 0
        (setFlag 1 false { s3 with pair := { s3.pair with relinquish := none } }) else s3
    | _, _ => s3

/-- Change the pair state now. -/
def setPair (new : PState) (cause : Nat) (s : State) : State := setPairAt none new cause s

/-- Whether the entry is a standalone module's: SOLO at once (Table PAIR-2). -/
def initRows (s : State) : State := if s.pair.state = .init ∧ standalone s = true then setPair .solo 11 s else s
/-- The known epoch rises; an active module whose grant is older leaves its state at once (R423, R424). -/
def raiseEpoch (e : Nat) (s : State) : State := { s with pair := { s.pair with epoch := max s.pair.epoch e } }

/-! ### Health report (R421, R451) -/

/-- The frame that carries a report of 256 bytes by UDP over IPv4: 14 + 20 + 8 + 256 + 4. PRESUMED (log entry 14). -/
def reportFrame : Nat := 302
/-- A cumulative counter: what stands in it and what reads have taken (R451). -/
def cumTotal (s : State) (c : Ctr) : Nat := tgetD s.pair.cumul c 0 + (cval s c).toNat
/-- The sum of the cumulative counters that meet a test. -/
def cumWhere (s : State) (p : Ctr → Bool) : Nat :=
  sumN ((s.counters.filter (fun e => p e.1)).map (fun e => e.2.toNat)) + sumN ((s.pair.cumul.filter (fun e => p e.1)).map (·.2))
/-- Every parity error. -/
def isParity : Ctr → Bool | .parity _ _ => true | _ => false
/-- Every frame sent again. -/
def isRetx : Ctr → Bool | .leash _ 2 => true | _ => false
/-- Dies without the die-fault flag. -/
def dieOk (s : State) : Nat :=
  sumN ((List.range (Config.dies s.variant)).map (fun d => bbit (!s.hwi.dieFaults.contains d) d))
/-- The smallest eye opening of the last second, 0 where none was measured (Table PAIR-8). -/
def eyeMin (s : State) : Nat :=
  match (s.pair.eyes.filter (fun e => decide (s.tim.raw ≤ e.1 + rawSec 1))).map (·.2) with
  | [] => 0
  | a :: l => l.foldl min a
/-- Loopback failures in the last minute (Table PAIR-8). -/
def loopFails (s : State) : Nat := (s.pair.loopFails.filter (fun r => decide (s.tim.raw ≤ r + rawSec 60))).length
/-- The 240 bytes of a report before its MAC (Table PAIR-8). -/
def reportBytes (s : State) : Bytes :=
  let t := now s
  leBytes 2 1 ++ [s.pair.side, pstateNum s.pair.state] ++ leBytes 4 s.pair.epoch ++ leBytes 8 (s.pair.reportSeq + 1)
    ++ leBytes 8 t.sec ++ leBytes 4 t.ns ++ leBytes 4 t.frac ++ leBytes 2 (tqWord s) ++ leBytes 2 Config.behaviourRev
    ++ leBytes 4 (flagsNow s).toNat ++ leBytes 8 s.cycleNum ++ leBytes 8 s.cmd.gen ++ [Config.dies s.variant, dieOk s]
    ++ leBytes 2 (lanesUp s) ++ leBytes 4 (leaseLeft s)
    ++ ([cumTotal s (.pair 4), cumTotal s (.pair 5), cumTotal s (.pair 0), cumTotal s (.pair 1), cumWhere s isParity,
         cumTotal s (.pair 2), cumWhere s isRetx, s.pair.mirrorBytes].flatMap (leBytes 8))
    ++ ([s.pair.bistPass, s.pair.bistFail, s.pair.bistSkip, s.pair.scrubPass, s.pair.scrubErr, s.pair.goldenFail].flatMap (leBytes 4))
    ++ leBytes 2 (eyeMin s) ++ leBytes 2 (loopFails s) ++ leBytes 4 s.pair.katRuns ++ List.replicate 80 0
/-- A report goes out by UDP from M0 to ARB_ADDR0 or from M1 to ARB_ADDR1, on UDP_PORT, where the port and its link work (R421). -/
def sendUdp (m : Nat) (r : Bytes) (s : State) : State :=
  let p := s.cfg.pair
  let (src, dst) := if m = 0 then (p.m0Addr, p.arbAddr0) else (p.m1Addr, p.arbAddr1)
  let net (a : Nat) : Nat := a / 2 ^ (32 - p.prefixLen)
  let s1 := mgmtSend m reportFrame s
  if (mgmtCfg s m).enable = 0 ∨ (mgmtSt s m).link = .down then s1
  else { s1 with pair := { s1.pair with udpSent := tset s1.pair.udpSent m ⟨src, dst, p.udpPort, net src == net dst, r⟩ } }
/-- The bytes after the comma of a frame on the ARB link: the 2-byte length, the message, and the CRC-32 over both (20 R590). Their
byte order is little-endian: DESIGN CHOICE (log entry 159). -/
def arbBytes (m : Bytes) : Bytes := let b := leBytes 2 m.length ++ m; b ++ leBytes 4 (crc32 b).toNat
/-- Send the health report on every path: the ARB link, and UDP from both management ports (R421). A module without the key of
ARB_KEY_SLOT, such as a restricted one, forms it and sends nothing: it stays in PAIR_HEALTH (17 R526, R529). -/
def sendReport (s : State) : State :=
  let b := reportBytes s
  match engineKey s s.cfg.pair.arbSlot 2 [1] with
  | none => { s with pair := { s.pair with report := b ++ List.replicate 16 0 } }
  | some k =>
    let r := b ++ Config.hmac k.material b
    let s1 := sendUdp 1 r (sendUdp 0 r s)
    { s1 with pair := { s1.pair with arbFrame := arbBytes r, report := r, reportSeq := s1.pair.reportSeq + 1, uncheckedSince := false } }
/-- The module reports: it is paired and running. -/
def reports (s : State) : Bool := !standalone s && s.pwr.phase == .running
/-- Every 1 ms, at the earliest 50 µs before, the health report is sent (R421). -/
def execHealthReportSend (s : State) : Host.Outcome State Fault Refusal := .next (if reports s then every 0 0 (rawUs 950) sendReport s else s)

/-- A fatal flag: shared frames stop, a report with FATAL goes out, and the module enters FAILED (R426). -/
def raiseFatal (bit : Nat) (s : State) : State :=
  let s1 := setFlag bit true (setFlag 0 true s)
  setPair .failed 6 (if standalone s1 then s1 else sendReport s1)

/-! ### The arbiter (R422 to R425, R445) -/

/-- The token shows the partner as its holder. -/
def partnerHolds (s : State) (m : TokenMsg) : Bool := m.holder == 1 - s.pair.side
/-- The MAC of a token message verifies: under the key in force, or under the one that a commit replaced, for 1 s (17 R516). -/
def tokenAuth (s : State) (m : TokenMsg) : Bool :=
  (engineKey s s.cfg.pair.arbSlot 2 [1]).isSome && (m.macOk || (m.macOldOk && (match (slotSt s s.cfg.pair.arbSlot).rolled with
    | some (_, r) => decide (s.tim.raw - r ≤ rawSec 1)
    | none => false)))
/-- The lease is renewed by this message (R423). -/
def grants (s : State) (m : TokenMsg) : Bool := m.holder == s.pair.side && m.grant && m.epoch == s.pair.epoch
/-- After a lost mirror the standby decides from the partner's age (R445). -/
def silentDecision (m : TokenMsg) (s : State) : State :=
  if s.pair.state = .standby ∧ s.pair.mirrorLost = true ∧ rawMs 1 ≤ s.tim.raw - s.pair.lostRaw
      ∧ m.partnerAge < 1000 ∧ m.partnerFailed = false then setPair .silent 3 s else s
/-- The rows of Table PAIR-2 that a token message decides. -/
def tokenRows (m : TokenMsg) (higher : Bool) (s : State) : State :=
  match s.pair.state with
  | .init | .silent =>
    if grants s m && !partnerFollows s then { s with pair := { s.pair with granted := true } }
    else if partnerHolds s m && leashUp s then setPair .syncing 0 s else s
  | .syncing => if partnerHolds s m then s else setPair .init 10 s
  | .standby => if grants s m then { s with pair := { s.pair with granted := true } } else silentDecision m s
  | .active | .solo =>
    if higher && partnerHolds s m then
      (if s.pair.state = .active ∧ s.pair.relinquish.isSome then setPair .standby 9 s else setPair .silent 5 s)
    else if s.pair.ownEpoch ≠ s.pair.epoch then setPair .silent 5 s
    else s
  | .failed => s
/-- An authentic token message takes effect (R423). -/
def tokenTake (m : TokenMsg) (s : State) : State :=
  let higher := decide (s.pair.ownEpoch < m.epoch)
  let news := decide (m.holder ≠ s.pair.holder ∨ m.epoch ≠ s.pair.epoch)
  let s1 := raiseEpoch m.epoch { s with pair := { s.pair with partner := m.partnerState, partnerFailed := m.partnerFailed, holder := m.holder } }
  let g := grants s1 m
  let s2 := if g then { s1 with pair := { s1.pair with leaseEnd := some (s1.tim.raw + rawMs 9), ownEpoch := m.epoch } } else s1
  let s3 := if news then recordEvent (evSys 0x0B02 m.epoch m.holder (leaseLeft s2) 0) s2 else s2
  tokenRows m higher s3
/-- An arbiter token message (R422, R423; 20 R590). -/
def execTokenMessage (m : TokenMsg) (s : State) : Host.Outcome State Fault Refusal :=
  .next (if m.viaArb ∧ m.crcOk = false then bump .hwiArbCrc s
    else
      let s1 := if m.viaArb then bump .hwiArbRx s else s
      if standalone s1 then s1
      else if !tokenAuth s1 m then bump (.pair 9) s1
      else if m.epoch < s1.pair.epoch then bump (.pair 8) s1
      else tokenTake m s1)

/-- The lease runs out (R424, Table PAIR-2). -/
def execLeaseExpiry (s : State) : Host.Outcome State Fault Refusal :=
  .next (if standalone s || !actsActive s then s
    else match s.pair.leaseEnd with
      | some e => if e ≤ s.tim.raw then setPair .silent 4 s else s
      | none => setPair .silent 4 s)

/-- The promotion at the boundary `b` after a grant (R424, Table PAIR-2). -/
def promoteBoundary (b : MTime) (s : State) : State :=
  if !s.pair.granted then s
  else
    let s1 := { s with pair := { s.pair with granted := false } }
    if !leaseRuns s1 then s1
    else match s1.pair.state with
      | .init | .silent => setPairAt (some b) .solo 1 s1
      | .standby => setPairAt (some b) (if partnerFollows s1 && leashUp s1 then .active else .solo) 1 s1
      | _ => s1

/-! ### Lanes (R427 to R432) -/

/-- A lane whose nonce counter would wrap stops, and its unacknowledged frames move (R428, R431). -/
def laneStops (l : Nat) (s : State) : State := moveFrames l (laneSt s l).unacked (stopLane l s)
/-- Send a frame outside the lane's sequence, ACK, NAK or LOOPBACK; without the key nothing is sent (R428, 17 R526). -/
def laneControl (l : Nat) (m : LeashMsg) (s : State) : State :=
  let x := laneSt s l
  if !leashKey s then s
  else if wraps s l then laneStops l s
  else bump (.leash l 0) (setLane l { x with nonce := x.nonce + 1, txRaw := s.tim.raw, lastFrame := some (frameFor s l x.txSeq m) } s)
/-- A lane goes down: its unacknowledged frames move to the lane that takes over its traffic (R430, R431). -/
def laneDown (l cause : Nat) (s : State) : State :=
  let x := laneSt s l
  if !x.up then s
  else
    let s1 := recordEvent (evSys 0x0B06 l 1 cause l) (setLane l { x with up := false, unacked := [], ackDue := false, loopFail := 0, loopSent := false, tagFails := 0 } s)
    moveFrames l x.unacked (leashLost s1)
/-- A LEASH lane changes its link state (R427). -/
def execLeashLaneState (lane : Nat) (up : Bool) (s : State) : Host.Outcome State Fault Refusal :=
  .next (if Config.lanes s.variant ≤ lane ∨ standalone s = true then s
    else
      let x := laneSt s lane
      if up then (if x.up ∨ x.stopped = true then s
        else recordEvent (evSys 0x0B06 lane 0 0 lane) (setLane lane { x with up := true, txRaw := s.tim.raw, txSeq := 0, rxSeq := 0, unacked := [], loopFail := 0, loopSent := false, tagFails := 0 } s))
      else laneDown lane 0 s)

/-- Tag failures in a row that take a lane down. DESIGN CHOICE (log entry 160). -/
def tagFailMax : Nat := 3
/-- A frame fails its tag: counted and answered with a NAK, and a lane that goes on failing goes down (R430, R455, R456). -/
def tagFailed (lane : Nat) (s : State) : State :=
  let x := laneSt s lane
  let s1 := laneControl lane (.nak x.rxSeq) (bump (.leash lane 3) (setLane lane { x with tagFails := x.tagFails + 1 } s))
  if tagFailMax ≤ x.tagFails + 1 then laneDown lane 1 s1 else s1
/-- A frame arrives on a lane: one that fails its tag has no other effect (R428, R430). -/
def leashTag (l : LeashHdr) (f : State → State) (s : State) : State :=
  let x := laneSt s l.lane
  if !x.up || standalone s then s
  else if !(l.tagOk && leashKey s) then tagFailed l.lane s
  else f (setLane l.lane { x with tagFails := 0 } s)
/-- A frame that was sent before on a lane that went down had been delivered there (R430, log entry 157). -/
def delivered (s : State) (l : LeashHdr) : Bool :=
  match l.moved with
  | none => false
  | some (lane, q) => let d := ((laneSt s lane).rxSeq + 2 ^ 24 - q % 2 ^ 24) % 2 ^ 24; decide (1 ≤ d ∧ d ≤ 2 ^ 23)
/-- A LEASH frame arrives on its lane: its tag, its sequence and, for the messages of R432, its epoch are judged, and then
its message takes effect, once (R428, R430, R432). -/
def leashRx (l : LeashHdr) (epochal : Bool) (f : State → State) (s : State) : State :=
  leashTag l (fun s =>
    let x := laneSt s l.lane
    if l.seq ≠ x.rxSeq then laneControl l.lane (.nak x.rxSeq) s
    else
      let s1 := bump (.leash l.lane 1) (setLane l.lane { x with rxSeq := (x.rxSeq + 1) % 2 ^ 24, ackDue := true } s)
      if delivered s l then s1
      else if epochal && decide (l.epoch < s1.pair.epoch) then bump (.pair 8) s1
      else f s1) s
/-- The module receives a mirror (R433). -/
def follows (s : State) : Bool := decide (s.pair.state = .syncing ∨ s.pair.state = .standby)

/-- The frames of a lane from a sequence on that wait for their acknowledgement. -/
def framesFrom (x : LaneSt) (seq : Nat) : List SentFrame := x.unacked.dropWhile (fun f => f.seq != seq)
/-- Receipt of an acknowledgement (R430). -/
def execLeashAck (l : LeashHdr) (seq : Nat) (s : State) : Host.Outcome State Fault Refusal :=
  .next (leashTag l (fun s =>
    let x := laneSt s l.lane
    match framesFrom x seq with
    | [] => s
    | _ :: rest => setLane l.lane { x with unacked := rest } s) s)
/-- A frame of a lane is sent again, with a new nonce (R428, R430). -/
def resend (l : Nat) (s : State) (f : SentFrame) : State :=
  let x := laneSt s l
  bump (.leash l 2) (bump (.leash l 0) (setLane l { x with nonce := x.nonce + 1, txRaw := s.tim.raw, lastFrame := some (frameFor s l f.seq f.msg) } s))
/-- Receipt of a NAK: frames from the NAKed sequence are sent again, in order, and those before it count as acknowledged (R430). -/
def execLeashNak (l : LeashHdr) (seq : Nat) (s : State) : Host.Outcome State Fault Refusal :=
  .next (leashTag l (fun s =>
    let x := laneSt s l.lane
    let again := framesFrom x seq
    if again.isEmpty then s
    else if 2 ^ 48 ≤ x.nonce + again.length then laneStops l.lane s
    else again.foldl (resend l.lane) (setLane l.lane { x with unacked := again } s)) s)
/-- Frames received are acknowledged (R430). -/
def execAckSend (lane : Nat) (s : State) : Host.Outcome State Fault Refusal :=
  .next (let x := laneSt s lane
         if x.up && x.ackDue then laneControl lane (.ack ((x.rxSeq + 2 ^ 24 - 1) % 2 ^ 24)) (setLane lane { x with ackDue := false } s) else s)
/-- A lane with nothing else to send for 10 µs sends a HEARTBEAT (R431). -/
def execHeartbeatSend (lane : Nat) (s : State) : Host.Outcome State Fault Refusal :=
  .next (if !(laneOk s lane && leashKey s && !standalone s && decide ((laneSt s lane).txRaw + rawUs 10 ≤ s.tim.raw)) then s
    else if wraps s lane then laneStops lane s
    else laneSend lane (.heartbeat (pstateNum s.pair.state) s.pair.epoch) none s)
/-- Receipt of a HEARTBEAT: the partner's state is confirmed (R431, R448, Table PAIR-2). -/
def execLeashHeartbeat (l : LeashHdr) (state epoch : Nat) (s : State) : Host.Outcome State Fault Refusal :=
  .next (leashRx l false (fun s =>
    let s1 := { s with pair := { s.pair with heartbeat := some state, heartbeatRaw := s.tim.raw } }
    match s1.pair.state with
    | .active => if state = 1 ∨ state = 2 then s1 else setPair .solo 7 s1
    | .solo => if state = 1 then setPair .active 8 s1 else s1
    | _ => if epoch < 2 ^ 32 then s1 else s) s)
/-- No HEARTBEAT for one system cycle: an ACTIVE module enters SOLO (R448). -/
def execHeartbeatTimeout (s : State) : Host.Outcome State Fault Refusal :=
  .next (if s.pair.state = .active ∧ s.cfg.cycleLen * rawSec 1 ≤ (s.tim.raw - s.pair.heartbeatRaw) * unitsPerSec then
      setPair .solo 7 { s with pair := { s.pair with heartbeat := none } } else s)

/-! ### Pages (R435, R436) -/

/-- The page of an object as it stands. -/
def graphPage (x : GraphSt) : GraphSt := { x with lateSkip := 0, custody := false }
/-- The loop's page: the engine's state and the coefficients in force, without inputs held and writes booked. -/
def loopPage (x : LopSt) : LopSt := { x with pend := [], inputs := [], applied := [], lenWas := none }
/-- A booked action is mirrored unless it enables a port (R435). -/
def schedMirrored (e : SchedEntry) : Bool := e.action != 4
/-- The commits that stand last of those due in their second (02 R77). -/
def lastOfSeconds : List Commit → List Commit
  | [] => []
  | k :: l => if l.any (fun j => j.dueSec == k.dueSec) then lastOfSeconds l else k :: lastOfSeconds l
/-- The cycle length in force and the committed change of it that comes next (01 R55). -/
def cyclePage (s : State) : PageData :=
  match (lastOfSeconds s.commits).find? (fun k => k.cfg.cycleLen != s.cfg.cycleLen) with
  | some k => .cycle s.cfg.cycleLen k.cfg.cycleLen k.dueSec
  | none => .cycle s.cfg.cycleLen 0 0
/-- Every mirrored page as it stands: kinds 0 node state, 1 signal record, 2 force, 3 logic task, 4 loop, 5 GOOSE
subscription, 6 GOOSE publication, 7 sampled-value publication, 8 graph, 9 booked action, 10 booked bank switch, 11 cycle
length, 12 PRP sequence of a port pair's shared frames. -/
def pagesNow (s : State) : Tbl PageKey PageData :=
  s.grf.nodes.map (fun e => (⟨0, e.1, 0⟩, .node e.2.op))
    ++ s.sig.recs.map (fun e => (⟨1, e.1, 0⟩, .signal e.2 (tget s.sig.under e.1)))
    ++ s.sig.forces.map (fun e => (⟨2, e.1, 0⟩, .force (some e.2)))
    ++ s.lgc.tasks.map (fun e => (⟨3, e.1, 0⟩, .task e.2.t e.2.mode e.2.overrides))
    ++ [(⟨4, 0, 0⟩, .loop (loopPage s.lop))]
    ++ s.sig.gs.map (fun e => (⟨5, e.1, 0⟩, .gs e.2))
    ++ ((s.sig.gp.filter (fun e => match tget s.cfg.gp e.1 with | some c => c.identity == 1 | none => false)).map (fun e => (⟨6, e.1, 0⟩, .gp e.2)))
    ++ ((s.sig.svp.filter (fun e => match tget s.cfg.svp e.1 with | some c => c.identity == 1 | none => false)).map (fun e =>
        (⟨7, e.1, 0⟩, .svp { e.2 with ready := [] })))
    ++ s.grf.graphs.map (fun e => (⟨8, e.1, 0⟩, .graph (graphPage e.2)))
    ++ (s.grf.sched.filter (fun e => schedMirrored e.2)).map (fun e => (⟨9, e.1, 0⟩, .sched (some e.2)))
    ++ (match s.lgc.switchAt with
        | some c => [(⟨10, 0, 0⟩, .lgcSwitch c (s.lgc.staged2.map (fun e => (e.1, imageHash e.2))))]
        | none => [])
    ++ [(⟨11, 0, 0⟩, cyclePage s)]
    ++ s.sig.prpShared.map (fun e => (⟨12, e.1, 0⟩, .prp e.2))
/-- The page that an object has when nothing is kept of it. -/
def blankPage (k : PageKey) : PageData :=
  match k.kind with
  | 0 => .node {} | 1 => .signal ⟨0, 0, ⟨0, 0, 0⟩⟩ none | 2 => .force none | 3 => .task {} .run [] | 4 => .loop default
  | 5 => .gs {} | 6 => .gp {} | 7 => .svp {} | 8 => .graph {} | 10 => .lgcSwitch 0 [] | 11 => .cycle 1152 0 0 | 12 => .prp 0 | _ => .sched none
/-- A page of the last checkpoint. -/
def checkpointPage (s : State) (k : PageKey) : PageData := (tget s.pair.checkpoint k).getD (blankPage k)
/-- Pages written in the cycle: those that differ from the checkpoint, in both directions, and those written with the value that
they had (R435). -/
def dirtyPages (s : State) (new : Tbl PageKey PageData) : List PageKey :=
  ((new.filter (fun e => checkpointPage s e.1 != e.2 || s.pair.written.contains e.1)).map (·.1))
    ++ ((s.pair.checkpoint.filter (fun e => !thas new e.1 && e.2 != blankPage e.1)).map (·.1))
/-- The die of a mirrored object: its home, or that of its record, processor, context or port; die 0 for what the package has once
(R430, log entry 157). -/
def pageDie (s : State) (k : PageKey) : Nat :=
  match k.kind with
  | 0 => (locOf s k.obj).die
  | 1 | 2 => sigDieOf s k.obj
  | 3 => procOf s k.obj / 4
  | 5 => k.obj / 4096
  | 6 => (match tget s.cfg.gp k.obj with | some c => c.port / 4 | none => 0)
  | 7 => (match tget s.cfg.svp k.obj with | some c => c.port / 4 | none => 0)
  | _ => 0
/-- The messages of a cycle's mirror before its END, pages in the order of kind, object and index (R433, log entry 158). -/
def mirrorMsgs (cycle : Nat) (head : Option LeashMsg) (items : List AdmitItem) (pages : Tbl PageKey PageData) (digests : List U64) : List LeashMsg :=
  head.toList ++ [.admission cycle items]
    ++ (sortBy (fun a b => lexLe [a.1.kind, a.1.obj, a.1.index] [b.1.kind, b.1.obj, b.1.index]) pages).map (fun e => .page cycle e.1 e.2)
    ++ [.cdigest cycle digests]
/-- The CRC-64 over the payloads of messages (Table PAIR-5). -/
def payloadCrc (l : List LeashMsg) : U64 := crc64 (l.flatMap payloadOf)

/-- The operator of an opcode of Table OPL-3 and after. -/
def operatorFn (op : Nat) : Option (FireIn → FireOut) :=
  match op with
  | 0x0100 => some opDftFull | 0x0101 => some opDftHalf | 0x0102 => some opCosine | 0x0200 => some opSeq
  | 0x0201 => some opMag | 0x0202 => some opMagang | 0x0203 => some opPqs3 | 0x0204 => some opPqs1
  | 0x0205 => some opFreq | 0x0206 => some opAngdiff | 0x0207 => some opPhSum | 0x0300 => some opImpPe
  | 0x0301 => some opImpPp | 0x0302 => some opMho | 0x0303 => some opQuad | 0x0304 => some opDir
  | 0x0400 => some opDiffBias | 0x0401 => some opHarmRatio | 0x0500 => some opIdmt | 0x0501 => some opDeft
  | 0x0600 => some opUv | 0x0601 => some opOv | 0x0602 => some opBfCheck | 0x0603 => some opFreqProt
  | 0x0700 => some opDcDidt | 0x0701 => some opDcOc | 0x0702 => some opStringImb | 0x0800 => some opTimerPd
  | 0x0801 => some opPulse | 0x0802 => some opCmpHyst | 0x0803 => some opBoolComb | 0x0804 => some opLatch
  | 0x0805 => some opEdge | 0x0806 => some opCount | 0x0900 => some opScale | 0x0901 => some opArith
  | 0x0902 => some opSumw | 0x0903 => some opMinmax | 0x0904 => some opLimit | 0x0905 => some opAbsf
  | 0x0906 => some opSelect | 0x0907 => some opMovavg | 0x0908 => some opDelayk | 0x0A00 => some opSigRead
  | 0x0A01 => some opSigWrite
  | _ => none

/-- Firings of a node since the boundary that opened the cycle in progress, in instant order, run again on its state (R436). -/
def refireNode (id : Nat) (s : State) : State :=
  let l := sortBy (fun a b => decide (a.2.1 ≤ b.2.1)) (s.grf.retained.filter (fun r => r.1 == id && r.2.2.2.2 == s.cycleNum))
  let op := match nodeAt s id with | some (_, r) => r.operator | none => 0
  foldSt (fun r s => match operatorFn op, opRow op with
    | some fn, some row =>
      let t := timeOf s id r.2.1
      let x := nodeSt s id
      let (outs, st) := operate op row fn (paramsFor s id r.2.1) t r.2.2.2.1 (holdAt s t) x r.2.2.1
      setNode id { x with op := st, outs := outs, outStamp := t } s
    | _, _ => s) l s

/-- A kept scan of a task runs again on its tables, with the DT that it had: whole, or from its start where it is still in
progress (R436). -/
def rescanOne (t : Nat) (s : State) (sc : Scan) : State :=
  let y := taskSt s t
  let p := procOf s t
  let tb := { y.t with lt := (y.t.lt + sc.dt) % 2 ^ 64 }
  let s1 := setScan p { sc with saved := tb } (setTask t { y with t := tb } s)
  match tget s.lgc.scans p with
  | some now =>
    if now.task = t ∧ now.cycle = sc.cycle ∧ now.done = false then s1
    else setScan p now (runScan p 262145 s1)
  | none => runScan p 262145 s1
/-- The scans of the task since the boundary run again on its tables, in their order (R436). -/
def rescanTask (t : Nat) (s : State) : State :=
  (s.lgc.kept.filter (fun sc => sc.task == t && sc.cycle == s.cycleNum)).foldl (rescanOne t) s
/-- Writes of a source that are not committed are cancelled for the signals of an object (R436 step 3). -/
def cancelWrites (source : Nat) (ids : List Nat) (s : State) : State :=
  { s with sig := { s.sig with writes := s.sig.writes.filter (fun w => !(w.source == source && ids.contains w.sig)) } }
/-- Samples of the loop since the boundary are computed again on its state, with the changes of coefficients made since (R436). -/
def resampleLoop (upto : Nat) : Nat → State → State
  | 0, s => s
  | fuel + 1, s =>
    match s.cfg.loop with
    | none => s
    | some p =>
      let n := s.lop.nextSample
      if upto ≤ n ∨ s.lop.o.obj = .off ∨ s.lop.o.obj = .starting then s
      else resampleLoop upto fuel (runSample p n (loopInput s p n) s)

/-- The first number of a cycle of length `b` that opens at or after the boundary that opened cycle `n` of length `a`. -/
def recount (a b n : Nat) : Nat := if b = 0 then n else (a * n + b - 1) / b
/-- A CYCLE node's instants, cycle numbers, counted anew (01 R55, log entry 60). -/
def recountNode (a b : Nat) (s : State) (id n : Nat) : Nat :=
  match nodeAt s id with | some (_, r) => if r.cycle then (if b = 0 then n else a * n / b) else n | none => n
/-- A new cycle length takes force at the second `sec`: numbers of cycles that the module holds are counted anew; those of mirrors
keep their distance from the cycle in progress (14 R437). -/
def takeCycle (sec old : Nat) (s : State) : State :=
  let b := s.cfg.cycleLen
  if b = old then s
  else
    let c := recount old b
    let opened := decide (sec * unitsPerSec ≤ s.cycleNum * old)
    let num := if opened then cycleOf b (now s) else sec * unitsPerSec / max 1 b - 1
    let f := recountNode old b s
    let g (n : Nat) : Nat := num + n - s.cycleNum
    { s with
      cycleNum := num
      sig := { s.sig with writes := s.sig.writes.map (fun w => { w with cycle := c w.cycle })
                          past := s.sig.past.map (fun e => (e.1, e.2.map (fun r => (c r.1, r.2)))) }
      lgc := { s.lgc with switchAt := s.lgc.switchAt.map c, kept := s.lgc.kept.map (fun k => { k with cycle := g k.cycle }) }
      pair := { s.pair with mirrors := s.pair.mirrors.map (fun e => (g e.1, { e.2 with cycle := g e.2.cycle }))
                            lastMirrorCycle := g s.pair.lastMirrorCycle, lastApplied := g s.pair.lastApplied
                            digestRun := s.pair.digestRun.map (fun e => (e.1, (g e.2.1, e.2.2))) }
      lop := { s.lop with lenWas := some (sec, old) }
      grf := { s.grf with
        store := s.grf.store.map (fun e => { e with inst := f e.node e.inst })
        service := s.grf.service.map (fun e => { e with inst := f e.node e.inst })
        nodes := s.grf.nodes.map (fun e => (e.1, { e.2 with lastConsumed := e.2.lastConsumed.map (f e.1) })) } }

/-- Signals that a node writes. -/
def graphNodeWrites (s : State) (id : Nat) : List Nat :=
  (allWrites s.cfg).filterMap (fun w => match w.1 with | .node _ n => if n = id then some w.2 else none | _ => none)
/-- Install a mirrored page in its object, and carry the object on from it (R436 step 3). Outputs of what runs again go
nowhere: only the object is taken from the run. -/
def installPage (k : PageKey) (d : PageData) (s : State) : State :=
  match d with
  | .node op =>
    let x := nodeSt s k.obj
    let s1 := refireNode k.obj (setNode k.obj { x with op := op } s)
    setNode k.obj { nodeSt s1 k.obj with lost := false } (cancelWrites 0 (graphNodeWrites s k.obj) s)
  | .signal r under =>
    { s with sig := { s.sig with recs := tset s.sig.recs k.obj r,
                                 under := (match under with | some u => tset s.sig.under k.obj u | none => tdel s.sig.under k.obj) } }
  | .force f => { s with sig := { s.sig with forces := (match f with | some v => tset s.sig.forces k.obj v | none => tdel s.sig.forces k.obj) } }
  | .task t m ov =>
    let y := taskSt s k.obj
    let s1 := setTask k.obj { y with t := t, mode := m, overrides := ov } s
    let s2 := rescanTask k.obj s1
    cancelWrites 1 (declared s k.obj) { s1 with lgc := { s1.lgc with tasks := s2.lgc.tasks, scans := s2.lgc.scans } }
  | .loop x =>
    let own := s.lop
    let again := own.applied.filter (fun c => decide (x.nextSample ≤ c.effect))
    let s1 := { s with lop := { x with inputs := own.inputs, lenWas := own.lenWas,
                                       applied := own.applied.filter (fun c => decide (c.effect < x.nextSample)),
                                       pend := again.map (fun c => { c with late := false }) ++ own.pend } }
    { s with lop := (idleNow (resampleLoop own.nextSample resampleMax s1)).lop }
  | .gs x => setGs k.obj x s
  | .gp x => setGp k.obj x s
  | .svp x => setSvp k.obj { x with ready := (svpSt s k.obj).ready } s
  | .graph x => setGraph k.obj { x with lateSkip := (graphSt s k.obj).lateSkip, custody := (graphSt s k.obj).custody } s
  | .sched e => { s with grf := { s.grf with sched := (match e with
      | some v => tset s.grf.sched k.obj v
      | none => tdel s.grf.sched k.obj) } }
  | .lgcSwitch _ _ => s
  | .cycle len next sec =>
    let s1 := { s with pair := { s.pair with mirrorCycle := if next = 0 then none else some (next, sec) } }
    if next = 0 then takeCycle (now s).sec s.cfg.cycleLen { s1 with cfg := { s1.cfg with cycleLen := len } } else s1
  | .prp n => { s with sig := { s.sig with prpShared := tset s.sig.prpShared k.obj n } }
/-- A booked bank switch reaches the standby: it books the same switch when its staged image of every switched task has the
same hash, and records a mismatch otherwise (12 R394). -/
def takeSwitch (e : PageKey × PageData) (s : State) : State :=
  match e.2 with
  | .lgcSwitch c hs =>
    let bad := hs.filter (fun h => !((tget s.lgc.staged2 h.1).map imageHash == some h.2))
    if c = 0 ∨ s.lgc.switchAt = some c then s
    else if bad.isEmpty then
      { s with lgc := { s.lgc with switchAt := some c, staged2 := s.lgc.staged2.filter (fun x => hs.any (fun h => h.1 == x.1)) } }
    else raise 0x0905 (sumN (bad.map (fun h => 2 ^ h.1))) c 0 s
  | _ => s

/-! ### The mirror: the active side (R433 to R435, R438) -/

/-- The digest of an array over what it put out in the cycle (R236, R438). -/
def arrayDigest (s : State) (a : Nat) : U64 :=
  let l := sortBy (fun x y => lexLe [x.1, x.2.1] [y.1, y.2.1]) (s.flt.digestLog.filter (fun e => e.1 / 2048 == a))
  crc64 (l.flatMap (fun e => leBytes 8 e.2.1 ++ leBytes 4 (twos 32 e.2.2.1) ++ leBytes 2 e.2.2.2))
/-- The digests of every array. -/
def arrayDigests (s : State) : List U64 := (List.range (4 * Config.dies s.variant)).map (arrayDigest s)
/-- Commands without a wait that take effect at the next boundary: signal writes and forces, graph and task enables, modes, value
writes, restarts, and the loop's enable (08 R243, R249; 09 R294; 12 R380, R389, R398; 13 R411). Commands that are booked for a boundary
enter the record there. -/
def boundaryOps : List Nat := [0x0640, 0x0641, 0x0740, 0x0940, 0x0941, 0x0943, 0x0946, 0x0A40]
/-- Those of the journal that the boundary takes: accepted since the last one and completed. -/
def journalTaken (s : State) : List AdmitItem :=
  ((sortBy (fun a b => decide (a.2.seq ≤ b.2.seq)) (s.cmd.jnl.filter (fun e => decide (s.pair.jnlSeen ≤ e.2.seq) && e.2.done == 0x5A
    && decide (e.2.status < 0x10) && boundaryOps.contains e.2.opcode))).map (fun e => .command e.2.seq e.2.opcode))
/-- The detector states of the chains that put out in the closed cycle. -/
def detectorItems (s : State) : List AdmitItem :=
  (s.cfg.chains.filter (fun e => decide (2 ≤ e.2.det) && s.flt.digestLog.any (fun d => d.1 == e.1))).map (fun e =>
    let x := chainSt s e.1
    .detector e.1 x.lastInst x.env x.sqSum)
/-- The admission record of the closed cycle (R434). -/
def admitRecord (s : State) : List AdmitItem :=
  (s.pair.admitLog.drop s.pair.admitSeen).map .decided ++ detectorItems s ++ s.pair.admitOther ++ journalTaken s
/-- Take the checkpoint of a boundary and the digests of the cycle it closes; an ACTIVE module sends the HEAD of the new
cycle, and the ADMIT, PAGE, CDIGEST and END messages of the closed one (R433, R435, R436). -/
def mirrorBoundary (s : State) : State :=
  let new := pagesNow s
  let dirty := dirtyPages s new
  let log := s.pair.admitLog.drop (s.pair.admitLog.length - 16384)
  let head := LeashMsg.head s.cycleNum s.cmd.gen (s.lgc.due.map (fun e => e.2))
  let s1 := { s with pair := { s.pair with checkpoint := new, ownDigests := arrayDigests s, admitLog := log, admitSeen := log.length,
                                             admitOther := [], jnlSeen := s.cmd.jnlNext, written := [],
                                             headSent := if s.pair.state = .active then some head else none },
                     flt := { s.flt with digestLog := [] } }
  if s1.pair.state ≠ .active then s1
  else
    let closed := s.cycleNum - 1
    let pages := dirty.map (fun k => (k, (tget new k).getD (blankPage k)))
    let msgs := mirrorMsgs closed s.pair.headSent (admitRecord s) pages s1.pair.ownDigests
    let fin := LeashMsg.fin closed 1 dirty.length 1 (payloadCrc msgs)
    let s2 := leashSend head 0 0 s1
    let s3 := leashSend (.admission closed (admitRecord s)) 0 0 s2
    let s4 := foldSt (fun e s => leashSend (.page closed e.1 e.2) (pageDie s e.1) e.1.obj s) pages s3
    let s5 := leashSend fin 0 0 (leashSend (.cdigest closed s1.pair.ownDigests) 0 0 s4)
    { s5 with pair := { s5.pair with mirrorBytes := sumN ((msgs ++ [fin]).map (fun m => (payloadOf m).length)) } }

/-! ### The mirror: the standby side (R433 to R440) -/

/-- The mirror of a cycle as received so far. -/
def mirrorOf (s : State) (c : Nat) : Mirror := tgetD s.pair.mirrors c ⟨c, 0, false, 0, [], [], [], [], (0, 0, 0), none, false⟩
/-- Change the mirror of a cycle. -/
def modMirror (c : Nat) (f : Mirror → Mirror) (s : State) : State :=
  { s with pair := { s.pair with mirrors := tset s.pair.mirrors c (f (mirrorOf s c)) } }

/-- The messages of a mirror as received. -/
def mirrorIn (m : Mirror) : List LeashMsg :=
  mirrorMsgs m.cycle (if m.headIn then some (.head m.cycle m.gen m.dts) else none) m.admits m.pages m.cdigests
/-- Every message that END counts has come, and the CRC agrees. The messages of a mirror travel on several lanes, so that END may come
before some of them (Table PAIR-5, R430). -/
def mirrorWhole (m : Mirror) : Bool :=
  match m.fin with
  | some (n, crc) => n == m.counts && crc == payloadCrc (mirrorIn m)
  | none => false
/-- A message joins the mirror of its cycle. A mirror that is whole has ended; one that comes after a lost one sends a STANDBY module
into SYNCING (R446). -/
def takeMirror (c : Nat) (f : Mirror → Mirror) (s : State) : State :=
  let s1 := modMirror c f s
  let m := mirrorOf s1 c
  if m.ended || !mirrorWhole m then s1
  else
    let s2 := modMirror c (fun m => { m with ended := true }) { s1 with pair := { s1.pair with lastMirrorCycle := max s1.pair.lastMirrorCycle c } }
    if s2.pair.state = .standby ∧ s2.pair.mirrorLost = true then setPair .syncing 12 s2 else s2
/-- A HEAD shows the partner with a higher epoch: an active module whose RELINQUISH was accepted becomes STANDBY, any other SILENT
(Table PAIR-2). -/
def headRows (s : State) : State :=
  if !(actsActive s && !standalone s && s.pair.ownEpoch != s.pair.epoch) then s
  else if s.pair.state = .active ∧ s.pair.relinquish.isSome then setPair .standby 9 s
  else setPair .silent 5 s
/-- Receipt of a HEAD: its epoch joins the known epoch (R423, R433, R440). -/
def execLeashHead (l : LeashHdr) (cycle gen : Nat) (dts : List (Nat × Nat)) (s : State) : Host.Outcome State Fault Refusal :=
  .next (leashRx l true (fun s =>
    let s1 := headRows (raiseEpoch l.epoch s)
    if follows s1 then
      takeMirror cycle (fun m => { m with gen, dts, headIn := true, headRaw := s1.tim.raw }) { s1 with pair := { s1.pair with lastHeadGen := gen } }
    else s1) s)
/-- Receipt of the admission record (R434). -/
def execLeashAdmit (l : LeashHdr) (cycle : Nat) (items : List AdmitItem) (s : State) : Host.Outcome State Fault Refusal :=
  .next (leashRx l true (fun s => if follows s then
      takeMirror cycle (fun m => { m with admits := m.admits ++ items, counts := (m.counts.1 + 1, m.counts.2) }) s else s) s)
/-- Receipt of a page: of a cycle's mirror, or of the full transfer of SYNCING (R435, R439). -/
def execLeashPage (l : LeashHdr) (cycle : Nat) (page : PageKey) (data : Machine.PageData) (s : State) : Host.Outcome State Fault Refusal :=
  .next (leashRx l true (fun s =>
    if !follows s then s
    else if s.pair.state = .syncing ∧ cycle = 0 then
      let s1 := installPage page data s
      { s1 with pair := { s1.pair with checkpoint := tset s1.pair.checkpoint page data, syncPages := s1.pair.syncPages + 1 } }
    else takeMirror cycle (fun m => { m with pages := tset m.pages page data, counts := (m.counts.1, m.counts.2.1 + 1, m.counts.2.2) }) s) s)
/-- Receipt of the cycle digests (R438). -/
def execLeashCdigest (l : LeashHdr) (cycle : Nat) (digests : List U64) (s : State) : Host.Outcome State Fault Refusal :=
  .next (leashRx l true (fun s => if follows s then
      takeMirror cycle (fun m => { m with cdigests := digests, counts := (m.counts.1, m.counts.2.1, m.counts.2.2 + 1) }) s else s) s)
/-- Receipt of END: the mirror is whole when the counts and the CRC agree (Table PAIR-5). -/
def execLeashEnd (l : LeashHdr) (cycle admits pages cdigests : Nat) (crc : U64) (s : State) : Host.Outcome State Fault Refusal :=
  .next (leashRx l true (fun s => if follows s then
      takeMirror cycle (fun m => { m with fin := some ((admits, pages, cdigests), crc) }) s else s) s)

/-- The values that replace a missing instant: those that this module would release for it, each held from the input
before it (R436, 06 Table SVI-3). -/
def patchEntry (s : State) (c : SvContext) (a : AdmitInstant) (older : Int × Nat) (pos : Nat) : Int × Nat :=
  if a.admitted then (nth a.values pos 0, nth a.quals pos 1)
  else (older.1, nth (holdRelease s c {} a.instant (dueTime c a.instant)).quals pos 1)
/-- Replace an instant in a chain's history, and compute again the outputs of its window that the instant enters. -/
def patchChain (s : State) (c : SvContext) (p : ChainParams) (a : AdmitInstant) (x : ChainSt) : ChainSt :=
  if x.lastIn < a.instant ∨ x.hist.length ≤ x.lastIn - a.instant then x
  else
    let i := x.lastIn - a.instant
    let hist := x.hist.set i (patchEntry s c a (nth x.hist (i + 1) (0, 1)) p.pos)
    let redo := fun (j : Nat) (old : Int × Nat) =>
      let k := x.lastIn - x.lastInst + j * product p
      if k ≤ i ∧ i < k + settleLen p ∧ k + settleLen p ≤ hist.length then
        let (y, past) := chainValue p ((hist.drop k).map (·.1))
        (y, spanQual false past (((hist.drop k).take (settleLen p)).map (·.2)))
      else old
    let det := (List.zip (List.range x.detHist.length) x.detHist).map (fun e => redo e.1 e.2)
    { x with hist := hist, detHist := det, sqSum := (det.map (fun e => e.1 * e.1)).foldl (· + ·) 0 }
/-- The stream takes instants now, and this module has not decided that one. -/
def openInstant (s : State) (n m : Nat) : Bool :=
  let x := strSt s n
  x.o.obj == .on && undecided x m && (match x.first with | some f => decide (f ≤ m) | none => true)
/-- This module decided the instant otherwise, or has not decided it. -/
def admitDiffers (s : State) (a : AdmitInstant) : Bool :=
  match s.pair.admitLog.find? (fun b => b.stream == a.stream && b.instant == a.instant) with
  | some b => b.admitted != a.admitted || (a.admitted && (b.values != a.values || b.quals != a.quals))
  | none => openInstant s a.stream a.instant
/-- A stream holds the record's instant in place of its own, where it has not reached the chains. -/
def patchStream (s : State) (c : SvContext) (a : AdmitInstant) (x : StreamSt) : StreamSt :=
  let due := dueTime c a.instant
  let held := holdRelease s c x a.instant due
  let dec : Decided := if a.admitted then .admitted a.values a.quals due else .missing (decide (x.sup = .invalid)) due
  let rel : Released := if a.admitted then ⟨a.instant, a.values, a.quals, due, true⟩
    else if x.sup = .invalid then invalidRelease s c a.instant due else held
  { x with decided := if thas x.decided a.instant then tset x.decided a.instant dec else x.decided
           released := x.released.map (fun r => if r.inst == a.instant then rel else r) }
/-- Decide an instant that this module has not decided, as the record has it (R436 step 1). -/
def decideAs (c : SvContext) (a : AdmitInstant) (s : State) : State :=
  if a.admitted then admitAsdu a.stream c a.instant a.values a.quals (dueTime c a.instant) s
  else releaseAll a.stream c false (declareMissing a.stream c a.instant s)
/-- Replace one instant in its stream and in every chain of it, or decide it where it is still open (R436 step 1). -/
def patchInstant (a : AdmitInstant) (s : State) : State :=
  match svCtx s a.stream with
  | none => s
  | some c =>
    if openInstant s a.stream a.instant then bump (.pair 1) (decideAs c a s) else
    let s0 := setStr a.stream (patchStream s c a (strSt s a.stream)) s
    let s1 := foldSt (fun e s => setChain e.1 (patchChain s c e.2 a (chainSt s e.1)) s) (chainsOf s a.stream) s0
    bump (.pair 1) { s1 with pair := { s1.pair with admitLog := s1.pair.admitLog.map (fun b =>
      if b.stream == a.stream && b.instant == a.instant then a else b) } }
/-- An envelope carried on from the record's output over the `k` outputs of the chain since, oldest first (07 R225). -/
def envOver (p : ChainParams) (x : ChainSt) : Nat → Int → Int
  | 0, env => env
  | k + 1, env =>
    let y := (chainValue p ((x.hist.drop (x.lastIn - x.lastInst + k * product p)).map (·.1))).1
    envOver p x k (detStep p { x with env := env } y 0).1.env
/-- A chain takes its ENV or RMS state from the record: as the record's output left it, an envelope carried on over the outputs
since, a running sum only where there are none since (R436 step 1, log entry 139). -/
def takeDetector (chain inst : Nat) (env sqSum : Int) (s : State) : State :=
  match tget s.cfg.chains chain with
  | none => s
  | some p =>
    let x := chainSt s chain
    let k := (x.lastInst - inst) / product p
    if x.lastInst < inst ∨ x.hist.length < x.lastIn - x.lastInst + k * product p + settleLen p then s
    else if p.det = 3 then setChain chain { x with env := envOver p x k env } s
    else if p.det = 2 ∧ x.lastInst = inst then setChain chain { x with sqSum := sqSum } s
    else s
/-- The instants of an admission record. -/
def decidedOf (l : List AdmitItem) : List AdmitInstant := l.filterMap (fun i => match i with | .decided a => some a | _ => none)
/-- The detector states of a record act on the chains of streams that had an instant replaced. -/
def takeDetectors (items : List AdmitItem) (diff : List AdmitInstant) (s : State) : State :=
  foldSt (fun i s => match i with
    | .detector c n env sq => if diff.any (fun a => (chainsOf s a.stream).any (fun e => e.1 == c)) then takeDetector c n env sq s else s
    | _ => s) items s
/-- Arrays whose chains a replaced instant enters. -/
def arraysOf (s : State) (l : List AdmitInstant) : List Nat :=
  dedupN (l.flatMap (fun a => (chainsOf s a.stream).map (fun e => e.1 / 2048)))
/-- Compare the digests of the arrays in which no instant was replaced; mismatches in three consecutive cycles set ARRAY_FAULT
(R438). -/
def compareDigests (m : Mirror) (patched : List Nat) (s : State) : State :=
  foldSt (fun a s =>
    if patched.contains a ∨ m.cdigests.length ≤ a ∨ s.pair.ownDigests.length ≤ a ∨ nth m.cdigests a 0 = nth s.pair.ownDigests a 0 then s
    else
      let run := match tget s.pair.digestRun a with | some (c, n) => if c + 1 = m.cycle then n + 1 else 1 | none => 1
      let s1 := bump (.pair 2) { s with pair := { s.pair with digestRun := tset s.pair.digestRun a (m.cycle, run) } }
      if run = 3 then setFlag 3 true s1 else s1) (List.range (4 * Config.dies s.variant)) s
/-- The pages that differ from this module's checkpoint: the mirrored ones, and those that this module changed in the cycle
and the mirror does not hold stay for a later mirror (R436 step 2). -/
def unequalPages (s : State) (m : Mirror) : Tbl PageKey PageData := m.pages.filter (fun e => e.1.kind != 10 && checkpointPage s e.1 != e.2)
/-- Correct one object (R436 step 3). -/
def correctObject (cycle : Nat) (e : PageKey × PageData) (s : State) : State :=
  let s0 := installPage e.1 e.2 s
  let s1 := { s0 with pair := { s0.pair with checkpoint := tset s0.pair.checkpoint e.1 e.2 } }
  raiseCounting 0 1 0 (evSys 0x0B05 (e.1.kind + 256 * e.1.obj) cycle 0 e.1.obj)
    (bump (.pair 0) { s1 with pair := { s1.pair with diverged :=
      (s1.pair.diverged.filter (fun d => d != (e.1.kind, e.1.obj))) ++ [(e.1.kind, e.1.obj)] } })
/-- Objects whose mirrored pages are all equal are no longer marked diverged. -/
def clearDiverged (m : Mirror) (bad : Tbl PageKey PageData) (s : State) : State :=
  { s with pair := { s.pair with diverged := s.pair.diverged.filter (fun d =>
      bad.any (fun e => (e.1.kind, e.1.obj) == d) || !m.pages.any (fun e => (e.1.kind, e.1.obj) == d)) } }
/-- SYNCING becomes STANDBY when every condition of R439 is met. -/
def standbyReady (s : State) : Bool :=
  s.pair.syncDone && s.pair.partNumberOk && s.pair.lastHeadGen == s.cmd.gen && decide (8 ≤ s.pair.goodMirrors)
/-- Apply a whole mirror (R436 to R439). -/
def applyMirror (m : Mirror) (s : State) : State :=
  let diff := (decidedOf m.admits).filter (admitDiffers s)
  let s1 := takeDetectors m.admits diff (foldSt patchInstant diff (foldSt takeSwitch m.pages s))
  let bad := unequalPages s1 m
  let miss := cval s1 (.pair 2)
  let s2 := compareDigests m (arraysOf s1 diff) (clearDiverged m bad (foldSt (correctObject m.cycle) bad s1))
  let good := s2.pair.diverged.isEmpty && cval s2 (.pair 2) == miss
  let s3 := { s2 with pair := { s2.pair with mirrors := s2.pair.mirrors.filter (fun e => decide (m.cycle < e.1)),
                                             lastApplied := m.cycle,
                                             goodMirrors := if good then (if s2.pair.lastApplied + 1 = m.cycle then s2.pair.goodMirrors + 1 else 1) else 0 } }
  if s3.pair.state = .syncing ∧ standbyReady s3 = true then setPair .standby 2 s3 else s3
/-- The standby applies the mirror of the cycle that the last boundary closed (R436). -/
def execMirrorApply (s : State) : Host.Outcome State Fault Refusal :=
  .next (match s.pair.mirrors.find? (fun e => e.2.ended && e.1 + 1 == s.cycleNum) with
    | none => s
    | some e => if follows s then applyMirror e.2 s else s)

/-- At the boundary `b` that opens a cycle, a mirror whose END has not come is lost (R437). -/
def mirrorLoss (num : Nat) (b : MTime) (s : State) : State :=
  if s.pair.state ≠ .standby ∨ num < 2 ∨ num - 2 ≤ s.pair.lastMirrorCycle then s
  else
    let s1 := bump (.pair 7) (recordEvent (evAt b (evSys 0x0B04 (num - 2) (lanesUp s) 0 0)) s)
    if s1.pair.mirrorLost then s1 else { s1 with pair := { s1.pair with mirrorLost := true, lostRaw := s1.tim.raw } }
/-- At each whole second the standby compares generations (R440). -/
def genCheck (b : MTime) (s : State) : State :=
  if s.pair.genSec = b.sec ∨ s.pair.state ≠ .standby then { s with pair := { s.pair with genSec := b.sec } }
  else
    let s1 := { s with pair := { s.pair with genSec := b.sec } }
    if s.pair.lastHeadGen = s.cmd.gen then setFlag 9 false { s1 with pair := { s1.pair with genMismatch := 0 } }
    else
      let n := s.pair.genMismatch + 1
      let s2 := setFlag 9 true { s1 with pair := { s1.pair with genMismatch := n } }
      if 2 ≤ n then setPairAt (some b) .syncing 12 (recordEvent (evAt b (evSys 0x0B07 s2.cmd.gen s2.pair.lastHeadGen 0 0)) s2) else s2
/-- Digests that have waited for their frame over two boundaries are discarded (R443). -/
def earlyBoundary (s : State) : State :=
  let l := s.pair.early.map (fun e => { e with boundaries := e.boundaries + 1 })
  let old := l.filter (fun e => decide (2 ≤ e.boundaries))
  bumpBy (.pair 6) old.length { s with pair := { s.pair with early := l.filter (fun e => decide (e.boundaries < 2)) } }
/-- The pair's part of a boundary before the mirror: promotion, a lost mirror, generations, early digests. -/
def pairBoundary (num : Nat) (b : MTime) (s : State) : State :=
  earlyBoundary (genCheck b (mirrorLoss num b (promoteBoundary b s)))

/-! ### SYNCING (R439) -/

/-- The part number that SYNC carries: the die count of the variant stands for it (log entry 42). -/
def partCode (s : State) : Nat := Config.dies s.variant
/-- Pages between two progress messages of a full transfer. DESIGN CHOICE (log entry 161). -/
def progressPages : Nat := 256
/-- The full transfer: every page of every mirrored object, outside the mirror of any cycle, with its progress, then its completion
(R439, Table PAIR-5). -/
def fullTransfer (s : State) : State :=
  let send (acc : State × Nat) (e : PageKey × PageData) : State × Nat :=
    let s1 := leashSend (.page 0 e.1 e.2) (pageDie acc.1 e.1) e.1.obj acc.1
    (if (acc.2 + 1) % progressPages = 0 then leashSend (.sync 1 (partCode s1) Config.behaviourRev) 0 0 s1 else s1, acc.2 + 1)
  leashSend (.sync 2 (partCode s) Config.behaviourRev) 0 0 (s.pair.checkpoint.foldl send (s, 0)).1
/-- Receipt of SYNC: 0 a request, which an ACTIVE module answers with a full transfer; 1 progress; 2 completion. A request
shows a SOLO module that its partner has entered SYNCING (Table PAIR-2). -/
def execLeashSync (l : LeashHdr) (code partNumber brev : Nat) (s : State) : Host.Outcome State Fault Refusal :=
  .next (leashRx l false (fun s =>
    match s.pair.state with
    | .active => if code = 0 then fullTransfer s else s
    | .solo => if code = 0 then
        fullTransfer (setPair .active 8 { s with pair := { s.pair with heartbeat := some 1, heartbeatRaw := s.tim.raw } }) else s
    | .syncing =>
      let s1 := { s with pair := { s.pair with partNumberOk := partNumber == partCode s && brev == Config.behaviourRev } }
      if code = 2 ∧ s.pair.syncDone = false then
        recordEvent (evSys 0x0B0A 1 s1.pair.syncPages 0 0) { s1 with pair := { s1.pair with syncDone := true } }
      else s1
    | _ => s) s)
/-- STANDBY is not reached within SYNC_TIMEOUT (R439). -/
def execSyncTimeoutExpiry (s : State) : Host.Outcome State Fault Refusal :=
  .next (if s.pair.state = .syncing ∧ rawSec s.cfg.pair.syncTimeout ≤ s.tim.raw - s.pair.syncRaw then
      let s1 := recordEvent (evSys 0x0B0A 2 s.pair.syncPages 0 0) s
      leashSend (.sync 0 (partCode s) Config.behaviourRev) 0 0 { s1 with pair := { s1.pair with syncRaw := s1.tim.raw, syncDone := false, syncPages := 0 } }
    else s)

/-! ### Checked shadow transmission (R441 to R443) -/

/-- Receipt of a frame digest (Table PAIR-6). -/
def execLeashFdigest (l : LeashHdr) (key : ShadowKey) (prpSeq : Nat) (crc : U64) (s : State) : Host.Outcome State Fault Refusal :=
  .next (leashRx l true (fun s =>
    if s.pair.state ≠ .standby then s
    else match s.pair.shadow.find? (fun f => f.key == key) with
      | some f => judgeFrame f prpSeq crc { s with pair := { s.pair with shadow := s.pair.shadow.erase f } }
      | none => { s with pair := { s.pair with early := s.pair.early ++ [⟨key, prpSeq, crc, 0⟩] } }) s)
/-- LAG ends with no digest for the key (R442). -/
def execShadowLagExpiry (key : ShadowKey) (s : State) : Host.Outcome State Fault Refusal :=
  .next (match s.pair.shadow.find? (fun f => f.key == key) with
    | none => s
    | some f => if s.tim.raw - f.raw < rawUs s.cfg.pair.lag then s
      else queueUnchecked f { s with pair := { s.pair with shadow := s.pair.shadow.erase f } })
/-- A mirrored coefficient write is booked: at its sample, or at the next one when that has been computed (13 R415). -/
def bookCoef (index : Nat) (value : F32) (e : CoefAt) (s : State) : State :=
  let late := !loopIdle s e.sample && decide (e.sample < s.lop.nextSample)
  { s with lop := { s.lop with pend := s.lop.pend ++ [⟨index, value, if late then s.lop.nextSample else e.sample, late, e.jseq⟩] } }
/-- Receipt of a coefficient write (13 R415). -/
def execLeashCoef (l : LeashHdr) (index : Nat) (value : F32) (effect : CoefAt) (s : State) : Host.Outcome State Fault Refusal :=
  .next (leashRx l true (fun s =>
    if !follows s || decide (36 < index) then s
    else bookCoef index value effect s) s)

/-! ### Page requests (R449) -/

/-- What the reply to a page request holds (R449): nothing for an object marked diverged. -/
def pageReply (s : State) (k : PageKey) : List PageData :=
  if s.pair.state = .standby ∧ s.pair.diverged.contains (k.kind, k.obj) = false then (tget s.pair.checkpoint k).toList else []
/-- Receipt of a page request: the checkpoint pages of the object, or an empty reply. -/
def execLeashPageReq (l : LeashHdr) (page : PageKey) (s : State) : Host.Outcome State Fault Refusal :=
  .next (leashRx l false (fun s => leashSend (.pageResp page (pageReply s page)) (pageDie s page) page.obj s) s)
/-- A page reply takes effect: a node's state is restored or starts cold, a signal record is restored (01 Table ARC-3). -/
def takeReply (k : PageKey) (pages : List PageData) (s : State) : State :=
  match k.kind, pages with
  | 0, .node op :: _ => if (nodeSt s k.obj).lost then setNode k.obj { nodeSt s k.obj with op := op, lost := false } s else s
  | 0, _ => if (nodeSt s k.obj).lost then coldNode k.obj s else s
  | 1, .signal r u :: _ =>
    let lost (x : SigRec) : Bool := bitN x.qual 6 && qInvalid x.qual
    let s1 := if lost (recOf s k.obj) then { s with sig := { s.sig with recs := tset s.sig.recs k.obj r } } else s
    match u with
    | some w => if forced s k.obj && lost (writerRec s k.obj) then { s1 with sig := { s1.sig with under := tset s1.sig.under k.obj w } } else s1
    | none => s1
  | _, _ => s
/-- Receipt of a page reply (R449). -/
def execLeashPageResp (l : LeashHdr) (page : PageKey) (pages : List Machine.PageData) (s : State) : Host.Outcome State Fault Refusal :=
  .next (leashRx l false (takeReply page pages) s)

/-! ### Self-test (R450) -/

/-- A test may run: every pair state but FAILED. -/
def testsRun (s : State) : Bool := s.pair.state != .failed
/-- The 256 bytes of a loopback pattern. DESIGN CHOICE (log entry 161). -/
def loopPattern : Bytes := List.range 256
/-- The outcome of a loopback pattern on a lane: three failures in a row take it down (Table PAIR-8a). -/
def loopback (lane : Nat) (ok : Bool) (s : State) : State :=
  let x := laneSt s lane
  if ok then setLane lane { x with loopFail := 0, loopSent := false } s
  else
    let s1 := setLane lane { x with loopFail := x.loopFail + 1, loopSent := false } { s with pair := { s.pair with
      loopFails := s.tim.raw :: s.pair.loopFails.filter (fun r => decide (s.tim.raw ≤ r + rawSec 60)) } }
    if 3 ≤ x.loopFail + 1 then laneDown lane 2 s1 else s1
/-- The pattern of a lane is due: one that has no echo yet has failed, and the next one is sent. -/
def loopDue (lane : Nat) (s : State) : State :=
  let s1 := if (laneSt s lane).loopSent then loopback lane false s else s
  if !(laneSt s1 lane).up then s1
  else laneControl lane (.loopback false loopPattern) (setLane lane { laneSt s1 lane with loopSent := true } s1)
/-- Every 100 ms a loopback pattern is sent on each lane that is UP; the partner's is echoed, and the echo is checked (R450, Tables
PAIR-5 and PAIR-8a). -/
def execLeashLoopback (l : LeashHdr) (x : LoopRow) (s : State) : Host.Outcome State Fault Refusal :=
  .next (match x with
    | .due => if !testsRun s ∨ !(laneSt s l.lane).up then s else every 5 l.lane (rawMs 100) (loopDue l.lane) s
    | .request p => leashTag l (laneControl l.lane (.loopback true p)) s
    | .echo p => leashTag l (fun s => if (laneSt s l.lane).loopSent then loopback l.lane (p == loopPattern) s else s) s)
/-- A signal's value failed parity: a read gives invalid with failure until it is written again, of the record that readers see and
of the one beneath a force (01 Table ARC-3). -/
def signalParity (id : Nat) (s : State) : State :=
  let bad (r : SigRec) : SigRec := { r with qual := qSet (qVal r.qual 1) 6 }
  let s1 := { s with sig := { s.sig with
    recs := tset s.sig.recs id (bad (recOf s id))
    under := if forced s id then tset s.sig.under id (bad (writerRec s id)) else s.sig.under } }
  if s.pair.state = .active ∧ partnerState s = 2 then leashSend (.pageReq ⟨1, id, 0⟩) (sigDieOf s id) id s1 else s1
/-- A journal entry in MRAM that fails parity is read as not valid from then on (01 Table ARC-3). -/
def loseEntry (jseq : Nat) (s : State) : State := { s with cmd := { s.cmd with jnl := s.cmd.jnl.filter (fun e => e.2.seq != jseq) } }
/-- A record of the event ring that fails parity reads as zero from then on (01 Table ARC-3, 16 R491). -/
def loseRecord (seq : Nat) (s : State) : State := { s with evr := { s.evr with ring := s.evr.ring.filter (fun e => e.2.seq != seq) } }
/-- The correction of a latent parity error (01 Table ARC-3). -/
def correctParity (die : Nat) (p : ParityPlace) (s : State) : State :=
  let at_ : Loc := ⟨die, 0, 0⟩
  match p with
  | .signalRecord id => signalParity id (parityError 4 3 at_ id s)
  | .filterHistory c => setChain c { chainSt s c with parityBad := true } (parityError 3 2 ⟨die, c / 2048 % 4, 0⟩ c s)
  | .nodeState n => repairState n false (parityError 0 1 (locOf s n) n s)
  | .packetBuffer chain => spoilChain die chain s
  | .instant stream inst => spoilInstant stream inst (parityError 6 3 at_ stream s)
  | .journalEntry jseq => loseEntry jseq (parityError 7 3 at_ 0 s)
  | .eventRecord seq => loseRecord seq (parityError 7 3 at_ 0 s)
  | .keyShare k =>
    let x := slotSt s k
    parityError 8 4 at_ k { s with key := { s.key with slots := tset s.key.slots k { booked := x.booked } } }
  | .other k => parityError k 3 at_ 0 s
/-- The scrub of a die's DRAM: a clean pass, or an error found and corrected (Table PAIR-8a). -/
def execDramScrub (die : Nat) (bad : Option ParityPlace) (s : State) : Host.Outcome State Fault Refusal :=
  .next (if !testsRun s || !hasDie s die then s
    else match bad with
      | none => setFlag 11 false { s with pair := { s.pair with scrubPass := s.pair.scrubPass + 1 } }
      | some p => correctParity die p (setFlag 11 true { s with pair := { s.pair with scrubErr := s.pair.scrubErr + 1 } }))
/-- An eye opening, in units of 0.001 UI (Table PAIR-8a). -/
def eyeSeen (isLane : Bool) (index opening : Nat) (s : State) : State :=
  let s1 := { s with pair := { s.pair with
    eyes := (s.tim.raw, opening) :: s.pair.eyes.filter (fun e => decide (s.tim.raw ≤ e.1 + rawSec 1)) } }
  if opening < 300 then evSelftest 3 (if isLane then index else index / 4) opening (setFlag 10 true s1) else s1
/-- Every 1 s the eye of each port and lane is measured. -/
def execEyeMonitor (isLane : Bool) (index opening : Nat) (s : State) : Host.Outcome State Fault Refusal :=
  .next (if !testsRun s then s else every (if isLane then 4 else 3) index (rawSec 1) (eyeSeen isLane index opening) s)
/-- The known-answer tests of KENNEL run; a failure is fatal (Table PAIR-8a). -/
def katResult (ok : Bool) (s : State) : State :=
  let s1 := { s with pair := { s.pair with katRuns := s.pair.katRuns + 1 } }
  if ok then s1 else raiseFatal 13 { s1 with key := { s1.key with katFail := true } }
/-- Every 60 s, and before the first use of a key after start-up, they run. -/
def execKatRun (ok : Bool) (s : State) : Host.Outcome State Fault Refusal :=
  .next (if !testsRun s then s else every 6 0 (rawSec 60) (katResult ok) s)

/-! ### Commands (R453 to R455) -/

/-- PAIR_CONFIG (Table PAIR-12). -/
def pairConfigPacket (h : Hdr) (p : PairParams) : Packet :=
  configPacket h 0x0B00 (fun _ => decide (p.mode ≤ 1 ∧ 2 ≤ p.lag ∧ p.lag ≤ 100 ∧ p.leashSlot ≤ 255 ∧ p.arbSlot ≤ 255 ∧ 8 ≤ p.prefixLen
    ∧ p.prefixLen ≤ 30 ∧ 1024 ≤ p.udpPort ∧ p.udpPort ≤ 65535 ∧ 10 ≤ p.syncTimeout ∧ p.syncTimeout ≤ 600)) (.pairConfig p)
/-- PAIR_CONFIG. -/
def execPairConfig (h : Hdr) (p : PairParams) (s : State) : Host.Outcome State Fault Refusal :=
  .next (submit (.pairConfig h p) (pairConfigPacket h p) s)
/-- PAIR_RELINQUISH waits for STANDBY under cause 9, or for 50 ms (R454). -/
def pairRelinquishPacket (h : Hdr) : Packet :=
  { h, opcode := 0x0B40, pfOnly := true,
    eff := fun j s =>
      if s.pair.relinquish.isSome then failRes stBusy s
      else if s.pair.state ≠ .active ∨ partnerState s ≠ 2 then failRes stFailed s
      else .wait (setFlag 1 true { s with pair := { s.pair with relinquish := some ⟨0, h.func, h.qp, j⟩, relinquishRaw := s.tim.raw } }) }
/-- PAIR_RELINQUISH. -/
def execPairRelinquish (h : Hdr) (s : State) : Host.Outcome State Fault Refusal :=
  .next (submit (.pairRelinquish h) (pairRelinquishPacket h) s)
/-- 50 ms pass without entry into STANDBY (R454). -/
def execRelinquishTimeout (s : State) : Host.Outcome State Fault Refusal :=
  .next (match s.pair.relinquish with
    | none => s
    | some b => if s.tim.raw - s.pair.relinquishRaw < rawMs 50 then s
      else completeCmd b.jseq stFailed 0 (setFlag 1 false { s with pair := { s.pair with relinquish := none } }))
/-- PAIR_LEASH_REKEY books the commit of the LEASH slot's PENDING key (R455). -/
def pairLeashRekeyPacket (h : Hdr) (slot atCycle : Nat) : Packet :=
  { h, opcode := 0x0B41, pfOnly := true, needsKey := fun _ => true,
    eff := fun j s =>
      if 255 < slot ∨ slot ≠ s.cfg.pair.leashSlot ∨ (slotSt s slot).pending.isNone = true ∨ atCycle < s.cycleNum + 8 then failRes stFailed s
      else okRes { s with pair := { s.pair with rekey := some (slot, atCycle), rekeySeq := j } } }
/-- PAIR_LEASH_REKEY. -/
def execPairLeashRekey (h : Hdr) (slot atCycle : Nat) (s : State) : Host.Outcome State Fault Refusal :=
  .next (submit (.pairLeashRekey h slot atCycle) (pairLeashRekeyPacket h slot atCycle) s)
/-- PAIR_STATE (Table PAIR-10). -/
def pairWord (s : State) : Nat :=
  s.pair.epoch % 2 ^ 32 * 2 ^ 32 + s.pair.partner % 256 * 256 + bbit (standalone s) 6 + bbit (leashUp s) 5 + bbit s.pair.mirrorLost 4
    + s.pair.side % 2 * 8 + pstateNum s.pair.state
/-- PAIR_STATUS. -/
def pairStatusPacket (h : Hdr) : Packet :=
  { h, opcode := 0x0B80, pfOnly := false,
    eff := fun _ s => .done stOk (resB 0 (pairWord s) ||| resB 8 (leaseLeft s) ||| resB 12 (flagsNow s).toNat) s }
/-- PAIR_STATUS. -/
def execPairStatus (h : Hdr) (s : State) : Host.Outcome State Fault Refusal := .next (submit (.pairStatus h) (pairStatusPacket h) s)
/-- PAIR_HEALTH_READ writes the last report sent. -/
def pairHealthReadPacket (h : Hdr) (buf : Nat) : Packet :=
  { h, opcode := 0x0B81, pfOnly := true, outBytes := 256,
    eff := fun _ s => .done stOk (resB 0 (s.pair.reportSeq % 2 ^ 64)) (hostWrite h.func buf s.pair.report s) }
/-- PAIR_HEALTH_READ. -/
def execPairHealthRead (h : Hdr) (buf : Nat) (s : State) : Host.Outcome State Fault Refusal :=
  .next (submit (.pairHealthRead h buf) (pairHealthReadPacket h buf) s)

end Sys2Proof.Machine
end

