-- ==== Sys2Proof/Machine/Domains.lean ====
section
/-! DEFINITION. The choice of a power state for a switched domain: what it hosts, the tolerance it must meet, its known events, and the states that
are allowed (19 R565 to R569). -/
namespace Sys2Proof.Machine

/-! ### Switched domains (R565 to R569) -/

/-- The latency tolerance of a function (15 R476). -/
def tolOf (s : State) (func : Nat) : Nat := if func = 0 then s.vfn.pfTol else (vfSt s (func - 1)).tol
/-- Nodes and tasks of a region. -/
def regionTasks (s : State) (d a : Nat) : List Nat := procTasks s (4 * d + a)
/-- The functions of the objects that a domain hosts (Table PWR-3); a graph in PF custody takes the PF's tolerance. -/
def hostedFuncs (s : State) (die dom : Nat) : List Nat :=
  if dom < 8 then
    (regionNodes s die (dom % 4)).map (fun n => match nodeAt s n with | some (g, _) => graphOwner s g | none => 0) ++ (if dom < 4 then (regionTasks s die dom).map (fun _ => 0) else [])
  else if dom = 8 then
    (s.cfg.streams.filter (fun e => strDie e.1 == die)).map (fun _ => 0) ++ (s.cfg.chains.filter (fun e => e.1 / 8192 == die)).map (fun _ => 0)
  else if dom = 9 then
    ((List.range 4).filter (fun i => decide ((portSt s (4 * die + i)).o.obj ≠ .off))).map (fun _ => 0)
  else if dom = 11 then
    (s.cfg.streams.filter (fun e => strDie e.1 == die && e.2.keySlot != 0xFFFF)).map (fun _ => 0)
      ++ (s.cfg.gs.filter (fun e => e.1 / 4096 == die && e.2.keySlot != 0xFFFF)).map (fun _ => 0)
  else []
/-- The smallest tolerance of the objects that a domain hosts; none when it hosts none (R567). -/
def domainTol (s : State) (die dom : Nat) : Option Nat :=
  match (hostedFuncs s die dom).map (tolOf s) with
  | [] => none
  | t :: l => some (l.foldl Nat.min t)
/-- The region of a compute or memory domain is empty. -/
def regionEmpty (s : State) (die dom : Nat) : Bool := (regionNodes s die (dom % 4)).isEmpty && (regionTasks s die (dom % 4)).isEmpty
/-- A compute or memory domain hosts a protection-class node. -/
def hostsProt (s : State) (die dom : Nat) : Bool := decide (dom < 8) && (regionNodes s die (dom % 4)).any (isProt s)
/-- A die's network domain may go below IDLE: every port is OFF, no LEASH lane and no management port is enabled. -/
def networkQuiet (s : State) (die : Nat) : Bool :=
  (List.range 4).all (fun i => decide ((portSt s (4 * die + i)).o.obj = .off)) && standalone s
    && (decide (1 < die) || (mgmtCfg s die).enable == 0)
/-- Wake latency of a state, ns (Table PWR-4). -/
def wakeNs : Nat → Nat
  | 0 => 0 | 1 => 20 | 2 => 2000 | _ => 40000
/-- Break-even time of a state, ns (Table PWR-4). -/
def breakEvenNs : Nat → Nat
  | 2 => 10000 | 3 => 500000 | _ => 0
/-- The margin of R569 before the earliest deadline of the domain's pending entries and ready firings. -/
def retainMargin (s : State) (die dom : Nat) : Bool :=
  (s.grf.store.filter (fun e => decide (regionOf s e.node = 4 * die + dom % 4))).all (fun e =>
    decide (munits (now s) + 7000 * two32 ≤ (deadline s e.node e.inst : Int) * two32))
/-- A state is allowed for a domain now (Table PWR-3, R569). -/
def stateAllowed (s : State) (die dom st : Nat) : Bool :=
  match st with
  | 0 | 1 => true
  | 2 => if dom < 8 then !hostsProt s die dom || retainMargin s die dom
         else if dom = 9 then networkQuiet s die else dom == 8 || dom == 11
  | _ => if dom < 8 then regionEmpty s die dom else dom == 9 && networkQuiet s die
/-! ### Known events (R567) -/

/-- The next instant of a rate after now. -/
def nextInstant (s : State) (rate : Nat) : Nat := lastInstant rate (munits (now s)) + 1
/-- T(n) of the next instant at which a chain gives an output (07 R217); none for a chain without a stream. -/
def nextOutput (s : State) (c : Nat) : Option Int :=
  (tget s.cfg.chains c).bind (fun p => (svCtx s p.stream).bind (fun x =>
    let n := nextInstant s x.rate
    (((List.range (max 1 (product p))).map (n + ·)).find? (isOutput s x.rate (product p))).map (fun m => munits (instantTime x.rate m))))
/-- The opening of the next cycle whose number is a multiple of `div`. -/
def nextCycle (s : State) (div : Nat) : Int := munits (boundaryTime s.cfg.cycleLen ((s.cycleNum / max 1 div + 1) * max 1 div))
/-- The effect point of a booked action (09 Table GRF-7). -/
def effectPoint (s : State) (e : SchedEntry) : Int :=
  let m := if e.late then e.accepted else secNs e.sec e.ns
  let len := max 1 s.cfg.cycleLen
  if e.action = 4 then munits m
  else if e.action = 2 then munits (instantTime (loopRate s) (setpointAt s e))
  else munits (boundaryTime s.cfg.cycleLen ((cycleUnitsUp m + (len - 1)) / len))
/-- The booked actions, the pending heel among them (09 R298, R299). -/
def actionEvents (s : State) : List Int :=
  s.grf.sched.map (fun e => effectPoint s e.2) ++ (match s.flt.pending with | some h => [munits (secNs h.sec h.ns)] | none => [])
/-- The outputs that feed the nodes of a region, and the CYCLE firings of its nodes. -/
def nodeEvents (s : State) (die a : Nat) : List Int :=
  (regionNodes s die a).flatMap (fun id => (nodeChains s id).filterMap (nextOutput s)
    ++ (match nodeAt s id with | some (_, r) => if r.cycle then [nextCycle s r.cycleDiv] else [] | none => []))
/-- The scans of a region's logic tasks that are ON and not in STOP. -/
def scanEvents (s : State) (die a : Nat) : List Int :=
  (regionTasks s die a).filterMap (fun t => (taskImg s t).bind (fun g =>
    if (taskSt s t).o.obj = .on ∧ (taskSt s t).mode ≠ .stop then some (nextCycle s g.div) else none))
/-- The samples of the streams that are ON. -/
def streamEvents (s : State) (die : Nat) : List Int :=
  (s.cfg.streams.filter (fun e => strDie e.1 == die && decide ((strSt s e.1).o.obj = .on))).filterMap (fun e =>
    (svCtx s e.1).map (fun c => munits (instantTime c.rate (nextInstant s c.rate))))
/-- RAW from now to the next re-mask of a slot's volatile keys or of its PERSIST key (17 R509), in units of 2^−32 ns from now. -/
def remaskEvents (s : State) : List Int :=
  s.key.slots.flatMap (fun e =>
    let due := fun (kind ticks : Nat) => munits (now s) + ((tgetD s.pair.lastRun (kind, e.1) 0 + ticks - s.tim.raw : Nat) : Int) * 2 * two32
    (if e.2.cur.isSome || e.2.pending.isSome || e.2.rolled.isSome then [due 13 (rawMs 100)] else [])
      ++ (if (e.2.bankOf e.2.bank).isSome then [due 14 (rawSec 1)] else []))
/-- The known events of a domain (R567); the expiry of an operator timer comes with DOMAIN_FREE (log entry 114). -/
def knownEvents (s : State) (die dom : Nat) : List Int :=
  actionEvents s ++ (if dom < 8 then nodeEvents s die (dom % 4) ++ (if dom < 4 then scanEvents s die dom else [])
    else if dom = 8 then streamEvents s die
    else if dom = 11 ∧ die = 0 then remaskEvents s else [])
/-- The domain's break-even time and wake latency fit before every known event. -/
def knownFits (s : State) (die dom ns : Nat) : Bool :=
  (knownEvents s die dom).all (fun u => decide (u < munits (now s) ∨ munits (now s) + ns * two32 ≤ u))

/-! ### The choice -/

/-- A state meets the tolerance and the time left before the next known event, those the state shows and the one that is named (R567). -/
def stateFits (s : State) (die dom : Nat) (untilEvent : Option Nat) (st : Nat) : Bool :=
  (match domainTol s die dom with | some t => decide (wakeNs st ≤ t) | none => true)
    && (match untilEvent with | some u => decide (breakEvenNs st + wakeNs st ≤ u) | none => true)
    && knownFits s die dom (breakEvenNs st + wakeNs st)
/-- The deepest state that may be chosen. -/
def chooseState (s : State) (die dom : Nat) (untilEvent : Option Nat) : Nat :=
  ([3, 2, 1].find? (fun st => decide (st ≤ nth s.cfg.maxState dom 3) && stateAllowed s die dom st
    && stateFits s die dom untilEvent st)).getD 0
/-- A change of tolerance, MAX_STATE or hosted objects: a domain deeper than it may now be leaves that state at once; a deeper
one waits until the domain next becomes free (R567, log entry 114). -/
def rechoose (die dom : Nat) (s : State) : State :=
  let c := (domainSt s die dom).1
  if c = 0 ∨ s.plm.exclDies.contains die = true then s
  else
    let st := min c (chooseState s die dom none)
    if st = c then s else bump (.pwrWake die dom) (setDomain die dom st s)
/-- Every domain of the module. -/
def rechooseAll (s : State) : State :=
  (List.range (Config.dies s.variant)).foldl (fun s d => (List.range 12).foldl (fun s k => rechoose d k s) s) s

end Sys2Proof.Machine
end

