-- ==== Sys2Proof/Machine/Packets.lean ====
section
/-! DEFINITION. Command packets and completions as bytes (02 R66, R71, R72; Tables CMD-3, CMD-4, CMD-14), the opcodes that the
chapters define, and a packet whose opcode none of them defines (02 R82, R85). -/
namespace Sys2Proof.Machine

/-! ### Layouts -/

/-- FLAGS (Table CMD-4); PBLK is set when the parameters are in a block. -/
def flagsWord (h : Hdr) : Nat :=
  bbit (decide (0 < h.pblkLen)) 3 + bbit h.genchk 2 + bbit h.nojournal 1 + bbit h.strict 0
/-- Bytes 0 to 15 of a packet (Table CMD-3). -/
def headBytes (opcode : Nat) (h : Hdr) : Bytes :=
  leBytes 2 opcode ++ leBytes 2 (flagsWord h) ++ leBytes 4 h.tag ++ leBytes 8 h.expGen
/-- PARAM when PBLK is 1: the block's host address and its length; the rest is reserved (Table CMD-3). -/
def blockParam (h : Hdr) : Bytes := leBytes 8 h.pblkAddr ++ leBytes 4 h.pblkLen ++ List.replicate 36 0
/-- The 64 bytes of a packet with its inline parameters (Table CMD-3). -/
def packetBytes (opcode : Nat) (h : Hdr) (inline : Bytes) : Bytes :=
  headBytes opcode h ++ (if 0 < h.pblkLen then blockParam h else inline)
/-- The field of `n` bytes at a place of a packet. -/
def field (b : Bytes) (at_ n : Nat) : Nat := bytesNat ((b.drop at_).take n)
/-- OPCODE of a packet. -/
def opcodeOf (b : Bytes) : Nat := field b 0 2
/-- The header of a packet in a queue pair of a function (Tables CMD-3 and CMD-4). -/
def readHdr (func qp : Nat) (b : Bytes) : Hdr :=
  let flags := field b 2 2
  let blk := bitN flags 3
  { func, qp, tag := field b 4 4, strict := bitN flags 0, genchk := bitN flags 2, nojournal := bitN flags 1,
    pblkLen := if blk then field b 24 4 else 0, expGen := field b 8 8, pblkAddr := if blk then field b 16 8 else 0 }
/-- The 32 bytes of a completion (Table CMD-14). -/
def cplBytes (c : Completion) : Bytes :=
  leBytes 4 c.tag ++ [c.status % 256, bbit c.phase 0] ++ leBytes 2 c.opcode ++ leBytes 8 c.jseq ++ leBytes 16 c.result.toNat

/-! ### Opcodes (R73, R85, Table CMD-7) -/

/-- The class of an opcode. -/
def classOf (opcode : Nat) : Nat := opcode / 256
/-- The numbers that a class defines. -/
def classNumbers : Nat → List Nat
  | 0x00 => [0x06, 0x40, 0x41, 0x42, 0x43, 0x80, 0x81]
  | 0x01 => [0x00, 0x01, 0x02, 0x40, 0x41, 0x80]
  | 0x02 => [0x00, 0x01, 0x40, 0x80]
  | 0x03 => [0x00, 0x01, 0x02, 0x03, 0x40, 0x80, 0x81]
  | 0x04 => [0x01, 0x02, 0x40, 0x41, 0x80]
  | 0x05 => [0x00, 0x01, 0x40, 0x80]
  | 0x06 => [0x00, 0x01, 0x02, 0x03, 0x04, 0x40, 0x41, 0x42, 0x43, 0x80]
  | 0x07 => [0x00, 0x01, 0x40, 0x41, 0x42, 0x43, 0x80, 0x81, 0x82]
  | 0x08 => [0x00, 0x01, 0x02, 0x40, 0x80]
  | 0x09 => [0x00, 0x01, 0x40, 0x41, 0x42, 0x43, 0x44, 0x45, 0x46, 0x80]
  | 0x0A => [0x00, 0x40, 0x41, 0x80]
  | 0x0B => [0x00, 0x40, 0x41, 0x80, 0x81]
  | 0x0C => [0x00, 0x01, 0x40, 0x41, 0x42, 0x43, 0x44, 0x45, 0x80]
  | 0x0D => [0x40, 0x41, 0x80]
  | 0x0E => [0x00, 0x40, 0x41, 0x42, 0x43, 0x44, 0x45, 0x46, 0x47, 0x48, 0x49, 0x4A, 0x4B, 0x80, 0x81]
  | 0x0F => [0x00, 0x40, 0x41, 0x42, 0x43, 0x80]
  | 0x10 => [0x00, 0x40, 0x41, 0x80]
  | _ => []
/-- A chapter defines the opcode; a class above 0x10 defines none (R85). -/
def knownOpcode (opcode : Nat) : Bool := (classNumbers (classOf opcode)).contains (opcode % 256)

/-- BKD_RTC_HALT with a HALT that neither of its rows names (18 Table BKD-5). -/
def haltOutside (b : Bytes) : Bool := opcodeOf b == 0x0F40 && decide (1 < field b 16 1)
/-- A packet that no row names: its class or opcode is no chapter's, ST_NOT_SUPPORTED before every other check (R82, R85), or it is
BKD_RTC_HALT with HALT outside its range, ST_FAILED (18 R557). -/
def unknownPacket (func qp : Nat) (b : Bytes) : Packet :=
  if haltOutside b then
    { h := readHdr func qp b, opcode := 0x0F40, pfOnly := true, restrictedOk := true, eff := fun _ s => failRes stFailed s }
  else
    { h := readHdr func qp b, opcode := opcodeOf b, pfOnly := false, unsupported := fun _ => true, eff := fun _ s => failRes stNotSupported s }

end Sys2Proof.Machine
end

