-- ==== Sys2Proof/Machine/Vfn.lean ====
section
/-! DEFINITION. Virtual functions and tenant isolation (15): shares and uses, quiescing, draining and custody, function-level
reset, SR-IOV changes and the PF's reset, and the commands of the VFs class. -/
namespace Sys2Proof.Machine

/-! ### Uses of resources (R462 to R466, Tables VFN-1 and VFN-2) -/

/-- Planned load of a function's nodes, unit cycles per second. -/
def plannedUse (s : State) (func : Nat) : Quot2 :=
  qsum (((allNodes s).filter (fun n => graphOwner s n.2.1 == func)).map (fun n => loadOf s n.1))
/-- The use of a resource by a function; a planned load is rounded up. -/
def useOf (s : State) (func r : Nat) : Nat :=
  match r with
  | 0 => (let q := plannedUse s func; (q.1 + q.2 - 1) / q.2)
  | 1 => entriesOf s func
  | 2 => queueUse s func
  | _ => tgetD s.vfn.cells func 0
/-- VFs that are not OFF. -/
def liveVfs (s : State) : List Nat := (s.vfn.vfs.filter (fun e => e.2.o.obj != .off)).map (·.1)
/-- With a fraction and a count of VFs, every VF's FXU share covers its planned use, and the PF's remainder of every resource
covers the PF's use (R465, R466). -/
def sharesHold (s : State) (fraction n : Nat) (vs : List Nat) : Bool :=
  (List.range 4).all (fun r => decide (useOf s 0 r + n * floorFor s fraction n r + grantSum s r ≤ capacity s r))
    && vs.all (fun v => decide (useOf s (v + 1) 0 ≤ floorFor s fraction n 0 + nth (vfSt s v).grants 0 0))

/-! ### Custody and removal (R469 to R474) -/

/-- EV_VF_CUSTODY (Table VFN-9). -/
def evCustody (v n dir : Nat) (s : State) : State := recordEvent (evPkg 0x0C03 v n dir v) s
/-- Cancel a VF's booked actions on graphs without a PROTECTION node. -/
def cancelActions (v : Nat) (s : State) : State :=
  { s with grf := { s.grf with sched := s.grf.sched.filter (fun e =>
      !(e.2.func == v + 1 && !graphProt s (actionGraph e.2.action e.2.target))) } }
/-- Cancel every booked action on some graphs. -/
def cancelOn (gs : List Nat) (s : State) : State :=
  { s with grf := { s.grf with sched := s.grf.sched.filter (fun e =>
      !(decide (e.2.action ≤ 1) && gs.contains (actionGraph e.2.action e.2.target))) } }
/-- The graphs of a VF without a PROTECTION node that are not in PF custody. -/
def plainGraphs (s : State) (v : Nat) : List Nat := (vfGraphs s v).filter (fun g => !(graphSt s g).custody && !graphProt s g)
/-- A graph passes to PF custody. -/
def takeCustody (g : Nat) (s : State) : State := setGraph g { graphSt s g with custody := true } s
/-- A VF's graphs: those with a PROTECTION node pass to PF custody unchanged, the others are disabled and, when `all` asks,
pass too; what has passed takes the PF's tolerance (R476). -/
def partGraphs (v : Nat) (all : Bool) (s : State) : State :=
  let gs := (vfGraphs s v).filter (fun g => !(graphSt s g).custody)
  let s1 := foldSt (fun g s => if graphProt s g then takeCustody g s
    else (let s' := (graphChange g false 0 s).2; if all then takeCustody g s' else s')) gs s
  let n := (gs.filter (fun g => all || graphProt s g)).length
  if n = 0 then s1 else rechooseAll (evCustody v n 0 s1)
/-- A packet held in a ring belongs to a function's pairs. -/
def heldHdr : Instr → Option Hdr
  | .sysCycleSet h _ | .configCommit h | .configAbort h | .queueCreate h _ | .queueDelete h _ | .nop h | .identify h
  | .timPtpConfig h _ | .timAsymSet h _ | .timThreshSet h _ | .acceptPath h _ | .timStep h _ | .timStatus h
  | .netPortConfig h _ _ | .netMgmtConfig h _ _ | .netPortEnable h _ _ | .netPortStatus h _
  | .swcQueueConfig h _ | .swcMcastSet h _ _ _ | .swcPortFwd h _ _ | .swcAging h _ _ | .swcLearnFlush h _ | .swcMcastRead h _ _
  | .swcLookup h _ _ _ _ | .svSubscribe h _ _ | .svUnsubscribe h _ | .svStreamEnable h _ _ | .svResync h _ | .svStreamRead h _
  | .fltChainSet h _ _ _ | .fltHeelPin h _ _ | .fltHeel h _ _ _ | .fltChainRead h _
  | .sigDefine h _ | .sigGsSubscribe h _ _ | .sigGpDefine h _ _ | .sigSvpDefine h _ _ | .sigSharedId h _ | .sigWrite h _
  | .sigForce h _ | .sigGsEnable h _ _ | .sigGpEnable h _ _ | .sigRead h _ _ _ _
  | .grfGraphLoad h _ _ _ | .grfGraphUnload h _ | .grfEnable h _ _ _ | .schedule h _ | .scheduleCancel h _ | .grfSettingGroup h _ _
  | .grfGraphRead h _ | .scheduleRead h _ | .grfShareRead h _
  | .plmGroupSet h _ _ _ | .plmOwnerDies h _ _ | .plmPolicy h _ _ _ | .plmFreeze h _ | .plmMapRead h _ _ _ _
  | .lgcTaskDefine h _ _ _ _ _ | .lgcConfig h _ _ | .lgcEnable h _ _ | .lgcMode h _ _ | .lgcStep h _ | .lgcValueWrite h _
  | .lgcOnlineLoad h _ _ _ | .lgcOnlineSwitch h _ | .lgcRestart h _ _ | .lgcTaskRead h _
  | .loopConfig h _ | .loopEnable h _ | .loopCoefWrite h _ _ | .loopRead h
  | .pairConfig h _ | .pairRelinquish h | .pairLeashRekey h _ _ | .pairStatus h | .pairHealthRead h _
  | .vfnPolicy h _ | .vfnVfConfig h _ _ | .vfEnable h _ _ | .vfQuiesce h _ | .vfResume h _ | .vfShareSet h _ _ _
  | .vfCustodyReturn h _ | .vfLatencySet h _ _ | .vfStatus h _ _
  | .evrClear h _ | .evrMark h _ _ _ | .evrRead h _ _ _
  | .keyConfig h _ _ | .keyImport h _ _ _ | .keyLoad h _ _ | .keyGenerate h _ | .keyVerify h _ _ _ _ | .keyCommit h _ _
  | .keyDiscard h _ _ | .keyAttest h _ _ _ _ | .keyFwWrite h _ _ | .keyFwActivate h | .keyRollbackAdvance h _ | .keyTamperClear h _ _
  | .keyRecoverySet h _ | .keySlotRead h _ | .keyIdentityRead h _
  | .bkdConfig h _ _ | .bkdRtcHalt h | .bkdRtcHaltRelease h | .bkdRtcWrite h _ | .bkdAlarmSet h _ _ | .bkdPwrOnReq h _ | .bkdRtcRead h
  | .pwrPolicy h _ | .pwrRestart h _ | .pwrRestoreNow h | .pwrStatus h => some h
  | .cmdSqTail func qp ⟨_, b :: _⟩ => some (readHdr func qp b)
  | _ => none
/-- A waiting packet stands in one of these pairs of a function. -/
def heldIn (func : Nat) (p : Nat → Bool) (i : Instr) : Bool :=
  match heldHdr i with | some h => h.func == func && p h.qp | none => false
/-- Delete queue pairs of a function: their rings, their waiting packets and their unreleased completions go. -/
def dropPairs (func : Nat) (p : Nat → Bool) (s : State) : State :=
  { s with cmd := { s.cmd with
      qps := s.cmd.qps.filter (fun e => !(e.1.1 == func && p e.1.2))
      held := s.cmd.held.filter (fun i => !heldIn func p i)
      cpls := s.cmd.cpls.filter (fun c => !(c.func == func && p c.qp)) } }
/-- Queue pair 0, the registers and the capture set of a function at their reset values, with its staging emptied (R471). -/
def resetFunc (func : Nat) (s : State) : State :=
  let s1 := dropPairs func (fun _ => true) s
  { s1 with cmd := { s1.cmd with aq := tdel s1.cmd.aq func, cursor := tdel s1.cmd.cursor func, staging := tdel s1.cmd.staging func },
            tim := { s1.tim with caps := tdel s1.tim.caps func },
            vfn := { s1.vfn with cells := tdel s1.vfn.cells func } }
/-- Commands of a function that are accepted and not completed change nothing: what they have booked goes (R472, R474). -/
def dropBookings (func : Nat) (s0 : State) : State :=
  let s := dropGroups (fun f => f == func) s0
  { s with tim := { s.tim with step := s.tim.step.filter (fun b => b.func != func) }
           pair := { s.pair with relinquish := s.pair.relinquish.filter (fun b => b.func != func) }
           vfn := { s.vfn with vfs := s.vfn.vfs.map (fun e => (e.1, { e.2 with quiesceCmd := e.2.quiesceCmd.filter (fun b => b.func != func) })) }
           key := { s.key with activate := s.key.activate.filter (fun b => b.func != func),
                               blowing := s.key.blowing.filter (fun b => b.2.func != func),
                               slots := s.key.slots.map (fun e => (e.1, { e.2 with booked := e.2.booked.filter (fun b => b.2.func != func) })) } }
/-- Accepted commands of a function that have not completed are written ST_FAILED; no completion is posted: the number of them
and the number of completions not posted (R472). -/
def failAccepted (func : Nat) (s : State) : State × Nat × Nat :=
  let mine := s.cmd.outst.filter (fun o => o.func == func)
  let waiting := mine.filter (fun o => o.done.isNone)
  let s1 := foldSt (fun o s => jnlDone o.jseq stFailed s) waiting
    { s with cmd := { s.cmd with outst := s.cmd.outst.filter (fun o => o.func != func) } }
  (dropBookings func s1, waiting.length, mine.length)
/-- A forced quiesce of a VF (R472). How many segments of the VF's engine operations were in flight is a free value, none where no
command of it was outstanding (log entry 68). -/
def forcedQuiesce (v : Nat) (s : State) : State :=
  let x := vfSt s v
  let (s1, failed, dropped) := failAccepted (v + 1) s
  let (n, s2) := if dropped = 0 then (0, s1) else freeNat (2 ^ 32) s1
  let s3 := recordEvent (evPkg 0x0C02 v n failed v) (bumpBy (.vfn v 3) dropped s2)
  match x.quiesceCmd with
  | some b => completeCmd b.jseq stOk 0 (setVf v { vfSt s3 v with quiesceCmd := none } s3)
  | none => s3

/-- The reset of a VF, up to what becomes of its graphs: an ON VF enters RESETTING, and is quiesced by force unless it is QUIESCED; its
function's registers and queues are reset (R471, R472). A VF in RESETTING is left as it is. -/
def resetVf (cause v : Nat) (s : State) : State :=
  let x := vfSt s v
  if x.admission = .resetting then s
  else
    let s0 := bump (.vfn v 2) s
    if x.o.obj ≠ .on then resetFunc (v + 1) s0
    else
      let s1 := changeVf v cause { x with admission := .resetting, flrRaw := s.tim.raw } s0
      resetFunc (v + 1) (if x.admission = .quiesced then s1 else forcedQuiesce v s1)
/-- A function-level reset of a VF (R471). -/
def execVfFlr (vf : Nat) (s : State) : Host.Outcome State Fault Refusal :=
  .next (let x := vfSt s vf
    if !vfExists s vf ∨ x.admission = .resetting then s
    else if x.o.obj ≠ .on then resetVf 1 vf s
    else cancelOn (plainGraphs s vf) (cancelActions vf (partGraphs vf false (resetVf 1 vf s))))
/-- The reset ends within 2 ms: the VF is ON and OPEN with queue pair 0 not enabled (R471). -/
def execVfFlrComplete (vf : Nat) (s : State) : Host.Outcome State Fault Refusal :=
  .next (let x := vfSt s vf
    if x.o.obj = .on ∧ x.admission = .resetting then changeVf vf 1 { x with admission := .open_ } s else s)

/-- Remove a VF (R473): as for an FLR, then custody and cancellations, and OFF at once. -/
def removeVf (cause v : Nat) (s : State) : State :=
  let s1 := resetVf cause v s
  if (vfSt s v).o.obj = .off then s1
  else
    let s2 := cancelActions v (partGraphs v true s1)
    changeVf v cause { vfSt s2 v with o := {}, admission := .open_, tol := 20, quiesceCmd := none, drains := [] } s2
/-- VF Enable or NumVFs changes (R457, R473). -/
def sriov (cause : Nat) (vfEnable : Bool) (numVfs : Nat) (s : State) : State :=
  let gone := (List.range (Config.vfs s.variant)).filter (fun v => vfExists s v && !(vfEnable && decide (v < numVfs)))
  let s1 := foldSt (removeVf cause) gone s
  { s1 with vfn := { s1.vfn with vfEnable := vfEnable, numVfs := min numVfs (Config.vfs s.variant) } }
/-- VF Enable or NumVFs changes. -/
def execSriovChange (vfEnable : Bool) (numVfs : Nat) (s : State) : Host.Outcome State Fault Refusal := .next (sriov 2 vfEnable numVfs s)
/-- An FLR of the PF, a hot reset or a link-down on the host link (R474). -/
def execPfReset (s : State) : Host.Outcome State Fault Refusal :=
  .next (
    let (s1, _, _) := failAccepted 0 s
    let s2 := dropPairs 0 (fun _ => true) (setFlag 1 false s1)
    let s3 := { s2 with cmd := { s2.cmd with aq := tset s2.cmd.aq 0 { aqOf s2 0 with en := false, releasing := false },
                                             staging := tdel s2.cmd.staging 0 } }
    sriov 3 false s3.vfn.numVfs s3)

/-! ### Enabling, quiescing and resuming (R466 to R469) -/

/-- A VF begins to drain (R469). -/
def vfDrain (v : Nat) (s : State) : State :=
  let s0 := partGraphs v true s
  let waits := (plainGraphs s v).filter (fun g => (graphSt s0 g).o.obj != .off)
  let s1 := dropPairs (v + 1) (fun _ => true) (cancelActions v (setVf v { vfSt s0 v with drains := waits } s0))
  vfOffCheck v { s1 with cmd := { s1.cmd with aq := tdel s1.cmd.aq (v + 1), staging := tdel s1.cmd.staging (v + 1) } }
/-- Enable or disable a VF: the status, or what it does. -/
def vfChange (v : Nat) (en : Bool) (jseq : Nat) (s : State) : Nat × State :=
  let x := vfSt s v
  let n := vfCount s + 1
  if en = true ∧ x.o.obj = .off ∧ sharesHold (setVf v { x with grants := [0, 0, 0, 0] } s) s.cfg.fraction n (liveVfs s ++ [v]) = false then (stFailed, s)
  else if en = false ∧ x.o.obj = .on ∧ x.admission ≠ .quiesced then (stFailed, s)
  else
    let (o, st, act) := objChange en x.o
    (st, match act with
      | .start => changeVf v 0 { x with o := o, admission := .open_, grants := [0, 0, 0, 0] } s
      | .drain => vfDrain v (changeVf v 0 { x with o := o, admission := .open_ } s)
      | .cancel => evCancel 12 v jseq (setVf v { x with o := o } s)
      | .nothing => setVf v { x with o := o } s)
/-- A VF in STARTING becomes ON and OPEN, or drains when a drain was booked (09 R292). -/
def execVfStarted (vf : Nat) (s : State) : Host.Outcome State Fault Refusal :=
  .next (let x := vfSt s vf
    if x.o.obj ≠ .starting then s
    else
      let (o, act) := objStarted x.o
      let s1 := changeVf vf 0 { x with o := o, admission := .open_ } s
      if act = .drain then vfDrain vf s1 else s1)

/-- The checks that a command naming a VF shares: existence, and RESETTING (R457, R471). -/
def vfGuard (v : Nat) (f : State → OpRes) (s : State) : OpRes :=
  if !vfExists s v then failRes stFailed s else if (vfSt s v).admission = .resetting then failRes stBusy s else f s
/-- The variant has no VF of this number. -/
def noVf (v : Nat) (s : State) : Bool := !hasVf s v

/-- VF_ENABLE. -/
def vfEnablePacket (h : Hdr) (vf enable : Nat) : Packet :=
  { h, opcode := 0x0C40, pfOnly := true, unsupported := noVf vf,
    eff := fun j => vfGuard vf (fun s =>
      if 1 < enable then failRes stFailed s
      else let (st, s1) := vfChange vf (enable == 1) j s; .done st 0 s1) }
/-- VF_ENABLE. -/
def execVfEnable (h : Hdr) (vf enable : Nat) (s : State) : Host.Outcome State Fault Refusal :=
  .next (submit (.vfEnable h vf enable) (vfEnablePacket h vf enable) s)
/-- VF_QUIESCE waits until the VF is QUIESCED (R467). -/
def vfQuiescePacket (h : Hdr) (vf : Nat) : Packet :=
  { h, opcode := 0x0C41, pfOnly := true, unsupported := noVf vf,
    eff := fun j => vfGuard vf (fun s =>
      let x := vfSt s vf
      if x.o.obj ≠ .on then failRes stFailed s
      else match x.admission with
        | .quiesced => okRes s
        | .quiescing | .resetting => failRes stBusy s
        | .open_ => .wait (changeVf vf 0 { x with admission := .quiescing, quiesceCmd := some ⟨0, h.func, h.qp, j⟩ } s)) }
/-- VF_QUIESCE. -/
def execVfQuiesce (h : Hdr) (vf : Nat) (s : State) : Host.Outcome State Fault Refusal :=
  .next (submit (.vfQuiesce h vf) (vfQuiescePacket h vf) s)
/-- Every command of the VF has completed and its completion is posted: the VF is QUIESCED (R467). -/
def execVfQuiesceComplete (vf : Nat) (s : State) : Host.Outcome State Fault Refusal :=
  .next (let x := vfSt s vf
    if x.o.obj = .on ∧ x.admission = .quiescing ∧ s.cmd.outst.any (fun o => o.func == vf + 1) = false then
      let s1 := changeVf vf 0 { x with admission := .quiesced, quiesceCmd := none } s
      (match x.quiesceCmd with | some b => completeCmd b.jseq stOk 0 s1 | none => s1)
    else s)
/-- VF_RESUME (R468). -/
def vfResumePacket (h : Hdr) (vf : Nat) : Packet :=
  { h, opcode := 0x0C42, pfOnly := true, unsupported := noVf vf,
    eff := fun _ => vfGuard vf (fun s =>
      let x := vfSt s vf
      if x.o.obj = .on ∧ x.admission = .quiesced then okRes (changeVf vf 0 { x with admission := .open_ } s) else failRes stFailed s) }

/-- VF_SHARE_SET (R465). -/
def vfShareSetPacket (h : Hdr) (vf res grant : Nat) : Packet :=
  { h, opcode := 0x0C43, pfOnly := true, unsupported := noVf vf,
    eff := fun _ => vfGuard vf (fun s =>
      if 3 < res ∨ capacity s res < grant then failRes stFailed s
      else
        let x := vfSt s vf
        let s1 := setVf vf { x with grants := x.grants.set res grant } s
        if capacity s res < useOf s 0 res + vfCount s * vfFloor s res + grantSum s1 res
            ∨ (res = 0 ∧ share s1 (vf + 1) 0 < useOf s (vf + 1) 0) then failRes stFailed s
        else .done stOk (resB 0 (share s1 (vf + 1) res % 2 ^ 64))
          (recordEvent (evPkg 0x0C04 (vf + 256 * res) grant (share s1 (vf + 1) res) vf) s1)) }
/-- VF_SHARE_SET. -/
def execVfShareSet (h : Hdr) (vf res grant : Nat) (s : State) : Host.Outcome State Fault Refusal :=
  .next (submit (.vfShareSet h vf res grant) (vfShareSetPacket h vf res grant) s)
/-- VF_CUSTODY_RETURN (R470). -/
def vfCustodyReturnPacket (h : Hdr) (vf : Nat) : Packet :=
  { h, opcode := 0x0C44, pfOnly := true, unsupported := noVf vf,
    eff := fun _ => vfGuard vf (fun s =>
      let x := vfSt s vf
      if x.o.obj ≠ .on ∨ x.admission ≠ .open_ then failRes stFailed s
      else
        let gs := (vfGraphs s vf).filter (fun g => (graphSt s g).custody)
        .done stOk (resB 0 gs.length)
          (rechooseAll (evCustody vf gs.length 1 (foldSt (fun g s => setGraph g { graphSt s g with custody := false } s) gs s)))) }
/-- VF_CUSTODY_RETURN. -/
def execVfCustodyReturn (h : Hdr) (vf : Nat) (s : State) : Host.Outcome State Fault Refusal :=
  .next (submit (.vfCustodyReturn h vf) (vfCustodyReturnPacket h vf) s)
/-- VF_LATENCY_SET (R476; 19 R567). -/
def vfLatencySetPacket (h : Hdr) (func tol : Nat) : Packet :=
  { h, opcode := 0x0C45, pfOnly := false, unsupported := funcUnsupported func,
    denied := fun _ => h.func != 0 && func != h.func,
    eff := fun _ s =>
      match func with
      | 0 => if tol < 20 ∨ 1000000000 < tol then failRes stFailed s else okRes (rechooseAll { s with vfn := { s.vfn with pfTol := tol } })
      | v + 1 => vfGuard v (fun s =>
          if tol < 20 ∨ 1000000000 < tol then failRes stFailed s else okRes (rechooseAll (setVf v { vfSt s v with tol := tol } s))) s }
/-- VF_LATENCY_SET. -/
def execVfLatencySet (h : Hdr) (func tol : Nat) (s : State) : Host.Outcome State Fault Refusal :=
  .next (submit (.vfLatencySet h func tol) (vfLatencySetPacket h func tol) s)
/-- VFN_VF_STATE (Table VFN-6). -/
def vfWord (s : State) (v : Nat) : Nat :=
  let x := vfSt s v
  bbit (vfExists s v) 31 + bbit (tgetD s.cfg.vfProt v 0 == 1) 30 + admitNum x.admission * 2 ^ 28 + objNum x.o.obj * 2 ^ 26
    + ((vfGraphs s v).filter (fun g => (graphSt s g).custody)).length
/-- VF_STATUS (Table VFN-8). -/
def vfStatusPacket (h : Hdr) (vf buf : Nat) : Packet :=
  { h, opcode := 0x0C80, pfOnly := false, unsupported := noVf vf, denied := fun _ => h.func != 0 && vf + 1 != h.func,
    outBytes := if buf = 0 then 0 else 64,
    eff := fun _ => vfGuard vf (fun s =>
      let w := (List.range 4).flatMap (fun r => leBytes 8 (share s (vf + 1) r)) ++ (List.range 4).flatMap (fun r => leBytes 8 (useOf s (vf + 1) r))
      .done stOk (resB 0 (vfWord s vf) ||| resB 4 (vfSt s vf).tol) (if buf = 0 then s else hostWrite h.func buf w s)) }
/-- VF_STATUS. -/
def execVfStatus (h : Hdr) (vf buf : Nat) (s : State) : Host.Outcome State Fault Refusal :=
  .next (submit (.vfStatus h vf buf) (vfStatusPacket h vf buf) s)
/-- VFN_POLICY. -/
def vfnPolicyPacket (h : Hdr) (fraction : Nat) : Packet := configPacket h 0x0C00 (fun _ => decide (fraction ≤ 900)) (.vfnPolicy fraction)
/-- VFN_POLICY. -/
def execVfnPolicy (h : Hdr) (fraction : Nat) (s : State) : Host.Outcome State Fault Refusal :=
  .next (submit (.vfnPolicy h fraction) (vfnPolicyPacket h fraction) s)
/-- VFN_VF_CONFIG. -/
def vfnVfConfigPacket (h : Hdr) (vf prot : Nat) : Packet :=
  { configPacket h 0x0C01 (fun _ => true) (.vfProt vf prot) with
      unsupported := noVf vf,
      eff := fun j => vfGuard vf ((configPacket h 0x0C01 (fun _ => decide (prot ≤ 1)) (.vfProt vf prot)).eff j) }
/-- VFN_VF_CONFIG. -/
def execVfnVfConfig (h : Hdr) (vf prot : Nat) (s : State) : Host.Outcome State Fault Refusal :=
  .next (submit (.vfnVfConfig h vf prot) (vfnVfConfigPacket h vf prot) s)

end Sys2Proof.Machine
end

