-- ==== Sys2Proof/Machine/Evr.lean ====
section
/-! DEFINITION. The event recorder (16): writing records to the ring, rate windows that close, what a reader sees, and the
commands of the recorder class. -/
namespace Sys2Proof.Machine

/-! ### Writing (R484 to R488) -/

/-- Slots of the event ring (R485). -/
def ringSize : Nat := 1048576
/-- EV_EVR_LOST of a run of losses, once room has returned (R486). -/
def reportLoss (s : State) : State :=
  match s.evr.lossRun with
  | some (t, n, last) =>
    if stageFull s then s
    else recordEvent (evAt t (evPkg 0x0D02 0 n last 0)) { s with evr := { s.evr with lossRun := none } }
  | none => s
/-- The record at the head of staging is written to its ring slot and becomes durable; the record that held the slot leaves
the ring (R485, R487). After the last record that a fatal flag or a power-fail flushes, the mark is written (R488). -/
def writeRecord (s : State) : State :=
  match s.evr.staging with
  | [] => s
  | r :: rest =>
    let old := max s.evr.oldest (r.seq + 1 - ringSize)
    let mark := s.evr.flushMark || (rest.isEmpty && s.pair.flags.getLsbD 0)
    let e := { s.evr with staging := rest, ring := tset s.evr.ring (r.seq % ringSize) r, durable := r.seq + 1, oldest := old, flushMark := mark }
    reportLoss (bump .evrWritten { s with evr := e })
/-- A staged record is written: one per microsecond, unless a fatal flag or a power-fail flushes the buffer (R486, R488). -/
def execEventWrite (s : State) : Host.Outcome State Fault Refusal :=
  .next (if s.evr.staging.isEmpty then s
    else if s.pair.flags.getLsbD 0 then writeRecord s else every 9 0 (rawUs 1) writeRecord s)
/-- The whole staging buffer is written, with the EV_EVR_LOST that enters it once there is room (R486, R488). -/
def flushStaging (s : State) : State := foldSt (fun _ s => writeRecord s) (List.range (s.evr.staging.length + 1)) s

/-- An event enters the recorder. -/
def execEventRecord (e : Event) (s : State) : Host.Outcome State Fault Refusal := .next (recordEvent e s)

/-! ### Rate windows (R600) -/

/-- A window closes 1 s of RAW after it opened; a counting event is recorded then. -/
def execEventWindowClose (code obj : Nat) (s : State) : Host.Outcome State Fault Refusal :=
  .next (match findWindow s code obj with
    | none => s
    | some w => if windowOver s w then closeWindow w s else s)

/-! ### Reading (R491 to R494) -/

/-- What a reader sees at a SEQ: the record staged, in write or in its ring slot; nothing outside the ring's span, after a
clear, or where a skip or a loss left the slot without it (R492). -/
def readSeq (s : State) (seq : Nat) : Option EvRec :=
  if seq < s.evr.oldest ∨ s.evr.next ≤ seq then none
  else match s.evr.staging.find? (fun r => r.seq == seq) with
    | some r => some r
    | none => match tget s.evr.ring (seq % ringSize) with
      | some r => if r.seq = seq then some r else none
      | none => none
/-- SOURCE of an event record (16 Table EVR-2). -/
def sourceWord (r : EvRec) : Nat :=
  r.ev.level % 8 * 2 ^ 29 + r.ev.loc.die % 8 * 2 ^ 26 + r.ev.loc.region % 4 * 2 ^ 24 + r.ev.loc.cluster % 8 * 2 ^ 21
    + r.ev.unit % 8 * 2 ^ 18 + r.side % 2 * 2 ^ 17 + r.ev.object % 2 ^ 16
/-- The 64 bytes of an event record (16 Table EVR-1); a slot that shows none reads as zero (R492). -/
def evrBytes : Option EvRec → List Nat
  | none => List.replicate 64 0
  | some r =>
    leBytes 8 r.seq ++ leBytes 8 r.sec ++ leBytes 4 r.ns ++ leBytes 2 r.ev.code ++ leBytes 2 r.flags ++ leBytes 4 (sourceWord r)
      ++ leBytes 4 r.epoch ++ leBytes 8 r.ev.p1 ++ leBytes 8 r.ev.p2 ++ leBytes 8 r.ev.p3 ++ List.replicate 7 0 ++ [0xA5]
/-- EVR_WIN (R492). -/
def evrWindow (s : State) : List (Option EvRec) := (List.range 16).map (fun i => readSeq s (s.evr.cursor.toNat + i))
/-- A write of EVR_CURSOR. -/
def execEvrCursor (seq : U64) (s : State) : Host.Outcome State Fault Refusal := .next { s with evr := { s.evr with cursor := seq } }
/-- EVR_READ (R494). -/
def evrReadPacket (h : Hdr) (first count buf : Nat) : Packet :=
  { h, opcode := 0x0D80, pfOnly := true, outBytes := 64 * count,
    eff := fun _ s =>
      if count = 0 ∨ 65536 < count ∨ buf % 64 ≠ 0 then failRes stFailed s
      else .done stOk (resB 0 (s.evr.oldest % 2 ^ 64) ||| resB 8 (s.evr.oldest % 2 ^ 64))
        (hostWrite h.func buf ((List.range count).flatMap (fun i => evrBytes (readSeq s (first + i)))) s) }
/-- EVR_READ. -/
def execEvrRead (h : Hdr) (first count buf : Nat) (s : State) : Host.Outcome State Fault Refusal :=
  .next (submit (.evrRead h first count buf) (evrReadPacket h first count buf) s)

/-! ### Clearing and marking (R496 to R499) -/

/-- EVR_CLEAR (R496, R497). -/
def evrClearPacket (h : Hdr) (upto : Nat) : Packet :=
  { h, opcode := 0x0D40, pfOnly := true,
    eff := fun j s =>
      let u := if upto = 0 then s.evr.next - 1 else upto
      if s.evr.next ≤ u then failRes stFailed s
      else if u < s.evr.oldest then .done stOk (resB 0 (s.evr.oldest % 2 ^ 64)) s
      else .done stOk (resB 0 ((u + 1) % 2 ^ 64))
        (raise 0x0D01 s.evr.oldest (u + 1) j { s with evr := { s.evr with oldest := u + 1, clearedTo := u + 1 } }) }
/-- EVR_CLEAR. -/
def execEvrClear (h : Hdr) (upto : Nat) (s : State) : Host.Outcome State Fault Refusal :=
  .next (submit (.evrClear h upto) (evrClearPacket h upto) s)
/-- EVR_MARK (R499). -/
def evrMarkPacket (h : Hdr) (p1 p2 p3 : Nat) : Packet :=
  { h, opcode := 0x0D41, pfOnly := true,
    eff := fun _ s => if stageFull s then failRes stQueueFull s else .done stOk (resB 0 (s.evr.next % 2 ^ 64)) (raise 0x0D04 p1 p2 p3 s) }
/-- EVR_MARK. -/
def execEvrMark (h : Hdr) (p1 p2 p3 : Nat) (s : State) : Host.Outcome State Fault Refusal :=
  .next (submit (.evrMark h p1 p2 p3) (evrMarkPacket h p1 p2 p3) s)

end Sys2Proof.Machine
end

