-- ==== Sys2Proof/Machine/Keys.lean ====
section
/-! DEFINITION. KENNEL (17): key slots, blobs, verifying and committing keys, attestation, firmware images, the tamper latch,
and the commands of the keys class. -/
namespace Sys2Proof.Machine

/-! ### Keys and slots (R507 to R511) -/

/-- TYPE is allowed for ENGINE (Table KEY-3). -/
def pairAllowed (type engine : Nat) : Bool :=
  match engine with
  | 0 | 2 => type == 0 || type == 1
  | 1 | 3 => type == 0
  | 4 => type == 2
  | 5 => type == 3
  | _ => false
/-- Write a slot. -/
def setSlot (n : Nat) (x : SlotSt) (s : State) : State := { s with key := { s.key with slots := tset s.key.slots n x } }
/-- The configuration in force names a slot. -/
def slotNamed (s : State) (n : Nat) : Bool :=
  s.cfg.pair.leashSlot == n || s.cfg.pair.arbSlot == n || s.cfg.streams.any (fun e => e.2.keySlot == n)
    || s.cfg.gs.any (fun e => e.2.keySlot == n)
/-- A KENNEL operation has completed (Table KEY-10). -/
def keyDone (s : State) : State := bump .keyOps s
/-- The next draw of the DRBG of KENNEL, and the state that has drawn it. -/
def draw (s : State) : Bytes := Config.drbg s.key.draws
def drawn (s : State) : State := { s with key := { s.key with draws := s.key.draws + 1 } }
/-- The header of a blob, bytes 0 to 47 (Table KEY-4). -/
def blobHeader (type engine wrapper : Nat) (persist generated : Bool) (context : Bytes) : Bytes :=
  leBytes 4 0x4C424B5A ++ leBytes 2 1 ++ [type, engine, bbit persist 0 + bbit generated 1, 0] ++ leBytes 2 wrapper
    ++ leBytes 4 (keyBytes type) ++ fixLen 32 context
/-- Bytes 0 to 63 of a blob, which are its authenticated data (R511). -/
def blobAad (hd nonce : Bytes) : Bytes := hd ++ fixLen 12 nonce ++ [0, 0, 0, 0]
/-- The key that wraps a blob: the KEK of its header, or the CURRENT key of slot WRAPPER (R511). -/
def wrapperKey (s : State) (wrapper : Nat) (hd : Bytes) : Bytes :=
  if wrapper = 0xFFFF then kek hd else match engineKey s wrapper 3 [0] with | some w => w.material | none => []
/-- A blob (R511): the header, a nonce from the DRBG, and the key under its KEK. -/
def blobOf (s : State) (k : Key) (wrapper : Nat) (context : Bytes) : Bytes :=
  let hd := blobHeader k.type k.engine wrapper k.persist k.generated context
  let aad := blobAad hd (draw s)
  aad ++ Config.wrapKey (wrapperKey s wrapper hd) aad k.material

/-! ### Tamper (R525 to R528) -/

/-- MTIME seconds of the RTC, 0 while it is invalid (Table KEY-10). -/
def rtcStamp (s : State) : Nat := if rtcGood s then (rtcMtime s (rtcNow s)).sec else 0
/-- The latch is set with a cause; the count saturates, and the first trip's time is kept (R525). -/
def latchTrip (cause time : Nat) (s : State) : State :=
  { s with key := { s.key with
      latch := true
      cause := s.key.cause ||| 2 ^ cause
      count := min 65535 (s.key.count + 1)
      tamperTime := if s.key.latch then s.key.tamperTime else time } }
/-- A source can trip: COLLAR_EXT only while it is armed (Table KEY-7). -/
def sourceArmed (cause : Nat) (s : State) : Bool := decide (cause ≤ 6) && (cause != 2 || s.key.extArmed)
/-- The blowing of fuses stops short: the counter reads a value between the old one and TO, a free value (R523). -/
def blowStop (s : State) : State :=
  match s.key.blowing with
  | some (n, _) =>
    let (k, s1) := freeNat (n - s.key.rollback + 1) s
    { s1 with key := { s1.key with rollback := s.key.rollback + k, blowing := none } }
  | none => s
/-- Waiting operations of KENNEL are aborted: their commands complete with ST_TAMPER, and booked commits are dropped (R528, Table
KEY-8). -/
def abortWaiting (s : State) : State :=
  let books := s.key.slots.filterMap (fun e => e.2.booked.map (fun b => b.2.jseq)) ++ (s.key.activate.map (·.jseq)).toList
    ++ (s.key.blowing.map (fun b => b.2.jseq)).toList
  let s1 := blowStop s
  let s2 := { s1 with
    key := { s1.key with slots := s1.key.slots.map (fun e => (e.1, { e.2 with booked := none })), activate := none }
    pair := { s1.pair with rekey := none } }
  foldSt (fun j s => completeCmd j stTamper 0 (bump .keyTamperAbort s)) books s2
/-- Every slot is zeroised, CURRENT, PENDING and both banks, and waiting operations are aborted (R526, R528). -/
def zeroise (s : State) : State := let s1 := abortWaiting s; { s1 with key := { s1.key with slots := [] } }
/-- The security domain of die 0 is in RETAIN (R527). -/
def securityRetained (s : State) : Bool := (domainSt s 0 11).1 == 2
/-- The PERSIST banks are zeroised from the backup domain (R527). -/
def zeroisePersist (s : State) : State :=
  { s with key := { s.key with slots := s.key.slots.map (fun e => (e.1, e.2.dropBanks)) } }
/-- A trip while the module runs zeroises every slot, and is recorded (R526). -/
def tripRunning (cause : Nat) (s : State) : State :=
  let s1 := latchTrip cause (rtcStamp s) s
  let s2 := { s1 with key := { s1.key with tripped := true } }
  recordEvent (evPkg 0x0E01 s2.key.cause s2.key.count 0 0) (zeroise s2)
/-- A trip in RETAIN of the security domain: the backup domain zeroises the PERSIST banks, the volatile slots go when the domain
wakes, and the event waits for the next start (R527). -/
def tripRetained (cause : Nat) (s : State) : State :=
  let s1 := latchTrip cause (rtcStamp s) s
  abortWaiting (zeroisePersist { s1 with key := { s1.key with tripped := true, pendTamperEvent := true } })
/-- A tamper source trips while the module runs (R526, R527). -/
def execTamperTrip (cause : Nat) (s : State) : Host.Outcome State Fault Refusal :=
  .next (if (s.pwr.phase ≠ .running ∧ s.pwr.phase ≠ .flushing) ∨ sourceArmed cause s = false then s
    else if securityRetained s then tripRetained cause s else tripRunning cause s)
/-- A tamper source trips while main power is off: the RTC's time then is a free value (R527, log entry 52). -/
def execTamperTripUnpowered (cause : Nat) (s : State) : Host.Outcome State Fault Refusal :=
  .next (if s.pwr.phase = .running ∨ s.pwr.phase = .flushing ∨ sourceArmed cause s = false then s
    else
      let (t, s0) := if rtcGood s then freeNat (2 ^ 64) s else (0, s)
      let s1 := latchTrip cause t s0
      { s1 with key := { s1.key with slots := [], pendTamperEvent := true } })

/-! ### Operations on a slot (R528, R531) -/

/-- A command on a slot whose commit is booked waits for it (log entry 51). -/
def slotFree (slot : Nat) (f : State → OpRes) (s : State) : OpRes :=
  if 255 < slot then failRes stFailed s else if (slotSt s slot).booked.isSome then failRes stBusy s else f s
/-- Run an operation of KENNEL on a slot: a tamper source that trips meanwhile aborts it without result (R528), and a parity error
in a share of the slot's key zeroises that slot and fails it (R531). -/
def keyRun (slot : Nat) (run : KeyRun) (f : State → OpRes) (s : State) : OpRes :=
  match run.trip with
  | some c => if sourceArmed c s then .done stTamper 0 (tripRunning c (bump .keyTamperAbort s)) else f s
  | none => if run.parity then .done stFailed 0 (correctParity 0 (.keyShare slot) s) else f s

/-! ### Loading (R512 to R514) -/

/-- The checks of Table KEY-5 from its second row on: the reason of the first that fails. A slot without a CURRENT key passes
the last (log entry 50). -/
def loadFault (s : State) (slot type engine : Nat) (persist : Bool) (wrapper : Nat) (tagOk : Bool) : Option Nat :=
  if !pairAllowed type engine then some 2
  else if persist && decide (15 < slot) then some 3
  else if wrapper ≠ 0xFFFF ∧ (engineKey s wrapper 3 [0]).isNone = true then some 4
  else if !tagOk then some 5
  else match (slotSt s slot).current with
    | some k => if slotNamed s slot && !(k.type == type && k.engine == engine) then some 6 else none
    | none => none
/-- The checks of Table KEY-5 on a header. -/
def headFault (s : State) (slot : Nat) (b : BlobHead) (tagOk : Bool) : Option Nat :=
  if b.magic ≠ 0x4C424B5A ∨ b.format ≠ 1 ∨ 3 < b.type ∨ b.keyLen ≠ keyBytes b.type then some 1
  else loadFault s slot b.type b.engine b.persist b.wrapper tagOk
/-- The bytes of a header as the host gives it. -/
def blobHeadBytes (b : BlobHead) : Bytes := blobHeader b.type b.engine b.wrapper b.persist b.generated b.context
/-- A blob opens under the key that its header names (R511). -/
def blobOpens (s : State) (b : KeyBlob) : Bool :=
  let hd := blobHeadBytes b.head
  sealOpens b.box (wrapperKey s b.head.wrapper hd) b.nonce (blobAad hd b.nonce) (keyBytes b.head.type)
/-- The checks of Table KEY-5 on a blob. -/
def blobFault (s : State) (slot : Nat) (b : KeyBlob) : Option Nat := headFault s slot b.head (blobOpens s b)
/-- The key of an import block, where its tag verifies; a key in the clear is of TYPE 3 (R512). -/
def importedKey (p : KeyImport) : Option Bytes :=
  match p.key with
  | .clear k => if p.head.type = 3 ∧ k.length = keyBytes 3 then some k else none
  | .sealed e n b =>
    if sealOpens b (transportKey (blobHeadBytes p.head) e) n (blobHeadBytes p.head) (keyBytes p.head.type) then some b.text else none
/-- A load fails: its reason is counted and recorded, and the slot is unchanged (R514). -/
def unwrapFail (slot reason : Nat) (s : State) : OpRes :=
  .done stFailed (resB 0 reason) (raiseObj 0x0E03 slot reason 0 (bump .keyUnwrapFail s))
/-- Put a key, held under the next draw of the DRBG, into PENDING, unverified (R509, R515). -/
def setPending (slot : Nat) (k : Key) (s : State) : State :=
  keyDone (drawn (setSlot slot { slotSt s slot with pending := some k, verified := false } s))
/-- The key that an import puts into PENDING, with GENERATED 0 (R512). -/
def importKeyOf (p : KeyImport) (s : State) : Key :=
  newKey p.head.type p.head.engine p.head.persist false ((importedKey p).getD []) (draw s)
/-- The key that a load puts into PENDING (R514). -/
def loadKeyOf (b : KeyBlob) (s : State) : Key :=
  newKey b.head.type b.head.engine b.head.persist b.head.generated b.box.text (draw s)
/-- The key that KEY_GENERATE makes from the DRBG (R513). -/
def madeKeyOf (p : KeyGenParams) (s : State) : Key :=
  newKey p.type p.engine p.persist true (fixLen (keyBytes p.type) (draw s)) (draw (drawn s))
/-- KEY_IMPORT (R512). -/
def keyImportPacket (h : Hdr) (slot buf : Nat) (imp : KeyImport) : Packet :=
  { h, opcode := 0x0E40, pfOnly := true, needsKey := fun _ => true, outBytes := 256, failActs := true,
    eff := fun _ => slotFree slot (keyRun slot imp.run (fun s =>
      match headFault s slot imp.head (importedKey imp).isSome with
      | some r => unwrapFail slot r s
      | none =>
        let k := importKeyOf imp s
        let t := setPending slot k s
        .done stOk (resB 0 (kcvOf (some k))) (hostWrite h.func buf (blobOf t k imp.head.wrapper imp.head.context) (drawn t)))) }
/-- KEY_IMPORT. -/
def execKeyImport (h : Hdr) (slot buf : Nat) (imp : KeyImport) (s : State) : Host.Outcome State Fault Refusal :=
  .next (submit (.keyImport h slot buf imp) (keyImportPacket h slot buf imp) s)
/-- KEY_LOAD (R514). -/
def keyLoadPacket (h : Hdr) (slot : Nat) (blob : KeyBlob) : Packet :=
  { h, opcode := 0x0E41, pfOnly := true, needsKey := fun _ => true, failActs := true,
    eff := fun _ => slotFree slot (keyRun slot blob.run (fun s =>
      match blobFault s slot blob with
      | some r => unwrapFail slot r s
      | none =>
        let k := loadKeyOf blob s
        .done stOk (resB 0 (kcvOf (some k))) (setPending slot k s))) }
/-- KEY_LOAD. -/
def execKeyLoad (h : Hdr) (slot : Nat) (blob : KeyBlob) (s : State) : Host.Outcome State Fault Refusal :=
  .next (submit (.keyLoad h slot blob) (keyLoadPacket h slot blob) s)
/-- KEY_GENERATE (R513). -/
def keyGeneratePacket (h : Hdr) (p : KeyGenParams) : Packet :=
  { h, opcode := 0x0E42, pfOnly := true, needsKey := fun _ => true, outBytes := 256, failActs := true,
    eff := fun _ => slotFree p.slot (keyRun p.slot p.run (fun s =>
      if 2 < p.type then failRes stFailed s
      else match loadFault s p.slot p.type p.engine p.persist 0xFFFF true with
        | some r => unwrapFail p.slot r s
        | none =>
          let k := madeKeyOf p s
          let t := setPending p.slot k (drawn s)
          let out := blobOf t k 0xFFFF p.context ++ (if p.type = 2 then Config.publicPoint k.material else [])
          .done stOk (resB 0 (kcvOf (some k))) (hostWrite h.func p.buf out (drawn t)))) }
/-- KEY_GENERATE. -/
def execKeyGenerate (h : Hdr) (p : KeyGenParams) (s : State) : Host.Outcome State Fault Refusal :=
  .next (submit (.keyGenerate h p) (keyGeneratePacket h p) s)

/-! ### Verifying and committing (R515 to R519) -/

/-- A key is well formed for its TYPE: of its length, a private scalar between 1 and n − 1, a public point uncompressed. -/
def keyWhole (k : Key) : Bool :=
  k.material.length == keyBytes k.type
    && (match k.type with | 0 | 1 => true | 2 => inOrder (bigNat k.material) | _ => k.material.head? == some 4)
/-- The round trip through the key's own operation gives the expected result: the key is well formed and its engine works (R515).
DESIGN CHOICE (log entry 170). -/
def knownAnswer (k : Key) (run : KeyRun) : Bool := keyWhole k && run.engineOk
/-- A key passes KEY_VERIFY in a mode (R515). -/
def keyPasses (mode : Nat) (kcv : U64) (run : KeyRun) (k : Key) : Bool :=
  (mode == 0 && knownAnswer k run) || (mode == 1 && checkValue k == kcv)
/-- KEY_VERIFY (R515). -/
def keyVerifyPacket (h : Hdr) (slot mode : Nat) (kcv : U64) (run : KeyRun) : Packet :=
  { h, opcode := 0x0E43, pfOnly := true, needsKey := fun _ => true, failActs := true,
    eff := fun _ => slotFree slot (keyRun slot run (fun s =>
      match (slotSt s slot).pending with
      | none => failRes stFailed s
      | some k =>
        if keyPasses mode kcv run k then okRes (keyDone (setSlot slot { slotSt s slot with verified := true } s))
        else failRes stFailed s)) }
/-- KEY_VERIFY. -/
def execKeyVerify (h : Hdr) (slot mode : Nat) (kcv : U64) (run : KeyRun) (s : State) : Host.Outcome State Fault Refusal :=
  .next (submit (.keyVerify h slot mode kcv run) (keyVerifyPacket h slot mode kcv run) s)

/-- The replaced key serves on: an ENGINE 0 key while ROLL_MS is above 0, and the arbiter key for 1 s (R516, R519). -/
def keptKey (s : State) (slot : Nat) (old : Option Key) : Option (Key × Nat) :=
  match old with
  | some k => if (k.engine = 0 ∧ 0 < s.cfg.rollMs) ∨ slot = s.cfg.pair.arbSlot then some (k, s.tim.raw) else none
  | none => none
/-- The PENDING key becomes CURRENT and the old one is discarded (R510, R516, R517). A commit at a boundary carries
the boundary's stamp (16 R482). -/
def commitKey (t : Option MTime) (slot : Nat) (s : State) : State :=
  let x := slotSt s slot
  match x.pending with
  | none => s
  | some k =>
    let y := { x.setCurrent k with pending := none, verified := false, rolled := keptKey s slot x.current, booked := none }
    keyDone (recordEvent { evPkg 0x0E02 slot (kcvOf x.current) (kcvOf (some k)) slot with stamp := t } (setSlot slot y s))
/-- A PENDING key stands VERIFIED. -/
def committable (s : State) (slot : Nat) : Bool := (slotSt s slot).pending.isSome && (slotSt s slot).verified
/-- The LEASH slot commits only under PAIR_LEASH_REKEY in these pair states (R516). -/
def leashHeld (s : State) (slot : Nat) : Bool :=
  decide (slot = s.cfg.pair.leashSlot) && !standalone s
    && (match s.pair.state with | .syncing | .standby | .active | .solo => true | _ => false)
/-- KEY_COMMIT (R516). -/
def keyCommitPacket (h : Hdr) (slot atCycle : Nat) : Packet :=
  { h, opcode := 0x0E44, pfOnly := true, needsKey := fun _ => true, denied := fun s => leashHeld s slot,
    eff := fun j => slotFree slot (fun s =>
      if !committable s slot then failRes stFailed s
      else if atCycle = 0 then
        let s1 := commitKey none slot s
        .done stOk (resB 0 (kcvOf (slotSt s1 slot).current)) s1
      else if atCycle < s.cycleNum + 2 then failRes stFailed s
      else .wait (setSlot slot { slotSt s slot with booked := some (atCycle, ⟨0, h.func, h.qp, j⟩) } s)) }
/-- KEY_COMMIT. -/
def execKeyCommit (h : Hdr) (slot atCycle : Nat) (s : State) : Host.Outcome State Fault Refusal :=
  .next (submit (.keyCommit h slot atCycle) (keyCommitPacket h slot atCycle) s)
/-- A booked commit reaches its boundary `t`: the command completes there (R516), and enters the admission record (14 R434). In a
pair state that holds the LEASH slot it is denied there: DEDUCED (log entry 171). -/
def bookedCommit (t : MTime) (slot : Nat) (s : State) : State :=
  match (slotSt s slot).booked with
  | some (c, b) =>
    if s.cycleNum < c then s
    else if leashHeld s slot then completeCmd b.jseq stDenied 0 (setSlot slot { slotSt s slot with booked := none } s)
    else if committable s slot then
      let s1 := noteAdmit (.command b.jseq 0x0E44) (commitKey (some t) slot s)
      completeCmd b.jseq stOk (resB 0 (kcvOf (slotSt s1 slot).current)) s1
    else completeCmd b.jseq stFailed 0 (setSlot slot { slotSt s slot with booked := none } s)
  | none => s
/-- The booked rekey of LEASH reaches its boundary `t`: the key commits and every lane restarts its nonce counter (14 R455), and the
command enters the admission record (14 R434). -/
def rekeyBoundary (t : MTime) (s : State) : State :=
  match s.pair.rekey with
  | some (slot, c) =>
    if s.cycleNum < c then s
    else
      let ok := committable s slot
      let s1 := if ok then noteAdmit (.command s.pair.rekeySeq 0x0B41) (commitKey (some t) slot s) else s
      let lanes := if ok then s1.pair.lanes.map (fun e => (e.1, { e.2 with nonce := 0, stopped := false })) else s1.pair.lanes
      recordEvent (evAt t (evSys 0x0B09 slot c (bbit (!ok) 0) slot)) { s1 with pair := { s1.pair with rekey := none, lanes := lanes } }
  | none => s
/-- The fuses are blown: the counter reads TO, and the command completes (R523). -/
def blowEnd (t : Option MTime) (s : State) : State :=
  match s.key.blowing with
  | some (n, b) =>
    completeCmd b.jseq stOk (resB 0 n) (recordEvent { evPkg 0x0E05 s.key.rollback n 0 0 with stamp := t }
      { s with key := { s.key with rollback := max s.key.rollback n, blowing := none } })
  | none => s
/-- What is due at a boundary `t`: commits, and the end of the blowing of fuses. DESIGN CHOICE (log entry 172): fuses are blown by
the next boundary. -/
def keyBoundary (t : MTime) (s : State) : State :=
  blowEnd (some t) (rekeyBoundary t (foldSt (fun e s => bookedCommit t e.1 s) s.key.slots s))
/-- KEY_DISCARD (R518). -/
def keyDiscardPacket (h : Hdr) (slot which : Nat) : Packet :=
  { h, opcode := 0x0E45, pfOnly := true, needsKey := fun _ => true,
    eff := fun _ => slotFree slot (fun s =>
      match which with
      | 0 => okRes (keyDone (setSlot slot { slotSt s slot with pending := none, verified := false } s))
      | 1 => if slotNamed s slot then failRes stFailed s
        else okRes (keyDone { s with key := { s.key with slots := tdel s.key.slots slot } })
      | _ => failRes stFailed s) }
/-- KEY_DISCARD. -/
def execKeyDiscard (h : Hdr) (slot which : Nat) (s : State) : Host.Outcome State Fault Refusal :=
  .next (submit (.keyDiscard h slot which) (keyDiscardPacket h slot which) s)
/-- The replaced key of a slot is zeroised when its time has passed (R516, R519). -/
def execRollMsExpiry (slot : Nat) (s : State) : Host.Outcome State Fault Refusal :=
  .next (match (slotSt s slot).rolled with
    | some (k, r) =>
      if s.tim.raw - r < (if k.engine = 0 then rawMs s.cfg.rollMs else rawSec 1) then s
      else setSlot slot { slotSt s slot with rolled := none } s
    | none => s)
/-- A PERSIST key takes a fresh mask: into the bank not in force, which the marker then names (R509, R510). -/
def remaskPersist (k : Key) (slot : Nat) (s : State) : State :=
  bump .keyRemask (drawn (setSlot slot (((slotSt s slot).writeBank (maskKey (draw s) k)).flipMarker) s))
/-- The volatile keys of a slot take fresh masks, one draw each (R509). -/
def remaskVolatile (slot : Nat) (s : State) : State :=
  let x := slotSt s slot
  let m (i : Nat) : Key → Key := maskKey (Config.drbg (s.key.draws + i))
  bump .keyRemask (drawn (drawn (drawn (setSlot slot
    { x with cur := x.cur.map (m 0), pending := x.pending.map (m 1), rolled := x.rolled.map (fun r => (m 2 r.1, r.2)) } s))))
/-- A slot's keys are re-masked, a volatile key every 100 ms and a PERSIST CURRENT key every 1 s; a failed health test of the entropy source is fatal (R509, R510). -/
def execKeyRemask (slot : Nat) (entropyOk : Bool) (s : State) : Host.Outcome State Fault Refusal :=
  .next (
    let x := slotSt s slot
    if s.pwr.phase ≠ .running ∨ (x.current.isNone && x.pending.isNone && x.rolled.isNone) = true then s
    else if !entropyOk then raiseFatal 13 { s with key := { s.key with katFail := true } }
    else
      let s1 := if x.cur.isSome || x.pending.isSome || x.rolled.isSome then every 13 slot (rawMs 100) (remaskVolatile slot) s else s
      match x.bankOf x.bank with
      | some k => every 14 slot (rawSec 1) (remaskPersist k slot) s1
      | none => s1)

/-! ### Attestation and identity (R506, R520) -/

/-- The hash of the identity public key (Table KEY-6, R530). -/
def identityHash : Bytes := Config.sha384 identityPoint
/-- The 160 bytes that a statement's signature covers (Table KEY-6). -/
def statementBytes (s : State) (slot : Nat) (k : Key) (challenge : Bytes) : Bytes :=
  let t := now s
  let kh := if k.type = 3 then Config.sha384 k.material
    else if k.type = 2 then Config.sha384 (Config.publicPoint k.material)
    else Config.sha384 (labelZkh1 ++ k.material)
  leBytes 4 0x54414B5A ++ leBytes 2 1 ++ [slot, k.type, k.engine, bbit k.persist 0 + bbit k.generated 1 + 4]
    ++ leBytes 2 Config.behaviourRev ++ leBytes 4 s.key.rollback ++ leBytes 8 t.sec ++ leBytes 4 t.ns ++ leBytes 4 t.frac
    ++ fixLen 48 kh ++ fixLen 48 identityHash ++ fixLen 32 challenge
/-- KEY_ATTEST (R520). -/
def keyAttestPacket (h : Hdr) (slot signer : Nat) (p : AttestParams) (buf : Nat) : Packet :=
  { h, opcode := 0x0E46, pfOnly := true, needsKey := fun _ => true, outBytes := 256, failActs := true,
    eff := fun _ => keyRun slot p.run (fun s =>
      let by' := if signer = 0xFFFF then some identityKey else (engineKey s signer 4 [2]).map Key.material
      match (slotSt s slot).current, by' with
      | some k, some sk =>
        if 255 < slot then failRes stFailed s
        else
          let b := statementBytes s slot k p.challenge
          okRes (keyDone (hostWrite h.func buf (b ++ fixLen 96 (Config.sign sk b)) s))
      | _, _ => failRes stFailed s) }
/-- KEY_ATTEST. -/
def execKeyAttest (h : Hdr) (slot signer : Nat) (p : AttestParams) (buf : Nat) (s : State) : Host.Outcome State Fault Refusal :=
  .next (submit (.keyAttest h slot signer p buf) (keyAttestPacket h slot signer p buf) s)
/-- KEY_IDENTITY_READ (R506). -/
def keyIdentityReadPacket (h : Hdr) (buf : Nat) : Packet :=
  { h, opcode := 0x0E81, pfOnly := true, needsKey := fun _ => true, outBytes := 386,
    eff := fun _ s => okRes (hostWrite h.func buf identityBlock s) }
/-- KEY_IDENTITY_READ. -/
def execKeyIdentityRead (h : Hdr) (buf : Nat) (s : State) : Host.Outcome State Fault Refusal :=
  .next (submit (.keyIdentityRead h buf) (keyIdentityReadPacket h buf) s)
/-- KEY_SLOT_STATE (Table KEY-10). -/
def slotWord (s : State) (slot : Nat) : Nat :=
  let x := slotSt s slot
  bbit x.current.isSome 31 + bbit x.pending.isSome 30 + bbit x.verified 29
    + (match x.current with
       | some k => bbit k.persist 28 + bbit k.generated 27 + k.engine % 8 * 2 ^ 24 + k.type % 4 * 2 ^ 22
       | none => 0)
/-- KEY_SLOT_READ. -/
def keySlotReadPacket (h : Hdr) (slot : Nat) : Packet :=
  { h, opcode := 0x0E80, pfOnly := true, needsKey := fun _ => true,
    eff := fun _ s => if 255 < slot then failRes stFailed s
      else .done stOk (resB 0 (slotWord s slot) ||| resB 8 (kcvOf (slotSt s slot).current)) s }
/-- KEY_SLOT_READ. -/
def execKeySlotRead (h : Hdr) (slot : Nat) (s : State) : Host.Outcome State Fault Refusal :=
  .next (submit (.keySlotRead h slot) (keySlotReadPacket h slot) s)
/-- KEY_CONFIG. -/
def keyConfigPacket (h : Hdr) (extEn rollMs : Nat) : Packet :=
  { configPacket h 0x0E00 (fun _ => decide (extEn ≤ 1 ∧ rollMs ≤ 10000)) (.keyConfig extEn rollMs) with needsKey := fun _ => true }
/-- KEY_CONFIG. -/
def execKeyConfig (h : Hdr) (extEn rollMs : Nat) (s : State) : Host.Outcome State Fault Refusal :=
  .next (submit (.keyConfig h extEn rollMs) (keyConfigPacket h extEn rollMs) s)

/-! ### Firmware (R521 to R523) -/

/-- An image: 0 A, 1 B. -/
def fwImage (s : State) (i : Nat) : FwImage := if i = 0 then s.key.fwA else s.key.fwB
/-- Write an image. -/
def setFw (i : Nat) (x : FwImage) (s : State) : State :=
  if i = 0 then { s with key := { s.key with fwA := x } } else { s with key := { s.key with fwB := x } }
/-- The image that is not running. -/
def otherImage (s : State) : Nat := 1 - s.key.running
/-- KEY_FW_WRITE (R522). -/
def keyFwWritePacket (h : Hdr) (offset : Nat) (data : Bytes) : Packet :=
  { h, opcode := 0x0E47, pfOnly := true, needsKey := fun _ => true, isLoad := true,
    eff := fun _ s =>
      if s.key.activate.isSome then failRes stBusy s
      else if offset % 65536 ≠ 0 ∨ 1048576 < data.length then failRes stFailed s
      else
        let x := fwImage s (otherImage s)
        okRes (setFw (otherImage s) { x with valid := x.valid && decide (offset ≠ 0), written := x.written ++ [(offset, data)] } s) }
/-- KEY_FW_WRITE. -/
def execKeyFwWrite (h : Hdr) (offset : Nat) (data : Bytes) (s : State) : Host.Outcome State Fault Refusal :=
  .next (submit (.keyFwWrite h offset data) (keyFwWritePacket h offset data) s)
/-- KEY_FW_ACTIVATE waits for the verification (R522). -/
def keyFwActivatePacket (h : Hdr) : Packet :=
  { h, opcode := 0x0E48, pfOnly := true, needsKey := fun _ => true,
    eff := fun j s => if s.key.activate.isSome then failRes stBusy s
      else .wait { s with key := { s.key with activate := some ⟨0, h.func, h.qp, j⟩ } } }
/-- KEY_FW_ACTIVATE. -/
def execKeyFwActivate (h : Hdr) (s : State) : Host.Outcome State Fault Refusal :=
  .next (submit (.keyFwActivate h) (keyFwActivatePacket h) s)
/-- The verification of the image that is not running ends: the key and signature, SVN and release that its bytes carry, at places
that the spec does not give, are the row's (R521, R522, log entry 168). -/
def execFwActivateComplete (sign : FwSign) (svn release : Nat) (s : State) : Host.Outcome State Fault Refusal :=
  .next (match s.key.activate with
    | none => s
    | some b =>
      let i := otherImage s
      let reason := if !fwSigned (fwImage s i) sign then 1 else if svn < s.key.rollback ∨ 64 < svn then 2 else 0
      let s1 := { s with key := { s.key with activate := none } }
      let s2 := if reason = 0 then
          let s' := keyDone (setFw i ⟨true, svn, release, (fwImage s i).written, sign⟩ s1)
          { s' with key := { s'.key with preferred := i } }
        else s1
      completeCmd b.jseq (if reason = 0 then stOk else stFailed) (resB 0 reason) (raise 0x0E04 i svn reason s2))
/-- KEY_ROLLBACK_ADVANCE waits for its fuses; one that meets fuses being blown waits for their end (R523). -/
def keyRollbackAdvancePacket (h : Hdr) (level : Nat) : Packet :=
  { h, opcode := 0x0E49, pfOnly := true, needsKey := fun _ => true,
    eff := fun j s0 =>
      let s := blowEnd none s0
      if 64 < level ∨ level ≤ s.key.rollback ∨ (fwImage s s.key.running).svn < level then failRes stFailed s
      else .wait { s with key := { s.key with blowing := some (level, ⟨0, h.func, h.qp, j⟩) } } }
/-- KEY_ROLLBACK_ADVANCE. -/
def execKeyRollbackAdvance (h : Hdr) (level : Nat) (s : State) : Host.Outcome State Fault Refusal :=
  .next (submit (.keyRollbackAdvance h level) (keyRollbackAdvancePacket h level) s)

/-! ### Clearing the latch (R530) -/

/-- The text that clears the latch (R530). -/
def clearText (s : State) : Bytes := labelZktc ++ identityHash ++ leBytes 2 s.key.count
/-- A signature clears the latch: of the owner recovery key (KIND 0) or of the vendor service key (1). -/
def clearSigned (s : State) (kind : Nat) (sign : Signature) : Bool :=
  match kind, s.key.recovery with
  | 0, some p => signatureOk sign (.point p) (clearText s)
  | 1, _ => signatureOk sign .vendorService (clearText s)
  | _, _ => false
/-- KEY_TAMPER_CLEAR (R530). -/
def keyTamperClearPacket (h : Hdr) (kind : Nat) (sign : Signature) : Packet :=
  { h, opcode := 0x0E4A, pfOnly := true, needsKey := fun _ => true, restrictedOk := true,
    eff := fun j s =>
      if !clearSigned s kind sign then failRes stFailed s
      else okRes (raise 0x0E06 s.key.count kind j { s with key := { s.key with latch := false, cause := 0 } }) }
/-- KEY_TAMPER_CLEAR. -/
def execKeyTamperClear (h : Hdr) (kind : Nat) (sign : Signature) (s : State) : Host.Outcome State Fault Refusal :=
  .next (submit (.keyTamperClear h kind sign) (keyTamperClearPacket h kind sign) s)
/-- KEY_RECOVERY_SET stores the owner recovery key once in the module's life (R530). -/
def keyRecoverySetPacket (h : Hdr) (point : Bytes) : Packet :=
  { h, opcode := 0x0E4B, pfOnly := true, needsKey := fun _ => true, denied := fun s => s.key.recovery.isSome,
    eff := fun _ s => okRes { s with key := { s.key with recovery := some point } } }
/-- KEY_RECOVERY_SET. -/
def execKeyRecoverySet (h : Hdr) (point : Bytes) (s : State) : Host.Outcome State Fault Refusal :=
  .next (submit (.keyRecoverySet h point) (keyRecoverySetPacket h point) s)

end Sys2Proof.Machine
end

