-- ==== Sys2Proof/Machine/Backup.lean ====
section
/-! DEFINITION. The backup domain (18): its supply and its reset, setting the calendar clock, capture, leap seconds, trim and
alignment, PWR_ON, and the commands of the backup and RTC class. -/
namespace Sys2Proof.Machine

/-- Main power is good. -/
def mainGood (s : State) : Bool := decide (s.pwr.phase = .running)
/-- BKD_STATUS (Table BKD-3). -/
def bkdStatus (s : State) : Nat :=
  let b := s.bkd
  bbit b.req.isSome 9 + bbit b.capBusy 8 + bbit b.overrange 7 + bbit b.halted 6 + bbit b.valid 5 + bbit b.backupLost 4
    + bbit b.onCell 3 + bbit b.cellLow 2 + bbit b.pwrOn 1 + bbit b.alarm.isSome 0

/-! ### PWR_ON (R553 to R555) -/

/-- EV_BKD_PWR_ON at the clearing of PWR_ON (R555). -/
def clearPwrOn (s : State) : State :=
  if s.bkd.pwrOn then
    raise 0x0F08 s.bkd.pwrOnCause s.bkd.pwrOnTime 0 { s with bkd := { s.bkd with pwrOn := false } }
  else s
/-- Assert PWR_ON; while it is asserted there is one assertion. A module that runs clears it again (R555). -/
def assertPwrOn (cause time : Nat) (s : State) : State :=
  let s1 := if s.bkd.pwrOn then s else { s with bkd := { s.bkd with pwrOn := true, pwrOnCause := cause, pwrOnTime := time } }
  if mainGood s && s.cmd.ready then clearPwrOn s1 else s1
/-- The RTC counts into the alarm's second. While main power is off, the happening itself says so (R553). -/
def execAlarmFire (s : State) : Host.Outcome State Fault Refusal :=
  .next (match s.bkd.alarm with
    | some a =>
      if mainGood s && (s.bkd.halted || decide (calPlace (rtcNow s) < calTicks a)) then s
      else assertPwrOn 0 (rtcMtime s a).sec { s with bkd := { s.bkd with alarm := none } }
    | none => s)
/-- A booked request expires (R554). -/
def execPwrOnReqExpiry (s : State) : Host.Outcome State Fault Refusal :=
  .next (match s.bkd.req with
    | some d =>
      if mainGood s && decide (0 < reqLeft s d) then s
      else assertPwrOn 1 (rtcMtime s (calAdvance (rtcNow s) (reqLeft s d))).sec { s with bkd := { s.bkd with req := none } }
    | none => s)
/-- A failed command with a reason in its result. -/
def reasonRes (r : Nat) (s : State) : OpRes := .done stFailed (resB 0 r) s
/-- BKD_ALARM_SET (R553). -/
def bkdAlarmSetPacket (h : Hdr) (c : Calendar) (enable : Nat) : Packet :=
  { h, opcode := 0x0F42, pfOnly := true, restrictedOk := true,
    eff := fun _ s =>
      if c.subsec ≠ 0 then failRes stFailed s
      else match enable with
      | 0 => okRes { s with bkd := { s.bkd with alarm := none } }
      | 1 =>
        if !dateValid c then reasonRes 1 s
        else if calTicks c ≤ calPlace (rtcNow s) then reasonRes 2 s
        else okRes { s with bkd := { s.bkd with alarm := some c } }
      | _ => failRes stFailed s }
/-- BKD_ALARM_SET. -/
def execBkdAlarmSet (h : Hdr) (c : Calendar) (enable : Nat) (s : State) : Host.Outcome State Fault Refusal :=
  .next (submit (.bkdAlarmSet h c enable) (bkdAlarmSetPacket h c enable) s)
/-- BKD_PWR_ON_REQ (R554). -/
def bkdPwrOnReqPacket (h : Hdr) (delay : Nat) : Packet :=
  { h, opcode := 0x0F43, pfOnly := true, restrictedOk := true,
    eff := fun _ s0 =>
      if 86400 < delay then failRes stFailed s0
      else
        let s := rtcSync s0
        okRes { s with bkd := { s.bkd with req := if delay = 0 then none else some (delay * 32768) } } }
/-- BKD_PWR_ON_REQ. -/
def execBkdPwrOnReq (h : Hdr) (delay : Nat) (s : State) : Host.Outcome State Fault Refusal :=
  .next (submit (.bkdPwrOnReq h delay) (bkdPwrOnReqPacket h delay) s)

/-! ### Setting the clock (R545 to R548) -/

/-- BKD_RTC_HALT with HALT 1 (R545). -/
def bkdRtcHaltPacket (h : Hdr) : Packet :=
  { h, opcode := 0x0F40, pfOnly := true, restrictedOk := true,
    eff := fun _ s =>
      if s.bkd.halted then okRes s
      else
        let s1 := rtcSync s
        okRes { s1 with bkd := { s1.bkd with halted := true, haltRaw := s.tim.raw, shadow := s1.bkd.rtc } } }
/-- BKD_RTC_HALT. -/
def execBkdRtcHalt (h : Hdr) (s : State) : Host.Outcome State Fault Refusal := .next (submit (.bkdRtcHalt h) (bkdRtcHaltPacket h) s)
/-- BKD_RTC_WRITE (R546). -/
def bkdRtcWritePacket (h : Hdr) (c : Calendar) : Packet :=
  { h, opcode := 0x0F41, pfOnly := true, restrictedOk := true,
    eff := fun _ s =>
      if s.bkd.halted = true ∧ c.year < 65536 ∧ c.month < 256 ∧ c.day < 256 ∧ c.hour < 256 ∧ c.min < 256 ∧ c.sec < 256 ∧ c.subsec < 65536 then
        okRes { s with bkd := { s.bkd with shadow := c } }
      else failRes stFailed s }
/-- BKD_RTC_WRITE. -/
def execBkdRtcWrite (h : Hdr) (c : Calendar) (s : State) : Host.Outcome State Fault Refusal :=
  .next (submit (.bkdRtcWrite h c) (bkdRtcWritePacket h c) s)
/-- An armed alarm whose second passed during the halt is disarmed unfired (R553). -/
def haltAlarm (s : State) : State :=
  match s.bkd.alarm with
  | some a =>
    if calTicks a ≤ calPlace (calAdvance s.bkd.rtc ((s.tim.raw - s.bkd.haltRaw) * 128 / tickUnits)) then
      raise 0x0F08 2 (rtcMtime s a).sec 0 { s with bkd := { s.bkd with alarm := none } }
    else s
  | none => s
/-- A halt ends: the RTC counts from a value at the next tick, and EV_BKD_RTC_SET records the outcome with the halt's duration
on RAW (R547, R548). -/
def endRtcHalt (outcome : Nat) (s : State) : State :=
  let s1 := haltAlarm s
  let ok := outcome = 0
  let b := { s1.bkd with halted := false, valid := s1.bkd.valid || ok, overrange := s1.bkd.overrange && !ok,
                         rtc := if ok then s1.bkd.shadow else s1.bkd.rtc, rtcRaw := s.tim.raw * 128, trimStart := some ((now s).sec + 1) }
  let s2 := { s1 with bkd := b }
  let s3 := if ok then alarmPassed s2 else s2
  raise 0x0F03 outcome ((s.tim.raw - s.bkd.haltRaw) / rawMs 1) (rtcMtime s3 s3.bkd.rtc).sec s3
/-- BKD_RTC_HALT with HALT 0: a valid shadow is loaded; an impossible date fails with reason 1, and the failure itself ends the
halt (R547, 02 R83). -/
def bkdRtcHaltReleasePacket (h : Hdr) : Packet :=
  { h, opcode := 0x0F40, pfOnly := true, restrictedOk := true, failActs := true,
    eff := fun _ s =>
      if !s.bkd.halted then okRes s
      else if dateValid s.bkd.shadow then okRes (endRtcHalt 0 s)
      else reasonRes 1 (endRtcHalt 1 s) }
/-- BKD_RTC_HALT with HALT 0. -/
def execBkdRtcHaltRelease (h : Hdr) (s : State) : Host.Outcome State Fault Refusal :=
  .next (submit (.bkdRtcHaltRelease h) (bkdRtcHaltReleasePacket h) s)
/-- A halt has lasted 10 s (R548). -/
def execRtcHaltTimeout (s : State) : Host.Outcome State Fault Refusal :=
  .next (if s.bkd.halted && decide (rawSec 10 ≤ s.tim.raw - s.bkd.haltRaw) then endRtcHalt 2 s else s)

/-! ### Capture and reading (R549) -/

/-- A write of GO; it is ignored while a capture is in progress (R549). -/
def execBkdCapture (go : Nat) (s : State) : Host.Outcome State Fault Refusal :=
  .next (if go = 1 ∧ s.bkd.capBusy = false then { s with bkd := { s.bkd with capBusy := true, capGo := s.tim.raw } } else s)
/-- Oscillator ticks, from that of `rtc` on, to the one at which the capture in progress latches: the last one now, and at most two
periods after GO (R549). -/
def capTicks (s : State) : Nat :=
  min ((s.tim.raw * 128 - s.bkd.rtcRaw) / tickUnits) ((s.bkd.capGo * 128 + 2 * tickUnits - s.bkd.rtcRaw) / tickUnits)
/-- The capture latches at one oscillator tick after GO. The flags that it latches show in no register: BKD_STATUS reads live (log
entry 173). -/
def execBkdCaptureLatch (s : State) : Host.Outcome State Fault Refusal :=
  .next (
    let k := capTicks s
    let at_ := s.bkd.rtcRaw + k * tickUnits
    if s.bkd.capBusy = false ∨ at_ ≤ s.bkd.capGo * 128 then s
    else
      let c := if s.bkd.halted then s.bkd.rtc else calAdvance s.bkd.rtc (trimCount s.bkd k).1
      let t := rtcMtime s c
      { s with bkd := { s.bkd with cap := ⟨c, bkdStatus s, t.sec, t.ns, at_ / 128⟩, capBusy := false } })
/-- BKD_RTC_READ (Table BKD-4). -/
def bkdRtcReadPacket (h : Hdr) : Packet :=
  { h, opcode := 0x0F80, pfOnly := false,
    eff := fun _ s =>
      let t := rtcMtime s (rtcNow s)
      .done stOk (resB 0 (t.sec % 2 ^ 64) ||| resB 8 t.ns ||| resB 12 (bkdStatus s)) s }
/-- BKD_RTC_READ. -/
def execBkdRtcRead (h : Hdr) (s : State) : Host.Outcome State Fault Refusal := .next (submit (.bkdRtcRead h) (bkdRtcReadPacket h) s)
/-- BKD_CONFIG. -/
def bkdConfigPacket (h : Hdr) (trimEn alignEn : Nat) : Packet :=
  configPacket h 0x0F00 (fun _ => decide (trimEn ≤ 1 ∧ alignEn ≤ 1)) (.bkdConfig trimEn alignEn)
/-- BKD_CONFIG. -/
def execBkdConfig (h : Hdr) (trimEn alignEn : Nat) (s : State) : Host.Outcome State Fault Refusal :=
  .next (submit (.bkdConfig h trimEn alignEn) (bkdConfigPacket h trimEn alignEn) s)

/-! ### Leap seconds, range, trim (R542, R543, R550 to R552) -/

/-- The RTC has come to its last value and holds (R542). -/
def holdLast (s : State) : State :=
  if rtcNow s = calLast ∧ s.bkd.overrange = false then
    let s1 := rtcSync s
    raise 0x0F07 0 0 0 { s1 with bkd := { s1.bkd with overrange := true } }
  else s
/-- The RTC reaches the end of its range. -/
def execRtcOverrange (s : State) : Host.Outcome State Fault Refusal := .next (if mainGood s then holdLast s else s)
/-- A leap second at the end of a UTC day (R543): with LEAP61 the RTC, which has just counted past 23:59:59, shows 23:59:60;
with LEAP59 it goes from 23:59:58 to 00:00:00. -/
def execEvBkdLeap (s : State) : Host.Outcome State Fault Refusal :=
  .next (
    let c := rtcNow s
    let d := dayNumber c.year c.month c.day
    let ends := c.hour = 0 ∧ c.min = 0 ∧ c.sec = 0
    let last := c.hour = 23 ∧ c.min = 59 ∧ c.sec = 59
    if s.tim.state ≠ .locked ∨ s.bkd.valid = false ∨ s.bkd.halted = true ∨ mainGood s = false then s
    else if s.tim.leap61 = true ∧ ends ∧ s.bkd.leapDay ≠ d - 1 then
      let c0 := { calOfTicks (((d - 1) * 86400 + 86399) * 32768 + c.subsec) with sec := 60 }
      raise 0x0F06 0 (ps (s.bkd.ofs + 1)) 0 { s with bkd := { (rtcSync s).bkd with rtc := c0, ofs := s.bkd.ofs + 1, leapDay := d - 1, trimStart := some ((now s).sec + 1) } }
    else if s.tim.leap59 = true ∧ last ∧ s.bkd.leapDay ≠ d then
      let c0 := calOfTicks ((d + 1) * 86400 * 32768 + c.subsec)
      raise 0x0F06 1 (ps (s.bkd.ofs - 1)) 0 { s with bkd := { (rtcSync s).bkd with rtc := c0, ofs := s.bkd.ofs - 1, leapDay := d, trimStart := some ((now s).sec + 1) } }
    else s)
/-- The first whole second that is not before a time. -/
def wholeSecond (t : MTime) : Nat := if t.ns = 0 ∧ t.frac = 0 then t.sec else t.sec + 1
/-- The first whole second at which STATE has been LOCKED since, in module time. -/
def lockedSince (s : State) : Nat :=
  match (s.tim.tqLog.takeWhile (fun e => decide (e.state = .locked))).getLast? with | some e => wholeSecond e.time | none => 0
/-- TRIM_EN becomes 1: an interval can start from the next whole second on (R551). -/
def takeTrim (old : Cfg) (s : State) : State :=
  if s.cfg.trimEn = 1 ∧ old.trimEn ≠ 1 then { s with bkd := { s.bkd with trimStart := some (wholeSecond (now s)) } } else s
/-- A complete interval of 1,024 s ends, over which the RTC counted some ticks (R551, R552). -/
def execTrimIntervalEnd (ticks : Nat) (s : State) : Host.Outcome State Fault Refusal :=
  .next (
    let start := max (lockedSince s) (s.bkd.trimStart.getD 0)
    if s.cfg.trimEn ≠ 1 ∨ s.tim.state ≠ .locked ∨ s.bkd.valid = false ∨ s.bkd.halted = true ∨ mainGood s = false
        ∨ (now s).sec < start + 1024 then s
    else
      let s1 := rtcSync s
      let e : Int := 33554432 - (ticks : Int)
      let t := clampI (-17179) 17179 (s1.bkd.trim + e)
      let s2 := { s1 with bkd := { s1.bkd with trim := t, trimErr := e, trimStart := some (now s).sec } }
      rtcAlign (raise 0x0F05 (ps s.bkd.trim) (ps t) (ps e) s2))

/-! ### Supply and the domain's reset (R535 to R539) -/

/-- The switch of the backup supply (R535), from VMAIN and VCELL in mV. -/
def execBkdSupplySwitch (vmainMv vcellMv : Nat) (s : State) : Host.Outcome State Fault Refusal :=
  .next { s with bkd := { s.bkd with onCell :=
    if s.bkd.onCell then !(decide (3000 < vmainMv) && decide (vcellMv + 100 < vmainMv)) else decide (vmainMv < 2900) || decide (vmainMv < vcellMv) } }
/-- VCELL under load, in mV (R537). -/
def cellResult (mv : Nat) (s : State) : State :=
  let s1 := { s with bkd := { s.bkd with vcell := mv, lastCell := mv, cellLow := if mv < 2700 then true else if 2800 ≤ mv then false else s.bkd.cellLow } }
  if mv < 2700 then raise 0x0F02 mv 0 0 s1 else s1
/-- Every 3,600 s VCELL is measured. -/
def execCellMeasure (mv : Nat) (s : State) : Host.Outcome State Fault Refusal :=
  .next (if !mainGood s then s else every 10 0 (rawSec 3600) (cellResult mv) s)
/-- The rail has been below 1.8 V for 2 µs: the domain resets and the tamper latch is set with cause bit 6 (R538). -/
def domainReset (s : State) : State :=
  let b := { s.bkd with
    rtc := ⟨2000, 1, 1, 0, 0, 0, 0⟩, rtcRaw := s.tim.raw * 128, valid := false, overrange := false, halted := false,
    shadow := ⟨0, 0, 0, 0, 0, 0, 0⟩, trim := 0, trimAcc := 0, trimStart := none, alarm := none, req := none, pwrOn := false, lostFlag := true,
    alignAt := none, lossCell := s.bkd.lastCell }
  latchTrip 6 0 (zeroisePersist { s with bkd := b })
/-- The backup domain resets; on a module that runs the trip zeroises every slot, and the event waits for the next start
otherwise (R526, R527). -/
def execBackupDomainReset (s : State) : Host.Outcome State Fault Refusal :=
  .next (
    let s1 := domainReset s
    if mainGood s then
      let s2 := zeroise { s1 with key := { s1.key with tripped := true } }
      recordEvent (evPkg 0x0E01 s2.key.cause s2.key.count 0 0) s2
    else { s1 with key := { s1.key with slots := [], pendTamperEvent := true } })

end Sys2Proof.Machine
end

