-- ==== Sys2Proof/Machine/Commit.lean ====
section
/-! DEFINITION. Configuration commits (02 R75 to R80, 01 R51 to R55): the conditions of every chapter on a commit, the commit
itself, and how a committed configuration takes force. -/
namespace Sys2Proof.Machine

/-! ### Conditions of the chapters on one object of the candidate

`o` is the module with the latest committed configuration, `n` the module with the candidate. -/

/-- The module with another configuration. -/
def withCfg (s : State) (c : Cfg) : State := { s with cfg := c }

/-- The slowest rate among the bound streams. -/
def slowestRate (c : Cfg) : Option Nat := (sortBy (fun a b => decide (a ≤ b)) (c.streams.map (·.2.rate))).head?
/-- The cycle length meets R51. -/
def cycleOk (c : Cfg) : Bool :=
  decide (288 ≤ c.cycleLen ∧ c.cycleLen ≤ 11520 ∧ unitsPerSec % c.cycleLen = 0)
    && (match slowestRate c with | some f => c.cycleLen * f % unitsPerSec == 0 | none => true)

/-- A port of the candidate meets 04 R133 and R148. -/
def portOk (n : State) (p : Nat) : Bool :=
  let c := portCfg n p
  (c.speed == 0 || c.fec != 2)
    && (List.range 4).all (fun i => (portCfg n (p / 4 * 4 + i)).speed == c.speed)
    && (c.partner == 0xFF || (c.partner != p && c.partner / 4 == p / 4
      && (portCfg n c.partner).partner == p && (portCfg n c.partner).lan != c.lan))
/-- Every port of a die meets them. -/
def cageOk (n : State) (p : Nat) : Bool := (List.range 4).all (fun i => portOk n (p / 4 * 4 + i))

/-- KEY_SLOT names no CURRENT key of another engine than SV/GOOSE authentication (06 R190, 08 R252). -/
def authSlotOk (s : State) (slot : Nat) : Bool :=
  slot == 0xFFFF || (match (slotSt s slot).current with | some k => k.engine == 0 | none => true)

/-- A stream is OFF. -/
def streamIsOff (s : State) (n : Nat) : Bool := decide ((strSt s n).o.obj = .off)

/-- A chain of the candidate meets 07 R212 but for its change. -/
def chainOk (n : State) (c : Nat) (p : ChainParams) : Bool :=
  let mates := chainsOf n p.stream
  let arr := n.cfg.chains.filter (fun e => e.1 / 2048 == c / 2048 && e.2.priv == 1)
  (match svCtx n p.stream with
   | some x => decide (p.pos < x.noch) && x.rate % product p == 0
   | none => false)
    && c / 8192 == strDie p.stream && mates.all (fun e => e.1 / 2048 == c / 2048)
    && decide (arr.length ≤ 64 ∧ mates.length ≤ 64)
/-- Every chain of a stream meets them. -/
def chainsOk (n : State) (stream : Nat) : Bool := (n.cfg.chains.filter (fun e => e.2.stream == stream)).all (fun e => chainOk n e.1 e.2)

/-- A stream context of the candidate meets 06 R190 but for its change. -/
def streamOk (n : State) (k : Nat) (c : SvContext) : Bool :=
  !n.cfg.streams.any (fun e => e.1 != k && e.2.da == c.da && e.2.appid == c.appid && e.2.svid == c.svid)
    && paired n c.port && c.port / 4 == strDie k && authSlotOk n c.keySlot

/-- A writer is not OFF. -/
def writerRuns (s : State) (w : Writer) : Bool :=
  match w with
  | .node g _ => decide ((graphSt s g).o.obj ≠ .off)
  | .task t => decide ((taskSt s t).o.obj ≠ .off)
  | .gs c => decide ((gsSt s c).o.obj ≠ .off)
  | .gp c => decide ((gpSt s c).o.obj ≠ .off)
/-- One entry of SIG_DEFINE in the candidate meets 08 R241. -/
def sigOk (o n : State) (e : SigEntry) : Bool :=
  decide (e.id < Config.signals n.variant)
    && (match sigDef o e.id with
        | some d => !(e.valid && (d.type != e.sig.type || d.source != e.sig.source))
            || !(allWrites o.cfg).any (fun w => w.2 == e.id && writerRuns o w.1)
        | none => true)
    && (allWrites n.cfg).all (fun w => w.2 != e.id || !writeClash n.cfg w)

/-- A subscription of the candidate meets 08 R252 but for its change. -/
def gsOk (n : State) (k : Nat) (c : GsContext) : Bool :=
  !n.cfg.gs.any (fun e => e.1 != k && e.2.da == c.da && e.2.appid == c.appid && e.2.gocbref == c.gocbref)
    && c.port / 4 == k / 4096 && authSlotOk n c.keySlot
    && c.map.all (fun m => match sigDef n m.signal with | some d => d.source == 2 && d.type == m.type | none => false)
    && (c.statusSig == 0xFFFFFFFF || (match sigDef n c.statusSig with | some d => d.source == 2 && d.type == 0 | none => false))
    && (gsWrites k c).all (fun w => !writeClash n.cfg w)

/-- A publication's member has its source. -/
def memberOk (n : State) (m : GpMember) : Bool :=
  if m.src = 0 then (sigDef n m.ref).isSome
  else match nodeAt n (m.ref % 32768) with | some (_, r) => decide (m.ref / 65536 % 256 < r.nout) | none => false
/-- A publication of the candidate meets 08 R259 but for its change. -/
def gpOk (n : State) (k : Nat) (c : GpContext) : Bool :=
  !n.cfg.gp.any (fun e => e.1 != k && e.2.da == c.da && e.2.appid == c.appid && e.2.gocbref == c.gocbref)
    && decide (c.t1 ≤ c.t0 * 1000) && c.members.all (memberOk n)
    && (c.echoCtx == 0xFFFF || (match tget n.cfg.gs c.echoCtx with | some g => decide (c.echoMember < g.nentries) | none => false))
    && decide (sumN (c.members.map (fun m => 1 + m.qualf)) ≤ 255)
    && (c.statusSig == 0xFFFFFFFF || (match sigDef n c.statusSig with | some d => d.source == 2 && d.type == 1 | none => false))
    && (gpWrites k c).all (fun w => !writeClash n.cfg w)

/-- A source of a sampled-value publication gives an output at every instant of RATE (08 R264, R265; 13 R409): a chain's outputs
carry the instants n, or n − D when it is privileged, with n − h a multiple of P (07 R217, R221). -/
def svpSourceOk (n : State) (k rate : Nat) (x : SvpSource) : Bool :=
  match x.kind with
  | 0 => x.ref / 8192 == k / 256 && (match tget n.cfg.chains x.ref with
      | some p => (match svCtx n p.stream with
        | some c => c.rate % (product p * rate) == 0 && decide (((if p.priv = 1 then groupDelay p else 0 : Nat) -
            (heelInstant c.rate n.cfg.heel : Int)) % (max 1 (product p) : Nat) = 0)
        | none => false)
      | none => false)
  | 1 => decide (x.ref ≤ 7) && loopRate n == rate
  | _ => false
/-- A sampled-value publication of the candidate. -/
def svpOk (n : State) (k : Nat) (c : SvpContext) : Bool := c.sources.all (svpSourceOk n k c.rate)

/-! ### Graphs (09 R276 to R278, 10 R315, R337) -/

/-- The set of instants of a node (R278): rate and decimation product, or 0 and CYCLE_DIV. -/
def nodeSet (s : State) : Nat → Nat → Option (Nat × Nat)
  | 0, _ => none
  | f + 1, id => match nodeAt s id with
    | none => none
    | some (_, r) => if r.cycle then some (0, r.cycleDiv) else r.slots.findSome? (fun sl =>
        if sl.kind ≤ 1 then (tget s.cfg.chains sl.ref).bind (fun p => (svCtx s p.stream).map (fun c => (c.rate, product p)))
        else if sl.kind = 2 then nodeSet s f sl.ref else none)
/-- The set of instants of a slot's operand; none for a signal. -/
def slotSet (s : State) (sl : Slot) : Option (Nat × Nat) :=
  if sl.kind ≤ 1 then (tget s.cfg.chains sl.ref).bind (fun p => (svCtx s p.stream).map (fun c => (c.rate, product p)))
  else if sl.kind = 2 then nodeSet s ((allNodes s).length + 1) sl.ref else none
/-- A slot names something that exists (R276). -/
def slotExists (s : State) (sl : Slot) : Bool :=
  match sl.kind with
  | 0 => thas s.cfg.chains sl.ref
  | 1 => (match tget s.cfg.chains sl.ref with | some p => p.det != 0 | none => false)
  | 2 => (match nodeAt s sl.ref with | some (_, r) => decide (sl.out < r.nout) | none => false)
  | _ => (sigDef s sl.ref).isSome
/-- A signal of a type enters a slot of a type by Table OPL-2. -/
def convertible (t : SlotT) (type : Nat) : Bool := !(t == .i && type == 4)
/-- The signal slots of a node can be converted, and what SIG_WRITE takes fits its signal (Tables OPL-2 and OPL-14). -/
def nodeTypesOk (s : State) (r : NodeRec) : Bool :=
  let sigs := (List.zip (List.range r.slots.length) r.slots).filter (fun p => p.2.kind == 3)
  let type (sl : Slot) : Nat := match sigDef s sl.ref with | some d => d.type | none => 0
  match opRow r.operator with
  | none => false
  | some row =>
    if r.operator = 0x0A00 then
      sigs.all (fun p => (paramsOf r).all (fun w => convertible (if nth w 0 0 = 1 then .i else .f) (type p.2)))
    else if r.operator = 0x0A01 then
      (paramsOf r).all (fun w => match sigDef s (nth w 0 0) with
        | some d => sigs.all (fun p => !(type p.2 == 4 && (d.type == 1 || d.type == 2)))
        | none => false)
    else sigs.all (fun p => convertible (row.slot p.1) (type p.2))
/-- A node of the candidate meets R276 and R278. -/
def nodeOk (s : State) (id : Nat) (r : NodeRec) : Bool :=
  let own := nodeSet s ((allNodes s).length + 1) id
  r.slots.all (slotExists s) && nodeTypesOk s r && own.isSome
    && r.slots.all (fun sl => sl.kind == 3 || (slotSet s sl == own))
/-- The node-output edges of what is left have a cycle: no node can be taken away any more. -/
def acyclicGo : Nat → List (Nat × List Nat) → Bool
  | 0, l => l.isEmpty
  | f + 1, l =>
    let l' := l.filter (fun e => e.2.any (fun i => l.any (fun x => x.1 == i)))
    if l'.length = l.length then l.isEmpty else acyclicGo f l'
/-- The node-output edges form no cycle. -/
def acyclic (s : State) : Bool :=
  let l := (allNodes s).map (fun n => (n.1, (n.2.2.slots.filter (fun sl => sl.kind == 2)).map (·.ref)))
  acyclicGo (l.length + 1) l
/-- The nodes of an image with their IDs. -/
def imageNodes (g : GraphImage) : List (Nat × NodeRec) := (List.zip (List.range g.nodes.length) g.nodes).map (fun p => (g.nodeBase + p.1, p.2))
/-- Two ranges of node IDs meet. -/
def rangesMeet (a b : GraphImage) : Bool := decide (a.nodeBase < b.nodeBase + b.nodes.length ∧ b.nodeBase < a.nodeBase + a.nodes.length)
/-- A graph of the candidate meets R276 but for its change, its acyclic edges and its placement. -/
def graphOk (n : State) (g : GraphImage) : Bool :=
  decide (g.nodeBase + g.nodes.length ≤ Config.nodes n.variant)
    && !n.cfg.graphs.any (fun e => e.1 != g.graph && rangesMeet e.2.2 g)
    && (imageNodes g).all (fun p => nodeOk n p.1 p.2)
    && (graphWrites g).all (fun w => !writeClash n.cfg w)
/-- A graph is OFF. -/
def graphIsOff (s : State) (g : Nat) : Bool := decide ((graphSt s g).o.obj = .off)
/-- A task is OFF. -/
def taskIsOff (s : State) (t : Nat) : Bool := decide ((taskSt s t).o.obj = .off)

/-! ### Logic (12 R376, R388) -/

/-- A task of the candidate meets R388 but for its change and its fit. -/
def taskOk (n : State) (t : Nat) (g : LogicImage) : Bool :=
  logicTyped n.cfg g true
    && g.decls.all (fun e => decide (e.id < Config.signals n.variant)
      && (match tget n.cfg.signals e.id with | some d => d == e.sig | none => true))
    && (taskWrites t g).all (fun w => !writeClash n.cfg w)
/-- Signals that carry RETAIN. -/
def retainCount (c : Cfg) : Nat :=
  countBy (fun i => match defOf c i with | some d => d.retain | none => false) (allSignals c)
/-- Every processor's scans fit 90 % of the cycle (R376). -/
def scansOk (n : State) : Bool :=
  (List.range (4 * Config.dies n.variant)).all (fun p =>
    !scansTooLong n.cfg.cycleLen ((procImages n p []).map (worstNs (sigDieOf n) (p / 4))))

/-! ### Shares (15 R464, R465, R478) -/

/-- FXU shares hold in the candidate (Table VFN-2). -/
def fxuOk (n : State) : Bool :=
  decide (useOf n 0 0 + vfCount n * vfFloor n 0 + grantSum n 0 ≤ capacity n 0)
    && (liveVfs n).all (fun v => decide (useOf n (v + 1) 0 ≤ vfFloor n 0 + nth (vfSt n v).grants 0 0))
/-- A VF owns a graph that holds a PROTECTION node. -/
def ownsProt (n : State) (v : Nat) : Bool := n.cfg.graphs.any (fun e => e.2.1 == v + 1 && e.2.2.nodes.any (·.prot))

/-! ### The staged commands in order (R76) -/

/-- An object changes only while it is OFF: the entry is new, the same as before, or its object is OFF. -/
def quietChange {α : Type} [DecidableEq α] (old new : Option α) (off : Bool) : Bool := old.isNone || decide (old = new) || off

/-- A staged command's own conditions hold: of the objects that it defines, changes or removes. -/
def stagedOk (func : Nat) (o n : State) (x : Staged) : Bool :=
  match x.setting with
  | .cycleLen _ => cycleOk n.cfg
  | .port p _ => cageOk n p
  | .swcQueue p => decide (minSum n.cfg.swcQueues p.die ≤ 32768)
  | .mcast d i e => e.valid != 1 || !n.cfg.mcast.any (fun y => y.1.1 == d && y.1.2 != i && y.2.mac == e.mac && y.2.vid == e.vid)
  | .svSub k c => cycleOk n.cfg && streamOk n k (tgetD n.cfg.streams k c) && chainsOk n k
      && quietChange (svCtx o k) (svCtx n k) (streamIsOff o k)
  | .svUnsub k => chainsOk n k && quietChange (svCtx o k) (svCtx n k) (streamIsOff o k)
  | .chain c _ _ =>
      (match tget n.cfg.chains c with | some p => chainOk n c p | none => true)
        && quietChange (tget o.cfg.chains c) (tget n.cfg.chains c) (match tget o.cfg.chains c with
            | some p => streamIsOff o p.stream
            | none => true)
  | .sigDefine l => nodupN (l.map (·.id)) && l.all (sigOk o n)
  | .gsSub k c => gsOk n k (tgetD n.cfg.gs k c) && quietChange (gsCtx o k) (gsCtx n k) (decide ((gsSt o k).o.obj = .off))
  | .gpDef k c => gpOk n k (tgetD n.cfg.gp k c) && quietChange (gpCtx o k) (gpCtx n k) (decide ((gpSt o k).o.obj = .off))
  | .svpDef k c => svpOk n k (tgetD n.cfg.svp k c)
  | .graphLoad _ g => (!graphExists o g.graph || mayAct o func g.graph) && graphIsOff o g.graph
      && (match tget n.cfg.graphs g.graph with | some e => graphOk n e.2 && acyclic n | none => true)
  | .graphUnload g => graphIsOff o g && (!graphExists o g || mayAct o func g)
  | .lgcTask t _ _ => taskIsOff o t && (match tget n.cfg.tasks t with | some g => taskOk n t g | none => true)
  | .loopConfig _ => decide (o.lop.o.obj = .off)
  | .vfnPolicy f => sharesHold n f (vfCount n) (liveVfs n)
  | .vfProt v p => p != 0 || !ownsProt n v
  | _ => true
/-- Two staged images name one task (12 R388). -/
def taskTwice (l : List Staged) (x : Staged) : Bool :=
  match x.setting with
  | .lgcTask t true _ => countBy (fun y => match y.setting with | .lgcTask u true _ => u == t | _ => false) l > 1
  | _ => false
/-- The objects that no staged command names still meet their conditions in the candidate. -/
def restOk (n : State) : Bool :=
  cycleOk n.cfg && n.cfg.streams.all (fun e => streamOk n e.1 e.2) && n.cfg.chains.all (fun e => chainOk n e.1 e.2)
    && n.cfg.gs.all (fun e => gsOk n e.1 e.2) && n.cfg.gp.all (fun e => gpOk n e.1 e.2)
    && n.cfg.svp.all (fun e => svpOk n e.1 e.2) && n.cfg.graphs.all (fun e => graphOk n e.2.2) && acyclic n
    && n.cfg.tasks.all (fun e => taskOk n e.1 e.2) && decide (retainCount n.cfg ≤ 524288) && fxuOk n

/-- The staged command that defined or changed an object, as R345 asks. -/
def namesObject (e : NoFit) (x : Staged) : Bool :=
  match e.1, x.setting with
  | 0, .graphLoad _ g => decide (g.nodeBase ≤ e.2.1 ∧ e.2.1 < g.nodeBase + g.nodes.length)
  | 1, .lgcTask t true _ => t == e.2.1
  | 2, .sigDefine l => l.any (fun y => y.id == e.2.1)
  | 2, .lgcTask _ true g => g.decls.any (fun y => y.id == e.2.1)
  | 3, .plmGroup g _ _ => g == e.2.1
  | _, _ => false

/-- How a validation ends: the candidate placed, or the first failing staged command, with an object that finds no place. -/
inductive Verdict where
  | good
  | bad (x : Option Staged)
  | noPlace (x : Option Staged) (e : NoFit)

/-- The placement of the configuration in force (11 R339, R340): removed objects free their places; what has no place keeps none. A
cluster under rotation that this empties starts its test (11 R353). -/
def takePlaces (s : State) : State :=
  let s1 := match placement s with
    | .ok s1 => s1
    | .error _ => dropRemoved s
  foldSt bistBegin (List.range (Config.dies s.variant)) { s1 with plm := { s1.plm with settled := true } }
/-- The placement that the commits which wait for their second will leave. -/
def waitingPlaces (s : State) : State := s.commits.foldl (fun s k => takePlaces (withCfg s k.cfg)) s

/-- Validate a staging area against the latest committed configuration, a replaced setting not counting (R75, R76). -/
def validate (s : State) (func : Nat) : Verdict :=
  let l := inEffect (staged s func)
  let o := withCfg s (latestCfg s)
  let n := withCfg s (candidate s func)
  match l.find? (fun x => !stagedOk func o n x || taskTwice (staged s func) x) with
  | some x => .bad (some x)
  | none =>
    if !restOk n then .bad l.head?
    else match placement { n with plm := (waitingPlaces s).plm } with
      | .error e => .noPlace (match l.find? (namesObject e) with | some x => some x | none => l.head?) e
      | .ok n1 => if scansOk n1 then .good else .bad l.head?

/-- EV_PLM_NOFIT (11 Table PLM-8). -/
def evNoFit (e : NoFit) (s : State) : State := recordEvent (evPkg 0x0801 (e.1 + 256 * e.2.1) e.2.2 0 e.2.1) s

/-- Write a configuration into the bank that the marker does not name, then move the marker (R79). -/
def writeBank (gen : Nat) (c : Cfg) (s : State) : State :=
  if s.marker then { s with bankA := some (gen, c), marker := false } else { s with bankB := some (gen, c), marker := true }
/-- The bank that the marker names. -/
def markedBank (s : State) : Option (Nat × Cfg) := if s.marker then s.bankB else s.bankA

/-- The result that names a failing staged command (Table CMD-8). -/
def failName (x : Option Staged) : Result := match x with | some y => resB 0 (y.jseq % 2 ^ 64) ||| resB 8 y.opcode | none => 0

/-- Commit a staging area that has passed (R76, R77, R79). -/
def commitStaging (func : Nat) (s : State) : State :=
  let new := candidate s func
  let gen := s.cmd.gen + 1
  let due := (now s).sec + 1
  let k : Commit := ⟨gen, new, due, (staged s func).map (·.opcode), (staged s func).filterMap stagedObj⟩
  let s1 := writeBank gen new { s with commits := s.commits ++ [k] }
  raise 0x0003 gen func due { s1 with cmd := { s1.cmd with gen := gen, staging := tdel s1.cmd.staging func } }

/-- CONFIG_COMMIT (R76, R80; 12 R391). -/
def configCommitPacket (h : Hdr) : Packet :=
  { h, opcode := 0x0040, pfOnly := false, busyBefore := true, failActs := true,
    eff := fun _ s =>
      let size := storedSize (candidate s h.func)
      if bankSize < size then .done stQueueFull (resB 0 size) s
      else if s.lgc.switchAt.isSome then failRes stBusy s
      else match validate s h.func with
        | .bad x => .done stFailed (failName x) s
        | .noPlace x e => .done stFailed (failName x) (evNoFit e s)
        | .good => let s1 := commitStaging h.func s; .done stOk (resB 0 s1.cmd.gen) s1 }
/-- CONFIG_COMMIT. -/
def execConfigCommit (h : Hdr) (s : State) : Host.Outcome State Fault Refusal :=
  .next (submit (.configCommit h) (configCommitPacket h) s)

/-- CONFIG_ABORT (R78). -/
def configAbortPacket (h : Hdr) : Packet :=
  { h, opcode := 0x0041, pfOnly := false,
    eff := fun _ s => .done stOk (resB 0 (staged s h.func).length)
      { s with cmd := { s.cmd with staging := tdel s.cmd.staging h.func } } }
/-- CONFIG_ABORT. -/
def execConfigAbort (h : Hdr) (s : State) : Host.Outcome State Fault Refusal :=
  .next (submit (.configAbort h) (configAbortPacket h) s)

/-- SYS_CYCLE_SET stages the cycle length (01 R55, R56). -/
def sysCycleSetPacket (h : Hdr) (len : Nat) : Packet :=
  configPacket h 0x0006 (fun _ => decide (288 ≤ len ∧ len ≤ 11520 ∧ unitsPerSec % len = 0)) (.cycleLen len)
/-- SYS_CYCLE_SET. -/
def execSysCycleSet (h : Hdr) (len : Nat) (s : State) : Host.Outcome State Fault Refusal :=
  .next (submit (.sysCycleSet h len) (sysCycleSetPacket h len) s)

/-! ### Taking force (R77) -/

/-- A port whose SPEED or FEC changes (04 R145), or that loses PREEMPT_EN (R151). DESIGN CHOICE (log entry 147): VERIFY of a port that
loses PREEMPT_EN keeps 2 and 3, and a verification under way ends at 0. -/
def takePort (old : Cfg) (s : State) (p : Nat) : State :=
  let a := tgetD old.ports p (portDefault p)
  let b := portCfg s p
  let s0 := if preemptEn b then s
    else setPort p { portSt s p with preemptActive := false, verify := if (portSt s p).verify = 1 then 0 else (portSt s p).verify } s
  if a.speed = b.speed ∧ a.fec = b.fec then (if preemptEn a && !preemptEn b then s0 else s)
  else (let s1 := linkLost p 4 s0; setPort p { portSt s1 p with mode := modeOf b } s1)
/-- A signal in the old and the new configuration (08 R242, R251). -/
def takeSignal (b : MTime) (old : Cfg) (s : State) (id : Nat) : State :=
  match defOf old id, defOf s.cfg id with
  | some d, some e =>
    if d.type ≠ e.type then setRec id ⟨e.init, bbit (holdAt s b) 15, b⟩ (voidForce b id s)
    else if d.source ≠ e.source then setRec id ⟨e.init, bbit (holdAt s b) 15, b⟩ s
    else s
  | none, some e => setRec id ⟨e.init, bbit (holdAt s b) 15, b⟩ s
  | some _, none => removeSignal id (voidForce b id s)
  | none, none => s
/-- Forget what the module holds of a node (09 R276, 11 R350). -/
def forgetNode (s : State) (id : Nat) : State :=
  { s with plm := { s.plm with migs := s.plm.migs.filter (fun m => m.node != id), evacuated := s.plm.evacuated.filter (· != id) }
           grf := { s.grf with nodes := tdel s.grf.nodes id, store := s.grf.store.filter (fun e => e.node != id)
                               service := s.grf.service.filter (fun f => f.node != id)
                               retained := s.grf.retained.filter (fun r => r.1 != id) } }
/-- The node IDs of a graph in a configuration. -/
def cfgNodes (c : Cfg) (g : Nat) : List Nat := match tget c.graphs g with | some e => (imageNodes e.2).map (·.1) | none => []
/-- A graph that is new, replaced or removed, though its image be the same, starts OFF, in setting group 0, with cold nodes (09
R276); a GRF_SETTING_GROUP that waits for it fails (log entry 58). -/
def takeGraph (old : Cfg) (named : List (Nat × Nat)) (s : State) (g : Nat) : State :=
  if tget old.graphs g = tget s.cfg.graphs g ∧ named.contains (0, g) = false then s
  else
    let s1 := (cfgNodes old g ++ cfgNodes s.cfg g).foldl forgetNode s
    let s2 := { s1 with grf := { s1.grf with graphs := tdel s1.grf.graphs g, groupCmds := tdel s1.grf.groupCmds g } }
    match tget s.grf.groupCmds g with
    | some b => completeCmd b.jseq stFailed 0 s2
    | none => s2
/-- A task that is new, defined again or removed starts OFF with no override (12 R388, R389). -/
def takeTask (old : Cfg) (named : List (Nat × Nat)) (s : State) (t : Nat) : State :=
  if tget old.tasks t = tget s.cfg.tasks t ∧ named.contains (1, t) = false then s
  else { s with lgc := { s.lgc with tasks := tdel s.lgc.tasks t, retainTasks := tdel s.lgc.retainTasks t
                                    retainCtrs := s.lgc.retainCtrs.filter (fun e => e.1.1 != t) } }
/-- A chain that is new, changed or removed starts with no history, and on a stream that runs it takes the instants released from
now on (07 R212, R220). -/
def takeChain (old : Cfg) (s : State) (c : Nat) : State :=
  if tget old.chains c = tget s.cfg.chains c then s
  else
    let s1 := { s with flt := { s.flt with chains := tdel s.flt.chains c } }
    match tget s.cfg.chains c with
    | some p => if streamIsOff s p.stream then s1 else setChain c { fromInst := (strSt s p.stream).nextRelease } s1
    | none => s1
/-- A stream whose context goes keeps only the groups that its lane still holds (07 R233). -/
def takeStream (s : State) (n : Nat) : State :=
  if thas s.cfg.streams n then s
  else
    let l := (strSt s n).lane
    { s with svi := { s.svi with streams := if l.isEmpty then tdel s.svi.streams n else tset s.svi.streams n { lane := l } } }
/-- A change of MODE takes the module to INIT (14 Table PAIR-2). -/
def takeMode14 (old : Cfg) (s : State) : State :=
  if old.pair.mode = s.cfg.pair.mode ∨ s.pair.state = .failed then s else initRows (setPair .init 13 s)
/-- Keys of both tables. -/
def bothKeys {α : Type} (a b : Tbl Nat α) : List Nat := dedupN (a.map (·.1) ++ b.map (·.1))

/-- The commit's command is one that took effect at the boundary (14 R434). -/
def noteCommit (k : Commit) (s : State) : State :=
  match s.cmd.jnl.find? (fun e => e.2.opcode == 0x0040 && e.2.gen + 1 == k.gen && e.2.status == stOk) with
  | some e => noteAdmit (.command e.2.seq 0x0040) s
  | none => s
/-- A committed configuration takes force at the whole second `sec`, with the automatic heel (R77; 01 R55; 07 R230);
MAX_STATE and the hosted objects may have changed (19 R567). DESIGN CHOICE (log entry 145): a change of the time pair or domain leaves
what each LAN holds. -/
def takeForce (sec : Nat) (k : Commit) (s : State) : State :=
  let old := s.cfg
  let b : MTime := ⟨sec, 0, 0⟩
  let s1 := withCfg (idleCoefs (instantFrom (loopRate s) b - 1) (noteCommit k s)) k.cfg
  let s2 := takeCycle sec old.cycleLen s1
  let s3 := (List.range (Config.ports s.variant)).foldl (takePort old) s2
  let s4 := keepPast (sec * unitsPerSec / max 1 s3.cfg.cycleLen) s3.sig.recs
    ((dedupN (allSignals old ++ allSignals k.cfg)).foldl (takeSignal b old) s3)
  let s5 := (bothKeys old.graphs k.cfg.graphs).foldl (takeGraph old k.named) s4
  let s6 := (bothKeys old.tasks k.cfg.tasks).foldl (takeTask old k.named) s5
  let s7 := (bothKeys old.chains k.cfg.chains).foldl (takeChain old) s6
  let s8 := (old.streams.map (·.1)).foldl takeStream s7
  let s9 := takePlaces (takeLoop old k.ops s8)
  rechooseAll (takeMode14 old (takeTrim old (autoHeel sec s9)))
/-- The cycle length that the active module's mirror has announced takes effect at its second (01 R55). -/
def takeMirrorCycle (s : State) : State :=
  match s.pair.mirrorCycle with
  | none => s
  | some (len, sec) =>
    if (now s).sec < sec then s
    else
      let s1 := { s with pair := { s.pair with mirrorCycle := none } }
      if follows s1 then takeCycle sec s.cfg.cycleLen { s1 with cfg := { s1.cfg with cycleLen := len } } else s1
/-- The first commit whose second has come takes force. -/
def takeFirst (s : State) : State :=
  match s.commits.find? (fun k => decide (k.dueSec ≤ (now s).sec)) with
  | some k => takeForce k.dueSec k { s with commits := s.commits.erase k }
  | none => s
/-- Every commit whose second has come takes force, in journal order; then what the mirror has announced. -/
def takeForces (s : State) : State :=
  takeMirrorCycle (foldSt (fun _ s => takeFirst s) (List.range s.commits.length) s)
/-- CONFIG_TAKE_FORCE: the whole second of R77 is reached. -/
def execConfigTakeForce (s : State) : Host.Outcome State Fault Refusal :=
  .next (if s.pwr.phase = .running then takeForces s else s)

end Sys2Proof.Machine
end

