-- ==== Sys2Proof/Machine/Power.lean ====
section
/-! DEFINITION. Power (19, 20 R581, R591): the power-fail sequence, the switched domains, temperatures, the start-up sequence,
the restore of the configuration with its restart, and the commands of the power class. -/
namespace Sys2Proof.Machine

/-! ### Switched domains at work (R567, R568) -/

/-- DOMAIN_FREE: a domain has become free of work, with the ns left before its next known event (R567). -/
def execDomainFree (die dom : Nat) (untilEvent : Option Nat) (s : State) : Host.Outcome State Fault Refusal :=
  .next (if s.pwr.phase ≠ .running ∨ hasDie s die = false ∨ 11 < dom ∨ s.plm.exclDies.contains die = true then s
    else
      let st := chooseState s die dom untilEvent
      if st = (domainSt s die dom).1 then s else setDomain die dom st s)
/-- A wait beyond the tolerance is counted and recorded once per second per die with the longest wait (R568). -/
def lateWake (die dom waited : Nat) (s : State) : State :=
  let longest := match findWindow (closeOver 0x1004 die s) 0x1004 die with | some w => decide (w.extra < waited) | none => false
  let s1 := raiseCounting die 1 waited (evDie 0x1004 (die + 256 * dom) 0 0 die (die + 256 * dom)) (bump (.pwrLateWake die dom) s)
  if longest then
    { s1 with evr := { s1.evr with windows := s1.evr.windows.map (fun w =>
        if w.code == 0x1004 && w.obj == die then { w with first := { w.first with p1 := die + 256 * dom, object := die + 256 * dom } } else w) } }
  else s1
/-- DOMAIN_WAKE: a domain is ON again, after work has waited some ns for it (R568). -/
def execDomainWake (die dom waited : Nat) (s : State) : Host.Outcome State Fault Refusal :=
  .next (if s.pwr.phase ≠ .running ∨ hasDie s die = false ∨ 11 < dom ∨ s.plm.exclDies.contains die = true ∨ (domainSt s die dom).1 = 0 then s
    else
      let s1 := bump (.pwrWake die dom) (setDomain die dom 0 s)
      match domainTol s die dom with | some t => if t < waited then lateWake die dom waited s1 else s1 | none => s1)

/-! ### Measurements (R601; 20 R581) -/

/-- PWR_FAIL_N is let go: the detector has released, and no other driver pulls the line (R560). -/
def releaseFail (s : State) : State := { s with hwi := { s.hwi with pwrFailN := true }, pwr := { s.pwr with pfail := false, ext := false } }
/-- PWR_INPUT_SAMPLE, every 10 ms: VIN in 10 mV and IIN in mA. A module that waits measures nothing; its detector releases at 35 V rising
(R560). -/
def execPwrInputSample (vin iin : Nat) (s : State) : Host.Outcome State Fault Refusal :=
  .next (if s.pwr.phase = .running then every 12 0 (rawMs 10) (fun s => { s with pwr := { s.pwr with vin := vin % 65536, iin := iin % 65536 } }) s
    else if 3500 ≤ vin ∧ s.pwr.ext = false then releaseFail s else s)
/-- Input power, mW. -/
def inputMw (s : State) : Nat := s.pwr.vin * 10 * s.pwr.iin / 1000
/-- A die's measured junction temperature, 0.1 °C: WARN, the peak, and CRIT with what it brings (20 R581). -/
def dieTemp (s : State) (e : Nat × Int) : State :=
  let d := e.1
  let t := e.2
  let warn := if 1000 ≤ t then s.hwi.warn ||| 2 ^ d else if t ≤ 950 ∧ bitN s.hwi.warn d then s.hwi.warn - 2 ^ d else s.hwi.warn
  let s1 := peak (.hwiTjPeak d) t.toNat { s with hwi := { s.hwi with warn := warn, tj := tset s.hwi.tj d t } }
  if t < 1150 ∨ bitN s.hwi.crit d then s1
  else
    let s2 := { s1 with hwi := { s1.hwi with crit := s1.hwi.crit ||| 2 ^ d } }
    if d = 0 then raiseFatal 16 s2 else dieEvacuate d true s2
/-- A die at CRIT is emptied: its domains go OFF once placement has evacuated it. -/
def coolDie (s : State) (d : Nat) : State :=
  if d = 0 ∨ bitN s.hwi.crit d = false ∨ s.plm.nodeLoc.any (fun e => e.2.die == d) ∨ s.plm.taskLoc.any (fun e => e.2.die == d) then s
  else (List.range 12).foldl (fun s k => if (domainSt s d k).1 = 3 then s else setDomain d k 3 s) s
/-- Inlet and junction temperatures, 0.1 °C. -/
def temps (air : AirTemps) (tj : List Int) (s : State) : State :=
  let dies := List.range (Config.dies s.variant)
  dies.foldl coolDie ((List.zip dies tj).foldl dieTemp { s with hwi := { s.hwi with inlet := air.inlet, ocxo := air.ocxo } })
/-- TEMP_MEASURE, every 10 ms. -/
def execTempMeasure (air : AirTemps) (tj : List Int) (s : State) : Host.Outcome State Fault Refusal :=
  .next (if s.pwr.phase ≠ .running then s else every 11 0 (rawMs 10) (temps air tj) s)

/-! ### Power-fail (R559 to R564; 20 R591) -/

/-- Records of the retain area: RETAIN signals as they stand, and RETAIN counters (12 R396). -/
def retainSigsNow (s : State) : Tbl Nat SigRec :=
  (allSignals s.cfg).filterMap (fun i => match sigDef s i with | some d => if d.retain then some (i, writerRec s i) else none | none => none)
/-- RETAIN counters of the tasks. -/
def retainCtrsNow (s : State) : Tbl (Nat × Nat) Int :=
  (taskIds s).flatMap (fun t => let cs := (taskSt s t).t.counters
    ((List.zip (List.range cs.length) cs).filter (fun p => p.2.retain)).map (fun p => ((t, p.1), p.2.cv)))
/-- Task states and modes held in MRAM (12 R397). -/
def retainTasksNow (s : State) : Tbl Nat (ObjSt × LMode) := (taskIds s).map (fun t => (t, ((taskSt s t).o, (taskSt s t).mode)))
/-- The most pending records that a power-fail writes (Table PWR-2). -/
def flushRetainCap : Nat := 131072
/-- What the power-fail flush leaves of the retain area: nothing pending, and the open flag only when records remain. -/
def flushRetain (s : State) : State :=
  if s.pwr.restored then
    { s with lgc := { s.lgc with retainTasks := retainTasksNow s, retainOpen := decide (flushRetainCap < s.lgc.retainPending), retainPending := 0 } }
  else s
/-- Slots with a booked commit: the booking is dropped, and the next start reports it (17 R517); the blowing of fuses stops (R523). -/
def dropBooked (s : State) : State :=
  let l := (s.key.slots.filter (fun e => e.2.booked.isSome)).map (·.1)
  blowStop { s with key := { s.key with lostCommits := s.key.lostCommits ++ l, slots := s.key.slots.map (fun e => (e.1, { e.2 with booked := none })) } }
/-- Every switched domain but two of die 0 goes OFF. -/
def shedDomains (s : State) : State :=
  (List.range (Config.dies s.variant)).foldl (fun s d => (List.range 12).foldl (fun s k =>
    if d = 0 ∧ (k = 10 ∨ k = 11) then s else setDomain d k 3 s) s) s
/-- After the flush those two go OFF as well (Table PWR-1). -/
def lastDomains (s : State) : State := setDomain 0 11 3 (setDomain 0 10 3 s)
/-- The sequence of Table PWR-1, to its end: the module then waits (R561, R564). -/
def powerFailSeq (source : Nat) (s : State) : State :=
  let s0 := { s with hwi := { s.hwi with pwrFailN := false }, pwr := { s.pwr with pfail := true, ext := decide (source = 1) } }
  let s1 := raise 0x1001 s0.pwr.vin source s0.cycleNum (raiseFatal 14 s0)
  let s2 := dropBooked (shedDomains s1)
  let s3 := rtcSync (if s2.bkd.halted then endRtcHalt 3 s2 else s2)
  let first := s3.evr.durable
  let s4 := lastDomains (flushRetain (flushStaging s3))
  let (t, s5) := freeNat 6001 s4
  { s5 with
    cmd := { s5.cmd with ready := false }
    evr := { s5.evr with flushMark := true }
    pwr := { s5.pwr with phase := .waiting, restartBooked := none, lastStop := if source = 2 then 2 else 0,
                         lastFlush := t, flushFrom := first } }
/-- POWER_FAIL: the detector (0), an external driver (1), or a booked PWR_RESTART that is due (2). -/
def execPowerFail (source : Nat) (s : State) : Host.Outcome State Fault Refusal :=
  .next (if s.pwr.phase ≠ .running ∨ 2 < source then s
    else if source = 2 then (match s.pwr.restartBooked with
      | some r => if s.tim.raw < r then s else powerFailSeq 2 s
      | none => s)
    else powerFailSeq source s)
/-- EJECT_LEVER: the lever leaves its latched position (20 R591). -/
def execEjectLever (s : State) : Host.Outcome State Fault Refusal :=
  .next (let s1 := { s with hwi := { s.hwi with eject := true } }
    if s.pwr.phase = .running then powerFailSeq 0 s1 else s1)

/-! ### Start-up (R570, R571) -/

/-- The boot ROM accepts an image: its store reads as it was written, its key and signature verify, and its SVN, 0 to 64, is at
least the anti-rollback counter (17 R521). -/
def bootOk (s : State) (i : Nat) (storeOk : Bool) : Bool :=
  let x := fwImage s i
  storeOk && x.valid && fwSigned x x.sign && decide (s.key.rollback ≤ x.svn ∧ x.svn ≤ 64)
/-- The image that starts: the preferred one, then the other. -/
def bootImage (s : State) (aOk bOk : Bool) : Option Nat :=
  let ok := fun i => bootOk s i (if i = 0 then aOk else bOk)
  if ok s.key.preferred then some s.key.preferred else if ok (1 - s.key.preferred) then some (1 - s.key.preferred) else none
/-- What a slot keeps over a start: its PERSIST banks and their marker (17 R510, R517). -/
def keptSlot (e : Nat × SlotSt) : Option (Nat × SlotSt) :=
  if (e.2.bankOf e.2.bank).isSome then some (e.1, { bankA := e.2.bankA, bankB := e.2.bankB, bank := e.2.bank }) else none
/-- Journal entries accepted and without DONE (02 R91). -/
def openEntries (s : State) : List Nat :=
  sortBy (fun a b => decide (a ≤ b)) ((s.cmd.jnl.filter (fun e => e.2.accept == 0xA5 && e.2.done != 0x5A)).map (fun e => e.2.seq))
/-- ST_FAILED and DONE are written into them, and one event names the first and the last. -/
def abandonEntries (s : State) : State :=
  let l := openEntries s
  let s1 := l.foldl (fun s j => jnlDone j stFailed s) s
  match l.head?, l.getLast? with
  | some a, some b => raise 0x0002 a b 0 s1
  | _, _ => s1
/-- The RTC over the time without power: the oscillator has given a number of ticks that the module cannot know (log entry 53). An RTC
that has come to its last value holds, and the next start records it (18 R542, R558). -/
def rtcOver (raw n : Nat) (s : State) : BkdSt :=
  let k := trimCount s.bkd n
  let c := calAdvance s.bkd.rtc k.1
  let spent := !s.bkd.overrange && c == calLast
  { s.bkd with rtc := c, trimAcc := k.2, rtcRaw := raw * 128, cap := {}, capBusy := false, trimErr := 0, cellLow := false, vcell := 0, halted := false, trimStart := none,
               overrange := s.bkd.overrange || spent,
               req := s.bkd.req.map (fun d => d - k.1),
               backupLost := s.bkd.lostFlag, lostFlag := false, pendEvents := if spent then [evPkg 0x0F07 0 0 0 0] else [],
               alignAt := none }
/-- The records that a hold-up shorter than the flush has lost: those after a free number of the flushed ones (16 R488). -/
def flushLosses (outran : Bool) (s : State) : State :=
  if outran then
    let (n, s1) := freeNat (s.evr.next - s.pwr.flushFrom + 1) s
    let (o, s2) := freeNat 2 s1
    { s2 with evr := { s2.evr with flushMark := false, ring := s2.evr.ring.filter (fun e => decide (e.2.seq < s2.pwr.flushFrom + n)) }
              lgc := { s2.lgc with retainOpen := s2.lgc.retainOpen || o == 1 } }
  else s
/-- The highest SEQ with VALID in the ring. -/
def ringTop (s : State) : Nat := maxN (s.evr.ring.map (fun e => e.2.seq))
/-- EVR_NEXT at a start, and EV_EVR_START (16 R490). -/
def startRecorder (first : Bool) (s : State) : State :=
  let top := ringTop s
  let mark := s.evr.flushMark
  let next := max (max (top + 1) s.evr.clearedTo) (if mark || first then 0 else top + 65537)
  let span := min ringSize (next - s.evr.oldest)
  let invalid := span - countBy (fun e => decide ((e.1 + ringSize - s.evr.oldest % ringSize) % ringSize < span)) s.evr.ring
  let s1 := { s with evr := { s.evr with next := next, durable := next, flushMark := false } }
  raise 0x0D03 next invalid (if mark then 1 else 0) s1
/-- The coefficients that MRAM keeps: those in force, or those of a committed LOOP_CONFIG that has yet to take force (13 R413, R415). -/
def keptCoefs (s : State) : List F32 :=
  match (if s.commits.any (fun k => k.ops.contains 0x0A00) then (markedBank s).bind (fun e => e.2.loop) else none) with
  | some p => p.coef
  | none => (idleNow s).lop.coef
/-- What a start keeps: what lies in MRAM, in the backup domain, in fuses and in host memory, the pins and the cages; the rest is
as after reset. -/
def startState (raw n : Nat) (s : State) : State :=
  let r := State.reset
  { r with
    pending := s.pending
    variant := s.variant
    free := s.free
    bankA := s.bankA
    bankB := s.bankB
    marker := s.marker
    cmd := { r.cmd with jnlNext := s.cmd.jnlNext, jnlOldest := s.cmd.jnlOldest, jnl := s.cmd.jnl, hostOut := s.cmd.hostOut }
    evr := { r.evr with oldest := s.evr.oldest, next := s.evr.next, ring := s.evr.ring, durable := s.evr.durable,
                        flushMark := s.evr.flushMark, clearedTo := s.evr.clearedTo }
    net := { r.net with cages := s.net.cages }
    sig := { r.sig with forces := s.sig.forces }
    lgc := { r.lgc with runN := s.lgc.runN, stopN := s.lgc.stopN, tasks := s.lgc.tasks.map (fun e => (e.1, { overrides := e.2.overrides })),
                        retainSigs := s.lgc.retainSigs, retainCtrs := s.lgc.retainCtrs, retainGen := s.lgc.retainGen,
                        retainOpen := s.lgc.retainOpen, retainTasks := s.lgc.retainTasks }
    lop := { r.lop with coef := keptCoefs s }
    key := { r.key with slots := s.key.slots.filterMap keptSlot, rollback := s.key.rollback, fwA := s.key.fwA, fwB := s.key.fwB,
                        preferred := s.key.preferred, latch := s.key.latch, cause := s.key.cause, count := s.key.count,
                        tamperTime := s.key.tamperTime, recovery := s.key.recovery, draws := s.key.draws,
                        extArmed := (match markedBank s with | some e => e.2.extEn == 1 | none => false) }
    bkd := rtcOver raw n s
    tim := { r.tim with raw := raw }
    pair := { r.pair with side := s.hwi.pinSide }
    pwr := { r.pwr with lastFlush := s.pwr.lastFlush, vin := s.pwr.vin, iin := s.pwr.iin }
    hwi := { r.hwi with slotId := s.hwi.slotId, pinSide := s.hwi.pinSide, collarExt := s.hwi.collarExt, ppsIn := s.hwi.ppsIn } }
/-- Module time runs from the RTC until the restore, or from 0 when the RTC is invalid (03 R117). -/
def startTime (s : State) : State :=
  if rtcGood s then { s with tim := { s.tim with cur := ⟨rtcMtime s s.bkd.rtc, s.tim.raw, 0, 0⟩ } } else { s with tim := { s.tim with cur := ⟨⟨0, 0, 0⟩, s.tim.raw, 0, 0⟩ } }
/-- A die that fails its self-test carries the die-fault flag and stays excluded; which test failed is a free value (R571). -/
def failDie (s : State) (d : Nat) : State :=
  if d = 0 ∨ hasDie s d = false then s
  else
    let (t, s1) := freeNat 7 s
    let s2 := setFlag 2 true { s1 with hwi := { s1.hwi with dieFaults := dedupN (s1.hwi.dieFaults ++ [d]) }
                                       plm := { s1.plm with exclDies := dedupN (s1.plm.exclDies ++ [d]), startDies := dedupN (s1.plm.startDies ++ [d]) } }
    recordEvent (evDie 0x1006 d t 0 d d) s2
/-- A cluster that fails its self-test is excluded (14 Table PAIR-8a). -/
def failCluster (s : State) (k : Nat) : State :=
  if hasDie s (k / 32) = false then s
  else evSelftest 0 (packLoc (clusterLoc k)) 1 (setFlag 12 true { s with plm := { s.plm with
    exclClusters := dedupN (s.plm.exclClusters ++ [k]), startClusters := dedupN (s.plm.startClusters ++ [k]) } })
/-- What the last run left to report (17 R517, R527, R529; 18 R538, R558). -/
def startReports (old : State) (image : Nat) (s : State) : State :=
  let s1 := if old.key.pendTamperEvent then raise 0x0E01 s.key.cause s.key.count 1 s else s
  let s2 := if s.key.latch then raise 0x0E01 s.key.cause s.key.count 2 s1 else s1
  let s3 := raise 0x0E07 image (if image ≠ s.key.preferred then 1 else 0) (if s.key.latch then 1 else 0) s2
  let s4 := abandonEntries s3
  let s5 := old.key.lostCommits.foldl (fun s n => recordEvent (evPkg 0x0E02 (n + 256 * 2) (kcvOf (slotSt s n).current) 0 n) s) s4
  let s6 := match old.pair.rekey with
    | some (n, c) => recordEvent (evSys 0x0B09 n c 1 n) (recordEvent (evPkg 0x0E02 (n + 256 * 2) (kcvOf (slotSt s5 n).current) 0 n) s5)
    | none => s5
  let s7 := s.bkd.pendEvents.foldl (fun s e => recordEvent e s) { s6 with bkd := { s6.bkd with pendEvents := [] } }
  if s.bkd.backupLost then raise 0x0F01 (rtcMtime s s.bkd.rtc).sec s.bkd.lossCell 0 s7 else s7
/-- The start-up sequence through READY (Table PWR-6). RESTRICTED is a fatal flag: the module enters FAILED (14 Tables PAIR-2
and PAIR-9). The known-answer tests of KENNEL run before any key is used (14 R450). -/
def startUp (image : Nat) (failedDies failedClusters : List Nat) (tests : StartTests) (s : State) : State :=
  let outran := tests.outran
  let first := decide (s.pwr.phase = .reset)
  let (ms, sA) := freeNat 4001 s
  let (n, sB) := if first then (0, sA) else freeNat (2 ^ 64) sA
  let sC := if first then sB else flushLosses outran sB
  let stop := if s.pwr.phase = .waiting then (if outran then 1 else s.pwr.lastStop) else 3
  let s1 := startTime (startState (rawMs ms) n sC)
  let s2 := { s1 with
    key := { s1.key with running := image, fallback := decide (image ≠ s1.key.preferred), restricted := s1.key.latch }
    pwr := { s1.pwr with phase := .running, lastStop := stop, flushOk := sC.evr.flushMark, tReady := ms, readyRaw := rawMs ms } }
  let s3 := startReports sC image (startRecorder first s2)
  let s4 := failedClusters.foldl failCluster (failedDies.foldl failDie s3)
  let s5 := raise 0x1002 stop ms image (setFlag 15 s4.key.restricted (setFlag 8 true s4))
  let s6 := clearPwrOn { s5 with cmd := { s5.cmd with ready := true }, hwi := { s5.hwi with barkN := true } }
  let s7 := every 6 0 0 (katResult tests.katOk) s6
  if s7.key.restricted then raiseFatal 15 s7 else s7
/-- A start that never comes to READY: BARK_N is asserted; the input is good, and PWR_FAIL_N is let go (R560, R571). -/
def deadStart (s : State) : State :=
  let s1 := releaseFail s
  { s1 with pwr := { s1.pwr with phase := .dead }, hwi := { s1.hwi with barkN := false } }
/-- POWER_GOOD: the input has held for 100 ms, and every driver of PWR_FAIL_N has let go (log entry 174). `aOk` and `bOk` say that the two stores read as they were written;
a module that finds none, or whose die 0 fails, never sets READY (R571). -/
def execPowerGood (aOk bOk : Bool) (failedDies failedClusters : List Nat) (tests : StartTests) (s : State) :
    Host.Outcome State Fault Refusal :=
  .next (match s.pwr.phase with
    | .running | .flushing => s
    | _ => match bootImage s aOk bOk with
      | some i => if failedDies.contains 0 then deadStart s
          else startUp i failedDies failedClusters tests s
      | none => deadStart s)

/-! ### Restore (R572, R573; 12 R395 to R397) -/

/-- What starts the restore: PWR_RESTORE_NOW (2), LOCKED (0), or 120 s after READY (1). -/
def restoreTrigger (s : State) : Option Nat :=
  if s.pwr.restoreAsked then some 2
  else if s.tim.state = .locked then some 0
  else if s.pwr.readyRaw + rawSec 120 ≤ s.tim.raw then some 1
  else none
/-- The kind of restart (12 R395): 1 warm, 2 cold, 3 cold with every task in STOP. -/
def restartKindFor (mode : Nat) (valid : Bool) : Nat :=
  match mode with
  | 0 => if valid then 1 else 2
  | 1 => 2
  | _ => if valid then 1 else 3
/-- A task after a restart: its object state and mode from MRAM, its tables fresh (12 R397); a cold restart with STOP puts
every task in STOP, and EV_LGC_MODE records each change (12 R395, R401). -/
def restoreTask (kind : Nat) (b : MTime) (acc : State × Nat) (t : Nat) : State × Nat :=
  let s := acc.1
  match taskImg s t with
  | none => acc
  | some g =>
    let kept := tgetD s.lgc.retainTasks t ({}, .run)
    let mode := if kind = 3 then .stop else kept.2
    let y := taskSt s t
    let (tb, n) := restartTables s t (decide (kind = 1)) g y.overrides
    let s1 := setTask t { y with o := kept.1, mode := mode, t := tb, lastRaw := none } s
    let s2 := if mode = kept.2 then s1 else recordEvent (evTask s1 t 0x0901 t (modeNum kept.2 + 256 * modeNum mode) 3) s1
    (if mode = .stop ∧ (kept.1.obj = .on ∨ kept.1.obj = .starting) then stopSignals t b s2 else s2, acc.2 + n)
/-- Signals after a restart, with forces kept by a warm one and released by a cold one (08 R251). -/
def restoreSignals (warm : Bool) (b : MTime) (s : State) : State × Nat :=
  let forces := s.sig.forces
  let s1 := { s with sig := { s.sig with forces := [], under := [], recs := [] } }
  let (s2, n) := (allSignals s.cfg).foldl (fun acc i => restartSig warm b i acc) (s1, 0)
  if warm then
    (forces.foldl (fun s f => if (sigDef s f.1).isSome then setForce f.1 f.2.1 f.2.2 b s else s) s2, n)
  else if forces.isEmpty then (s2, n)
  else (recordEvent (evAt b (evPkg 0x0605 0 2 forces.length 0)) s2, n)
/-- Place the restored configuration; an object without a place leaves nothing placed (11 R339). -/
def restorePlaces (s : State) : State :=
  match placeAfresh s with
  | .ok s1 => s1
  | .error e => evNoFit e s
/-- Every port runs the mode of its configuration. -/
def portModes (s : State) : State :=
  (List.range (Config.ports s.variant)).foldl (fun s p => setPort p { portSt s p with mode := modeOf (portCfg s p) } s) s
/-- Restore and restart (Table PWR-6, steps 6 and 7). -/
def restore (trigger : Nat) (bank : Option (Nat × Cfg)) (s : State) : State :=
  let gen := match bank with | some e => e.1 | none => 0
  let cfg := match bank with | some e => e.2 | none => Cfg.reset
  let b := now s
  let valid := bank.isSome && gen == s.lgc.retainGen && !s.lgc.retainOpen
  let kind := restartKindFor cfg.restartMode valid
  let s1 := withCfg { s with cmd := { s.cmd with gen := gen }, cycleNum := cycleOf cfg.cycleLen b, flt := { s.flt with heels := [] } } cfg
  let (s2, n) := restoreSignals (decide (kind = 1)) b s1
  let (s3, m) := (taskIds s2).foldl (restoreTask kind b) (s2, n)
  let s4 := recordEvent (evPkg 0x0906 (kind - 1) 0xFF m 0) s3
  let s5 := restorePlaces (portModes s4)
  let s6 := raise 0x1003 trigger gen kind { s5 with
    lgc := { s5.lgc with retainSigs := retainSigsNow s5, retainCtrs := retainCtrsNow s5, retainGen := gen, retainOpen := false, retainPending := 0 }
    pwr := { s5.pwr with restored := true, restartKind := kind, tRestore := s5.tim.raw / rawMs 1 } }
  initRows s6
/-- CONFIG_RESTORE: `storeOk` says that the stored configuration passes parity. -/
def execConfigRestore (storeOk : Bool) (s : State) : Host.Outcome State Fault Refusal :=
  .next (if s.pwr.phase ≠ .running ∨ s.pwr.restored = true ∨ s.key.restricted = true then s
    else match restoreTrigger s with
      | some t => restore t (if storeOk then markedBank s else none) s
      | none => s)

/-! ### Commands (R575 to R577) -/

/-- PWR_POLICY. -/
def pwrPolicyPacket (h : Hdr) (maxState : List Nat) : Packet :=
  configPacket h 0x1000 (fun _ => maxState.length == 12 && maxState.all (fun x => decide (x ≤ 3))) (.pwrPolicy maxState)
/-- PWR_POLICY. -/
def execPwrPolicy (h : Hdr) (maxState : List Nat) (s : State) : Host.Outcome State Fault Refusal :=
  .next (submit (.pwrPolicy h maxState) (pwrPolicyPacket h maxState) s)
/-- PWR_RESTART (R576). -/
def pwrRestartPacket (h : Hdr) (confirm : Nat) : Packet :=
  { h, opcode := 0x1040, pfOnly := true, restrictedOk := true,
    eff := fun _ s =>
      if confirm ≠ 0xA5 then failRes stFailed s
      else okRes { s with pwr := { s.pwr with restartBooked := some (s.pwr.restartBooked.getD (s.tim.raw + rawMs 100)) } } }
/-- PWR_RESTART. -/
def execPwrRestart (h : Hdr) (confirm : Nat) (s : State) : Host.Outcome State Fault Refusal :=
  .next (submit (.pwrRestart h confirm) (pwrRestartPacket h confirm) s)
/-- PWR_RESTORE_NOW (R577). -/
def pwrRestoreNowPacket (h : Hdr) : Packet :=
  { h, opcode := 0x1041, pfOnly := true,
    eff := fun _ s => okRes (if s.pwr.restored then s else { s with pwr := { s.pwr with restoreAsked := true } }) }
/-- PWR_RESTORE_NOW. -/
def execPwrRestoreNow (h : Hdr) (s : State) : Host.Outcome State Fault Refusal :=
  .next (submit (.pwrRestoreNow h) (pwrRestoreNowPacket h) s)
/-- PWR_STATUS (Table PWR-7). -/
def pwrWord (s : State) : Nat :=
  s.pwr.restartKind * 256 + s.pwr.lastStop * 16 + bbit s.pwr.flushOk 3 + bbit s.pwr.restored 2 + bbit s.pwr.ext 1 + bbit s.pwr.pfail 0
/-- PWR_STATUS. -/
def pwrStatusPacket (h : Hdr) : Packet :=
  { h, opcode := 0x1080, pfOnly := false,
    eff := fun _ s => .done stOk (resB 0 (pwrWord s) ||| resB 4 (inputMw s) ||| resB 8 s.pwr.tReady) s }
/-- PWR_STATUS. -/
def execPwrStatus (h : Hdr) (s : State) : Host.Outcome State Fault Refusal :=
  .next (submit (.pwrStatus h) (pwrStatusPacket h) s)

end Sys2Proof.Machine
end

