-- ==== Sys2Proof/Machine/Boundary.lean ====
section
/-! DEFINITION. The system-cycle boundary (01 R53, R54; 08 R243), the booked actions at their effect points (09 R298 to R301), and
TIM_STEP (03 R119, R120). -/
namespace Sys2Proof.Machine

/-! ### Booked actions (09 Table GRF-7) -/

/-- The effect of a booked action at `u` cycle units, with the status that its command would have returned. -/
def actionEffect (u : Nat) (e : SchedEntry) (s : State) : Nat × State :=
  if e.action ≤ 1 ∧ deniedGraph e.func (actionGraph e.action e.target) s = true then (stDenied, s)
  else match e.action with
  | 0 => (match tget s.cfg.graphs e.target with
    | some g => if e.arg0 < g.2.nsets then (stOk, takeGroup u e.target e.arg0 s) else (stFailed, s)
    | none => (stFailed, s))
  | 1 => enableById (e.target / 65536) (e.target % 65536) (e.arg0 == 1) e.jseq s
  | 3 => if keyRules s && !pairFollows s then (stDenied, s) else bookMode e.target e.arg0 1 s
  | 4 => let (s1, st) := portChange e.target (e.arg0 == 1) e.jseq s; (st, s1)
  | _ => (stFailed, s)
/-- An action executes at module time `t`: its entry goes, and EV_SCHED_EXEC records it (R298). -/
def runAction (u : Nat) (t : MTime) (h : Nat) (e : SchedEntry) (s : State) : State :=
  let (st, s1) := actionEffect u e { s with grf := { s.grf with sched := tdel s.grf.sched h } }
  evSchedExec h e ((mtimeNs t : Int) - (mtimeNs (secNs e.sec e.ns) : Int)) st s1
/-- Actions that take effect at a boundary and are due at `t`, in journal order. -/
def dueActions (t : MTime) (s : State) : List (Nat × SchedEntry) :=
  sortBy (fun a b => decide (a.2.jseq ≤ b.2.jseq)) (s.grf.sched.filter (fun e =>
    (e.2.action == 0 || e.2.action == 1 || e.2.action == 3) && (e.2.late || mle (secNs e.2.sec e.2.ns) t)))
/-- They execute. -/
def boundaryActions (u : Nat) (t : MTime) (s : State) : State :=
  foldSt (fun e s => runAction u t e.1 e.2 (noteAdmit (.command e.2.jseq 0x0741) s)) (dueActions t s) s
/-- A port action has come to its effect point: AT, or at once when AT was past at acceptance (R300). -/
def portDue (s : State) (e : SchedEntry) : Bool := e.action == 4 && (e.late || mle (secNs e.sec e.ns) (now s))
/-- The point at which a port action is due: AT, or its acceptance when AT was past there (R298, R300). -/
def portPoint (e : SchedEntry) : MTime := if e.late then e.accepted else secNs e.sec e.ns
/-- Port actions that take effect no later than one of them, in the order of their points and of the journal (R298). -/
def portsUpTo (s : State) (e : SchedEntry) : List (Nat × SchedEntry) :=
  let le (a b : SchedEntry) : Bool := mlt (portPoint a) (portPoint b) || (portPoint a == portPoint b && decide (a.jseq ≤ b.jseq))
  sortBy (fun a b => le a.2 b.2) (s.grf.sched.filter (fun x => portDue s x.2 && le x.2 e))
/-- SCHEDULE_EXEC: a port action reaches AT. The actions of a boundary or of a loop sample execute there (log entry 54). -/
def execScheduleExec (handle : Nat) (s : State) : Host.Outcome State Fault Refusal :=
  .next (match tget s.grf.sched handle with
    | some e => if s.pwr.phase = .running ∧ portDue s e = true then foldSt (fun x s => runAction 0 (now s) x.1 x.2 s) (portsUpTo s e) s else s
    | none => s)

/-! ### The retain writer (12 R396, 19 R563) -/

/-- Entries of a table that another does not hold as they are. -/
def changedIn {κ α : Type} [DecidableEq κ] [DecidableEq α] (old new : Tbl κ α) : Nat :=
  countBy (fun e => decide (tget old e.1 ≠ some e.2)) new
/-- Records that the writer can write in one cycle, at 1.2 GB/s and 32 bytes a record. -/
def retainRate (s : State) : Nat := 37500000 * s.cfg.cycleLen / unitsPerSec
/-- The retain writer takes a boundary's changed records; a mark that falls behind is recorded and counted once a second. -/
def retainBoundary (num : Nat) (s : State) : State :=
  if !s.pwr.restored then s
  else
    let sigs := retainSigsNow s
    let ctrs := retainCtrsNow s
    let left := s.lgc.retainPending + changedIn s.lgc.retainSigs sigs + changedIn s.lgc.retainCtrs ctrs - retainRate s
    let s1 := { s with lgc := { s.lgc with retainSigs := sigs, retainCtrs := ctrs, retainGen := s.cmd.gen, retainPending := left,
                                           retainOpen := decide (0 < left), retainCycle := if left = 0 then num else s.lgc.retainCycle } }
    if left = 0 then s1
    else
      let s2 := if (findWindow (closeOver 0x1005 0 s1) 0x1005 0).isNone then bump .pwrRetainLag s1 else s1
      raiseLimited 0 (evPkg 0x1005 (num - s.lgc.retainCycle) left 0 0) s2

/-! ### The boundary -/

/-- The boundary at `b`, in cycle units `u`, that opens cycle `num`: writes commit, forces apply, booked actions and booked changes
take effect, scans and CYCLE firings start, members are sampled, and the closed cycle is mirrored (08 R243). -/
def openCycle (num u : Nat) (b : MTime) (s : State) : State :=
  let before := s.sig.recs
  let s0 := logicOverruns (foldSt takeInner (List.range (Config.dies s.variant)) s)
  let s1 := { s0 with cycleNum := num, lgc := { s0.lgc with bound := b, boundRaw := s0.tim.raw, keyPos := keyPosition s0.lgc.runN s0.lgc.stopN } }
  let s2 := applyForces b (commitWrites num b s1)
  let s3 := boundaryActions u b (graphsOff b s2)
  let s4 := logicBoundary num b (taskMovesBoundary (graphsBoundary u s3))
  let s5 := publishBoundary b (placementBoundary (loopBoundary b s4))
  let s6 := cycleOperands num (keepPast num before s5)
  let s7 := keyBoundary b (pairBoundary num b s6)
  pruneRetained num (retainBoundary num (mirrorBoundary s7))
/-- SYSTEM_CYCLE_BOUNDARY: module time has come to another cycle than the one in progress (01 R53, R54). -/
def execSystemCycleBoundary (s : State) : Host.Outcome State Fault Refusal :=
  .next (
    let num := cycleOf s.cfg.cycleLen (now s)
    if s.pwr.phase ≠ .running ∨ num = s.cycleNum then s
    else openCycle num (s.cfg.cycleLen * num) (boundaryTime s.cfg.cycleLen num) s)

/-! ### TIM_STEP (03 R119, R120; 09 R301) -/

/-- The first whole second at or after an MTIME. -/
def secondFrom (m : MTime) : Nat := if m.ns = 0 ∧ m.frac = 0 then m.sec else m.sec + 1
/-- A stepped-over action executes at the step, or is dropped when it is strict (09 R301). -/
def steppedAction (e : Nat × SchedEntry) (s : State) : State :=
  if e.2.strict then
    recordEvent (evPkg 0x0705 (e.1 + 65536 * e.2.action) e.2.sec e.2.ns 0) { s with grf := { s.grf with sched := tdel s.grf.sched e.1 } }
  else if e.2.action = 2 then
    putSetpoint e.1 (if loopIdle s s.lop.nextSample then instantFrom (loopRate s) (now s) else s.lop.nextSample) e.2 s
  else runAction (cycleUnitsUp (now s)) (now s) e.1 e.2 s
/-- The actions whose AT lies between two times, in AT order. -/
def steppedOver (a b : MTime) (s : State) : List (Nat × SchedEntry) :=
  sortBy (fun x y => mlt (secNs x.2.sec x.2.ns) (secNs y.2.sec y.2.ns) || (secNs x.2.sec x.2.ns == secNs y.2.sec y.2.ns && decide (x.2.jseq ≤ y.2.jseq)))
    (s.grf.sched.filter (fun e => mle a (secNs e.2.sec e.2.ns) && mlt (secNs e.2.sec e.2.ns) b))
/-- A pending heel that is stepped over is past at the step (07 R228, 09 R301). -/
def steppedHeel (s : State) : State :=
  match s.flt.pending with
  | none => s
  | some p =>
    if mle (now s) (secNs p.sec p.ns) then s
    else
      let s1 := { s with flt := { s.flt with pending := none } }
      if p.strict then recordEvent (evPkg 0x0705 (0xFFFF + 65536 * 5) p.sec p.ns 0) s1
      else heelExec ((mtimeNs (now s) : Int) - (mtimeNs (secNs p.sec p.ns) : Int)) stLate (takeHeel (now s) p.clear (heelSrc p.src) s1)
/-- A commit whose second is stepped over takes force at the first whole second at or after the stepped time (R119). -/
def steppedCommits (s : State) : State :=
  { s with commits := s.commits.map (fun k => if mlt ⟨k.dueSec, 0, 0⟩ (now s) then { k with dueSec := secondFrom (now s) } else k) }
/-- The step by the servo offset, with the boundary that it adds. -/
def timStep (s : State) : State :=
  let t0 := now s
  let s1 := streamsStep (raise 0x0109 (ps (divZ s.tim.theta 1000)) 1 0 (stepOffset s.tim.theta s))
  let t1 := now s1
  let s2 := steppedHeel (foldSt steppedAction (steppedOver t0 t1 s1) (steppedCommits s1))
  openCycle (cycleOf s2.cfg.cycleLen t1) (cycleUnitsUp t1) t1 s2
/-- TIM_STEP_APPLY: module time reaches AT_SEC. The command completes with the step, or with ST_FAILED (R120). -/
def execTimStepApply (s : State) : Host.Outcome State Fault Refusal :=
  .next (match s.tim.step with
    | none => s
    | some b =>
      if (now s).sec < b.atSec then s
      else
        let s1 := { s with tim := { s.tim with step := none } }
        if (s.tim.state = .locked ∨ s.tim.state = .acquiring) ∧ 0 < s.tim.theta then
          completeCmd b.jseq stOk (resB 0 (ps (divZ s.tim.theta 1000))) (timStep s1)
        else completeCmd b.jseq stFailed 0 s1)

end Sys2Proof.Machine
end

