-- ==== Sys2Proof/Machine/Doorbell.lean ====
section
/-! DEFINITION. Doorbells and the queues they serve (02), the remaining commands of the general class, register accesses,
the takeover by the die 1 controller, and Bus Master Enable. -/
namespace Sys2Proof.Machine

/-! ### Queue pairs by command (R86, R87) -/

/-- Queue pairs that a function may create. -/
def pairRange (func qp : Nat) : Bool := decide (1 ≤ qp ∧ qp ≤ (if func = 0 then 15 else 1))
/-- The fields of QUEUE_CREATE are in their ranges (Table CMD-9). -/
def queueOk (func : Nat) (p : QueueParams) : Bool :=
  pairRange func p.qp && decide (4 ≤ p.sqLog2 ∧ p.sqLog2 ≤ p.cqLog2 ∧ p.cqLog2 ≤ 12)
    && decide (p.vector ≤ (if func = 0 then 63 else 3)) && decide (p.coalCount ≤ 4096)
    && (p.coalCount == 0 || decide (1 ≤ p.coalTime ∧ p.coalTime ≤ 65535))
    && decide (p.sqBase % 4096 = 0 ∧ p.cqBase % 4096 = 0)
/-- A new queue pair, with both rings empty. -/
def newQp (p : QueueParams) : Qp :=
  { sqLog2 := p.sqLog2, cqLog2 := p.cqLog2, vector := p.vector, coalCount := p.coalCount, coalTime := p.coalTime,
    sqBase := p.sqBase, cqBase := p.cqBase }
/-- QUEUE_CREATE. -/
def queueCreatePacket (h : Hdr) (p : QueueParams) : Packet :=
  { h, opcode := 0x0042, pfOnly := false,
    eff := fun _ s =>
      if queueOk h.func p = false ∨ thas s.cmd.qps (h.func, p.qp) = true then failRes stFailed s
      else okRes { s with cmd := { s.cmd with qps := tset s.cmd.qps (h.func, p.qp) (newQp p) } } }
/-- QUEUE_CREATE. -/
def execQueueCreate (h : Hdr) (p : QueueParams) (s : State) : Host.Outcome State Fault Refusal :=
  .next (submit (.queueCreate h p) (queueCreatePacket h p) s)
/-- QUEUE_DELETE. The packet itself is not yet completed: a pair cannot delete itself. -/
def queueDeletePacket (h : Hdr) (qp : Nat) : Packet :=
  { h, opcode := 0x0043, pfOnly := false,
    eff := fun _ s =>
      match tget s.cmd.qps (h.func, qp) with
      | none => failRes stFailed s
      | some x =>
        if !pairRange h.func qp then failRes stFailed s
        else if h.qp = qp ∨ 0 < ringWaiting x ∨ 0 < takenCount s h.func qp then failRes stBusy s
        else okRes (dropPairs h.func (fun q => q == qp) s) }
/-- QUEUE_DELETE. -/
def execQueueDelete (h : Hdr) (qp : Nat) (s : State) : Host.Outcome State Fault Refusal :=
  .next (submit (.queueDelete h qp) (queueDeletePacket h qp) s)
/-- NOP. -/
def nopPacket (h : Hdr) : Packet := { h, opcode := 0x0080, pfOnly := false, eff := fun _ s => okRes s }
/-- NOP. -/
def execNop (h : Hdr) (s : State) : Host.Outcome State Fault Refusal := .next (submit (.nop h) (nopPacket h) s)
/-- What IDENTIFY returns (Table CMD-8, R599). -/
def identity (s : State) : Result :=
  resB 0 (Config.dies s.variant) ||| resB 2 (Config.behaviourRev % 65536) ||| resB 4 ((fwImage s s.key.running).release % 2 ^ 32) ||| resB 8 s.cmd.gen
/-- IDENTIFY. -/
def identifyPacket (h : Hdr) : Packet := { h, opcode := 0x0081, pfOnly := false, eff := fun _ s => .done stOk (identity s) s }
/-- IDENTIFY. -/
def execIdentify (h : Hdr) (s : State) : Host.Outcome State Fault Refusal := .next (submit (.identify h) (identifyPacket h) s)

/-! ### Serving what waits in the rings (R64, R67 to R69) -/

/-- The packet that a command of the opcode index stands for. -/
def packetOf : Instr → Option Packet
  | .sysCycleSet h len => some (sysCycleSetPacket h len)
  | .configCommit h => some (configCommitPacket h)
  | .configAbort h => some (configAbortPacket h)
  | .queueCreate h p => some (queueCreatePacket h p)
  | .queueDelete h qp => some (queueDeletePacket h qp)
  | .nop h => some (nopPacket h)
  | .identify h => some (identifyPacket h)
  | .timPtpConfig h p => some (timPtpConfigPacket h p)
  | .timAsymSet h p => some (timAsymSetPacket h p)
  | .timThreshSet h p => some (timThreshSetPacket h p)
  | .acceptPath h lan => some (acceptPathPacket h lan)
  | .timStep h atSec => some (timStepPacket h atSec)
  | .timStatus h => some (timStatusPacket h)
  | .netPortConfig h port p => some (netPortConfigPacket h port p)
  | .netMgmtConfig h mport p => some (netMgmtConfigPacket h mport p)
  | .netPortEnable h port enable => some (netPortEnablePacket h port enable)
  | .netPortStatus h port => some (netPortStatusPacket h port)
  | .swcQueueConfig h p => some (swcQueueConfigPacket h p)
  | .swcMcastSet h die index e => some (swcMcastSetPacket h die index e)
  | .swcPortFwd h port p => some (swcPortFwdPacket h port p)
  | .swcAging h age ddAge => some (swcAgingPacket h age ddAge)
  | .swcLearnFlush h port => some (swcLearnFlushPacket h port)
  | .swcMcastRead h die index => some (swcMcastReadPacket h die index)
  | .swcLookup h die port mac vid => some (swcLookupPacket h die port mac vid)
  | .svSubscribe h stream c => some (svSubscribePacket h stream c)
  | .svUnsubscribe h stream => some (svUnsubscribePacket h stream)
  | .svStreamEnable h stream enable => some (svStreamEnablePacket h stream enable)
  | .svResync h stream => some (svResyncPacket h stream)
  | .svStreamRead h stream => some (svStreamReadPacket h stream)
  | .fltChainSet h chain valid p => some (fltChainSetPacket h chain valid p)
  | .fltHeelPin h pinEn pinClear => some (fltHeelPinPacket h pinEn pinClear)
  | .fltHeel h atSec atNs clear => some (fltHeelPacket h atSec atNs clear)
  | .fltChainRead h chain => some (fltChainReadPacket h chain)
  | .sigDefine h entries => some (sigDefinePacket h entries)
  | .sigGsSubscribe h ctx c => some (sigGsSubscribePacket h ctx c)
  | .sigGpDefine h ctx c => some (sigGpDefinePacket h ctx c)
  | .sigSvpDefine h stream c => some (sigSvpDefinePacket h stream c)
  | .sigSharedId h mac => some (sigSharedIdPacket h mac)
  | .sigWrite h p => some (sigWritePacket h p)
  | .sigForce h p => some (sigForcePacket h p)
  | .sigGsEnable h ctx enable => some (sigGsEnablePacket h ctx enable)
  | .sigGpEnable h ctx enable => some (sigGpEnablePacket h ctx enable)
  | .sigRead h id count under buf => some (sigReadPacket h id count under buf)
  | .grfGraphLoad h image keySlot img => some (grfGraphLoadPacket h image keySlot img)
  | .grfGraphUnload h graph => some (grfGraphUnloadPacket h graph)
  | .grfEnable h type enable id => some (grfEnablePacket h type enable id)
  | .schedule h p => some (schedulePacket h p)
  | .scheduleCancel h handle => some (scheduleCancelPacket h handle)
  | .grfSettingGroup h graph group => some (grfSettingGroupPacket h graph group)
  | .grfGraphRead h graph => some (grfGraphReadPacket h graph)
  | .scheduleRead h handle => some (scheduleReadPacket h handle)
  | .grfShareRead h func => some (grfShareReadPacket h func)
  | .plmGroupSet h group valid p => some (plmGroupSetPacket h group valid p)
  | .plmOwnerDies h func dies => some (plmOwnerDiesPacket h func dies)
  | .plmPolicy h placeLimit consolidate deferWarn => some (plmPolicyPacket h placeLimit consolidate deferWarn)
  | .plmFreeze h enable => some (plmFreezePacket h enable)
  | .plmMapRead h type first count buf => some (plmMapReadPacket h type first count buf)
  | .lgcTaskDefine h image keySlot valid task img => some (lgcTaskDefinePacket h image keySlot valid task img)
  | .lgcConfig h modeSrc restartMode => some (lgcConfigPacket h modeSrc restartMode)
  | .lgcEnable h task enable => some (lgcEnablePacket h task enable)
  | .lgcMode h task mode => some (lgcModePacket h task mode)
  | .lgcStep h task => some (lgcStepPacket h task)
  | .lgcValueWrite h p => some (lgcValueWritePacket h p)
  | .lgcOnlineLoad h image p img => some (lgcOnlineLoadPacket h image p img)
  | .lgcOnlineSwitch h cancel => some (lgcOnlineSwitchPacket h cancel)
  | .lgcRestart h task kind => some (lgcRestartPacket h task kind)
  | .lgcTaskRead h task => some (lgcTaskReadPacket h task)
  | .loopConfig h p => some (loopConfigPacket h p)
  | .loopEnable h enable => some (loopEnablePacket h enable)
  | .loopCoefWrite h index value => some (loopCoefWritePacket h index value)
  | .loopRead h => some (loopReadPacket h)
  | .pairConfig h p => some (pairConfigPacket h p)
  | .pairRelinquish h => some (pairRelinquishPacket h)
  | .pairLeashRekey h slot atCycle => some (pairLeashRekeyPacket h slot atCycle)
  | .pairStatus h => some (pairStatusPacket h)
  | .pairHealthRead h buf => some (pairHealthReadPacket h buf)
  | .vfnPolicy h fraction => some (vfnPolicyPacket h fraction)
  | .vfnVfConfig h vf prot => some (vfnVfConfigPacket h vf prot)
  | .vfEnable h vf enable => some (vfEnablePacket h vf enable)
  | .vfQuiesce h vf => some (vfQuiescePacket h vf)
  | .vfResume h vf => some (vfResumePacket h vf)
  | .vfShareSet h vf res grant => some (vfShareSetPacket h vf res grant)
  | .vfCustodyReturn h vf => some (vfCustodyReturnPacket h vf)
  | .vfLatencySet h func tol => some (vfLatencySetPacket h func tol)
  | .vfStatus h vf buf => some (vfStatusPacket h vf buf)
  | .evrClear h upto => some (evrClearPacket h upto)
  | .evrMark h p1 p2 p3 => some (evrMarkPacket h p1 p2 p3)
  | .evrRead h first count buf => some (evrReadPacket h first count buf)
  | .keyConfig h extEn rollMs => some (keyConfigPacket h extEn rollMs)
  | .keyImport h slot buf imp => some (keyImportPacket h slot buf imp)
  | .keyLoad h slot blob => some (keyLoadPacket h slot blob)
  | .keyGenerate h p => some (keyGeneratePacket h p)
  | .keyVerify h slot mode kcv run => some (keyVerifyPacket h slot mode kcv run)
  | .keyCommit h slot atCycle => some (keyCommitPacket h slot atCycle)
  | .keyDiscard h slot which => some (keyDiscardPacket h slot which)
  | .keyAttest h slot signer p buf => some (keyAttestPacket h slot signer p buf)
  | .keyFwWrite h offset data => some (keyFwWritePacket h offset data)
  | .keyFwActivate h => some (keyFwActivatePacket h)
  | .keyRollbackAdvance h level => some (keyRollbackAdvancePacket h level)
  | .keyTamperClear h kind sign => some (keyTamperClearPacket h kind sign)
  | .keyRecoverySet h point => some (keyRecoverySetPacket h point)
  | .keySlotRead h slot => some (keySlotReadPacket h slot)
  | .keyIdentityRead h buf => some (keyIdentityReadPacket h buf)
  | .bkdConfig h trimEn alignEn => some (bkdConfigPacket h trimEn alignEn)
  | .bkdRtcHalt h => some (bkdRtcHaltPacket h)
  | .bkdRtcHaltRelease h => some (bkdRtcHaltReleasePacket h)
  | .bkdRtcWrite h c => some (bkdRtcWritePacket h c)
  | .bkdAlarmSet h c enable => some (bkdAlarmSetPacket h c enable)
  | .bkdPwrOnReq h delay => some (bkdPwrOnReqPacket h delay)
  | .bkdRtcRead h => some (bkdRtcReadPacket h)
  | .pwrPolicy h maxState => some (pwrPolicyPacket h maxState)
  | .pwrRestart h confirm => some (pwrRestartPacket h confirm)
  | .pwrRestoreNow h => some (pwrRestoreNowPacket h)
  | .pwrStatus h => some (pwrStatusPacket h)
  | _ => none
/-- The packet that waits in a ring: a command's, or one whose opcode no row names (R71, R82). -/
def heldPacket : Instr → Option Packet
  | .cmdSqTail func qp ⟨_, b :: _⟩ => some (unknownPacket func qp b)
  | i => packetOf i

/-- The first packet that waits in the ring of a queue pair. -/
def firstHeld (f q : Nat) (l : List Instr) : Option Instr :=
  l.find? (fun i => match heldHdr i with | some h => h.func == f && h.qp == q | none => false)
/-- Each of a list once. -/
def dedupP (l : List (Nat × Nat)) : List (Nat × Nat) := l.foldl (fun a p => if a.contains p then a else a ++ [p]) []
/-- The queue pairs that hold packets and can be served, each once. -/
def readyPairs (s : State) : List (Nat × Nat) :=
  dedupP ((s.cmd.held.filterMap heldHdr).filterMap (fun h => if canTake s h.func h.qp then some (h.func, h.qp) else none))
/-- Order of the queue pairs in the round. DESIGN CHOICE (log entry 117): R68 says round-robin and gives no order of the pairs;
the model goes by function and then by pair number, from the pair after the last one served, (0, 0) counting as served first. -/
def pairBefore (a b : Nat × Nat) : Bool := decide (a.1 < b.1 ∨ (a.1 = b.1 ∧ a.2 ≤ b.2))
/-- The next queue pair of the round after the last one served. -/
def nextPair (last : Nat × Nat) (l : List (Nat × Nat)) : Option (Nat × Nat) :=
  let o := sortBy pairBefore l
  match o.find? (fun p => !pairBefore p last) with
  | some p => some p
  | none => o.head?
/-- Take a waiting packet out of its ring and serve it. -/
def serveFirst (f q : Nat) (s : State) : State :=
  match firstHeld f q s.cmd.held with
  | none => s
  | some i =>
    let s1 := { s with cmd := { s.cmd with held := s.cmd.held.erase i } }
    match heldPacket i with
    | some p => takeServe p s1
    | none => s1
/-- Serve packets one at a time, round the queue pairs, until none can be taken. -/
def serveGo : Nat → State → State
  | 0, s => s
  | fuel + 1, s =>
    match nextPair s.cmd.rrLast (readyPairs s) with
    | some (f, q) => serveGo fuel (serveFirst f q s)
    | none => s
/-- The controller serves what it can take (R68). -/
def serveHeld (s : State) : State := serveGo s.cmd.held.length s

/-- VF_RESUME: the VF is OPEN, and its kept doorbells are served (15 R468). -/
def execVfResume (h : Hdr) (vf : Nat) (s : State) : Host.Outcome State Fault Refusal :=
  .next (serveHeld (submit (.vfResume h vf) (vfResumePacket h vf) s))

/-! ### Register writes that act (Table CMD-1) -/

/-- The registers of a function can be reached. -/
def regsOf (s : State) (func : Nat) : Bool := mainGood s && funcExists s func
/-- Place a packet that no row names behind the others of its ring (R64, R71); a packet that a row names is that row's. -/
def placeUnknown (func qp : Nat) (b : Bytes) (s : State) : State :=
  if knownOpcode (opcodeOf b) && !haltOutside b then s else submit (.cmdSqTail func qp ⟨0, [b]⟩) (unknownPacket func qp b) s
/-- A write of CMD_SQ_TAIL that names the packets placed in the ring: what can be taken is served. The write's packets are those whose
opcode no row names, as the ring holds them (R71). Any other value is a host error, which is ignored (R96). -/
def execCmdSqTail (func qp : Nat) (w : TailWrite) (s : State) : Host.Outcome State Fault Refusal :=
  .next (
    let s1 := foldSt (placeUnknown func qp) w.packets s
    match tget s1.cmd.qps (func, qp) with
    | none => s
    | some x => if heard s func qp = true ∧ w.tail = x.sqTail then serveHeld s1 else s)
/-- Release the first `n` completions of a queue pair. -/
def releaseCpls (f q : Nat) : Nat → List Completion → List Completion
  | _, [] => []
  | n, c :: l => if 0 < n ∧ c.func = f ∧ c.qp = q then releaseCpls f q (n - 1) l else c :: releaseCpls f q n l
/-- A write of CMD_CQ_HEAD releases completions up to the head, and taking resumes (R67). -/
def execCmdCqHead (func qp head : Nat) (s : State) : Host.Outcome State Fault Refusal :=
  .next (match tget s.cmd.qps (func, qp) with
    | none => s
    | some x =>
      let depth := 2 ^ x.cqLog2
      let n := (head + depth - x.cqHead) % depth
      if !heard s func qp ∨ depth ≤ head ∨ unreleased s func qp < n then s
      else serveHeld { s with cmd := { s.cmd with
        cpls := releaseCpls func qp n s.cmd.cpls
        qps := tset s.cmd.qps (func, qp) { x with cqHead := head } } })
/-- The settings of queue pair 0 let EN become 1 (R62). -/
def aqOk (a : Aq) : Bool :=
  decide (4 ≤ a.sqLog2 ∧ a.sqLog2 ≤ a.cqLog2 ∧ a.cqLog2 ≤ 12 ∧ a.sqBase % 4096 = 0 ∧ a.cqBase % 4096 = 0)
/-- A write of CMD_AQ_CTRL with EN 1 (R62); a VF in RESETTING takes none, and comes out of it with the pair not enabled (15 R471). -/
def execQueuePair0Enable (func sqLog2 cqLog2 : Nat) (s : State) : Host.Outcome State Fault Refusal :=
  .next (
    let a := aqOf s func
    if regsOf s func = false ∨ funcBusy func s = true ∨ a.en = true ∨ a.releasing = true then s
    else
      let b := { a with sqLog2 := sqLog2 % 16, cqLog2 := cqLog2 % 16 }
      let ok := aqOk b
      let s1 := { s with cmd := { s.cmd with aq := tset s.cmd.aq func { b with en := ok } } }
      let q := newQp ⟨0, b.sqLog2, b.cqLog2, 0, 0, 0, b.sqBase, b.cqBase⟩
      if ok then { s1 with cmd := { s1.cmd with qps := tset s1.cmd.qps (func, 0) q } } else s1)
/-- A write of EN 0: no packet is taken any more, and those behind the last one taken are never read (R63). -/
def execQueuePair0Disable (func : Nat) (s : State) : Host.Outcome State Fault Refusal :=
  .next (
    let a := aqOf s func
    if regsOf s func = false ∨ a.en = false then s
    else { s with cmd := { s.cmd with
      aq := tset s.cmd.aq func { a with en := false, releasing := true }
      held := s.cmd.held.filter (fun i => !heldIn func (fun q => q == 0) i) } })
/-- Every packet taken from queue pair 0 has completed and is posted: its memory is released (R63). -/
def execQueueReleaseDone (func : Nat) (s : State) : Host.Outcome State Fault Refusal :=
  .next (
    let a := aqOf s func
    if a.releasing = true ∧ takenCount s func 0 = 0 then
      dropPairs func (fun q => q == 0) { s with cmd := { s.cmd with aq := tset s.cmd.aq func { a with releasing := false } } }
    else s)
/-- A write of CMD_JNL_CURSOR (R93). -/
def execCmdJnlCursor (func : Nat) (seq : U64) (s : State) : Host.Outcome State Fault Refusal :=
  .next (if regsOf s func then { s with cmd := { s.cmd with cursor := tset s.cmd.cursor func seq } } else s)
/-- What a slot of CMD_JNL_WIN shows a function: its entry, nothing outside the journal, and only SEQ of an entry that a VF
does not own (R93, R94). -/
def jnlShown (s : State) (func seq : Nat) : Option JEntry :=
  if seq < s.cmd.jnlOldest ∨ s.cmd.jnlNext ≤ seq then none
  else match tget s.cmd.jnl (seq % jnlSize) with
    | some e =>
      if e.seq ≠ seq then none
      else if func = 0 ∨ e.func = func then some e
      else some { seq := e.seq, gen := 0, tag := 0, opcode := 0, func := 0, qp := 0, jflags := 0, status := 0, accept := 0, done := 0 }
    | none => none
/-- CMD_JNL_WIN of a function. -/
def jnlWindow (s : State) (func : Nat) : List (Option JEntry) :=
  (List.range 16).map (fun i => jnlShown s func ((tgetD s.cmd.cursor func 0).toNat + i))

/-! ### Counters and plain registers (00 R13 to R16) -/

/-- The counter as a read finds it: the residency of the state in force runs to the moment of the read. -/
def settleCtr (c : Ctr) (s : State) : State :=
  match c with
  | .pwrResid die dom st => if hasDie s die ∧ dom ≤ 11 ∧ (domainSt s die dom).1 = st then setDomain die dom st s else s
  | _ => s
/-- What a counter restarts from when a read clears it: the pool peak from the use at the read (05 Table SWC-4), any other
from zero. -/
def restartOf (c : Ctr) (s : State) : U64 :=
  match c with
  | .swcPoolPeak die => BitVec.ofNat 64 (poolUsed s die)
  | _ => 0
/-- Clear a counter at a read; what was read stays counted for the health report (14 R451). -/
def clearCtr (c : Ctr) (s : State) : State :=
  { s with counters := tset s.counters c (restartOf c s), pair := { s.pair with cumul := tmod s.pair.cumul c 0 (· + (cval s c).toNat) } }
/-- A read of an RC counter (R16). -/
def readCtr (c : Ctr) (acc : RcAccess) (s : State) : State :=
  match acc with
  | .whole => clearCtr c { s with readOut := cval s c }
  | .lowWord => clearCtr c { s with readOut := (cval s c).setWidth 32 |>.setWidth 64,
                                    latches := tset s.latches c ((cval s c).extractLsb' 32 32) }
  | .highWord => { s with readOut := (tgetD s.latches c 0).setWidth 64 }
/-- A counter of a stream whose context is not defined is not shown: it reads as zero (06 R207). -/
def ctrShown (s : State) (c : Ctr) : Bool :=
  match c with
  | .svi n _ => (svCtx s n).isSome
  | _ => true
/-- RC_COUNTER_READ. -/
def execRcCounterRead (c : Ctr) (acc : RcAccess) (s : State) : Host.Outcome State Fault Refusal :=
  .next (if !mainGood s then s
    else if ctrShown s c then readCtr c acc (settleCtr c s)
    else match acc with
      | .lowWord => { s with readOut := 0, latches := tset s.latches c 0 }
      | _ => { s with readOut := 0 })

/-- Write one field of queue pair 0's registers, while EN and RELEASING are 0 (R62). -/
def writeAq (func : Nat) (f : Aq → Aq) (s : State) : State :=
  let a := aqOf s func
  if regsOf s func = false ∨ a.en = true ∨ a.releasing = true then s
  else { s with cmd := { s.cmd with aq := tset s.cmd.aq func (f a) } }
/-- A 64-bit register with one of its halves written (R60). -/
def setHalf (high : Bool) (old v : Nat) : Nat := if high then v % 2 ^ 32 * 2 ^ 32 + old % 2 ^ 32 else old / 2 ^ 32 * 2 ^ 32 + v % 2 ^ 32
/-- A selector of a die's window, where the variant has the die (R59). -/
def writeSel (s : State) (die : Nat) (t : Tbl Nat Nat) (v : Nat) : Tbl Nat Nat := if hasDie s die then tset t die v else t
/-- What a plain write sets. -/
def writeReg (r : PlainReg) (v : Nat) (s : State) : State :=
  match r with
  | .aqSqBase f => writeAq f (fun a => { a with sqBase := v }) s
  | .aqCqBase f => writeAq f (fun a => { a with cqBase := v }) s
  | .aqDepths f => writeAq f (fun a => { a with sqLog2 := v % 16, cqLog2 := v / 256 % 16 }) s
  | .sviCtxSel d => { s with svi := { s.svi with ctxSel := writeSel s d s.svi.ctxSel (v % 1024) } }
  | .fltChainSel d => { s with flt := { s.flt with chainSel := writeSel s d s.flt.chainSel (v % 8192) } }
  | .sigGsSel d => { s with sig := { s.sig with gsSel := writeSel s d s.sig.gsSel (v % 4096) } }
  | .sigGpSel d => { s with sig := { s.sig with gpSel := writeSel s d s.sig.gpSel (v % 1024) } }
  | .grfNodeSel => { s with grf := { s.grf with nodeSel := v % 32768 } }
  | .lgcTaskSel => { s with lgc := { s.lgc with taskSel := v % 64 } }
  | .vfnSel => { s with vfn := { s.vfn with sel := v % 256 } }
  | .keySlotSel => { s with key := { s.key with slotSel := v % 256 } }
  | .pwrDomSel d => { s with pwr := { s.pwr with domSel := writeSel s d s.pwr.domSel (v % 16) } }
  | .aqSqBaseHalf f hi => writeAq f (fun a => { a with sqBase := setHalf hi a.sqBase v }) s
  | .aqCqBaseHalf f hi => writeAq f (fun a => { a with cqBase := setHalf hi a.cqBase v }) s
  | .jnlCursorHalf f hi => if regsOf s f then
      { s with cmd := { s.cmd with cursor := tset s.cmd.cursor f (BitVec.ofNat 64 (setHalf hi (tgetD s.cmd.cursor f 0).toNat v)) } } else s
  | .evrCursorHalf hi => { s with evr := { s.evr with cursor := BitVec.ofNat 64 (setHalf hi s.evr.cursor.toNat v) } }
  | .readOnly _ => s
/-- REGISTER_WRITE: RW fields take the value, reserved bits and read-only offsets ignore it. -/
def execRegisterWrite (r : PlainReg) (value : U64) (s : State) : Host.Outcome State Fault Refusal :=
  .next (if mainGood s then writeReg r value.toNat s else s)

/-! ### Interrupts, the controllers, and the bus -/

/-- COALESCE_TIME after the first unsignalled completion (R70). -/
def execCoalesceTimeout (func qp : Nat) (s : State) : Host.Outcome State Fault Refusal :=
  .next (match tget s.cmd.qps (func, qp) with
    | none => s
    | some x =>
      if busMasterOn s func ∧ 0 < x.coalCount ∧ 0 < x.unsignalled ∧ x.firstUnsig + rawUs x.coalTime ≤ s.tim.raw then
        msixRaise func x.vector { s with cmd := { s.cmd with qps := tset s.cmd.qps (func, qp) { x with unsignalled := 0 } } }
      else s)

/-- What waiting commands have booked goes, since a command that fails has changed nothing (R83). -/
def dropWaiting (s0 : State) : State :=
  let s := dropGroups (fun _ => true) s0
  let s1 := foldSt (fun e s => if (vfSt s e.1).quiesceCmd.isSome
      then changeVf e.1 0 { vfSt s e.1 with admission := .open_, quiesceCmd := none } s else s) s.vfn.vfs s
  { s1 with
    tim := { s1.tim with step := none }
    pair := { s1.pair with relinquish := none }
    key := { s1.key with activate := none, slots := s1.key.slots.map (fun e => (e.1, { e.2 with booked := none })) } }
/-- Every command accepted and not completed completes with ST_FAILED (R39, R91). -/
def failWaiting (s : State) : State :=
  let open_ := s.cmd.outst.filter (fun o => o.done.isNone)
  foldSt (fun o s => completeCmd o.jseq stFailed 0 s) open_ (dropWaiting (if s.pair.relinquish.isSome then setFlag 1 false s else s))
/-- The records that the new controller cannot read are lost with their SEQ (16 R489). -/
def loseStaged (s : State) : State :=
  match s.evr.staging.head?, s.evr.staging.getLast? with
  | some a, some b =>
    reportLoss (recordEvent (evPkg 0x0D02 1 a.seq b.seq 0)
      (bumpBy .evrLost s.evr.staging.length { s with evr := { s.evr with staging := [], durable := s.evr.next } }))
  | _, _ => s
/-- CONTROLLER_TAKEOVER: the die 1 controller takes over (01 R38, R39; 02 R69; 16 R489). -/
def execControllerTakeover (die0Answers : Bool) (s : State) : Host.Outcome State Fault Refusal :=
  .next (if s.pwr.phase ≠ .running ∨ s.cmd.ctrlDie = 1 ∨ s.hwi.dieFaults.contains 1 = true then s
    else
      let s1 := if die0Answers then s else loseStaged s
      let s2 := failWaiting { s1 with cmd := { s1.cmd with ctrlDie := 1 } }
      serveHeld (raise 0x0001 1 s2.cmd.jnlNext 0 s2))

/-- A change of Bus Master Enable; set again, what has completed meanwhile is posted and the kept doorbells are served (15 R461). -/
def execBusMasterEnable (func : Nat) (on : Bool) (s : State) : Host.Outcome State Fault Refusal :=
  .next (
    let s1 := { s with cmd := { s.cmd with busMaster := tset s.cmd.busMaster func on } }
    if on then serveHeld (flushOutst s1) else s1)

end Sys2Proof.Machine
end

