-- ==== Sys2Proof/Machine/Dispatch.lean ====
section
/-! DEFINITION. What each command does: one arm per constructor of Instr, one direct call of its meaning. -/
namespace Sys2Proof.Machine

/-- The command's effect on everything but the queue of waiting commands. -/
def exec (i : Instr) (s : State) : Host.Outcome State Fault Refusal :=
  match i with
  | .sysCycleSet h len => Sys2Proof.Machine.execSysCycleSet h len s
  | .configCommit h => Sys2Proof.Machine.execConfigCommit h s
  | .configAbort h => Sys2Proof.Machine.execConfigAbort h s
  | .queueCreate h p => Sys2Proof.Machine.execQueueCreate h p s
  | .queueDelete h qp => Sys2Proof.Machine.execQueueDelete h qp s
  | .nop h => Sys2Proof.Machine.execNop h s
  | .identify h => Sys2Proof.Machine.execIdentify h s
  | .timPtpConfig h p => Sys2Proof.Machine.execTimPtpConfig h p s
  | .timAsymSet h p => Sys2Proof.Machine.execTimAsymSet h p s
  | .timThreshSet h p => Sys2Proof.Machine.execTimThreshSet h p s
  | .acceptPath h lan => Sys2Proof.Machine.execAcceptPath h lan s
  | .timStep h atSec => Sys2Proof.Machine.execTimStep h atSec s
  | .timStepApply => Sys2Proof.Machine.execTimStepApply s
  | .timStatus h => Sys2Proof.Machine.execTimStatus h s
  | .netPortConfig h port p => Sys2Proof.Machine.execNetPortConfig h port p s
  | .netMgmtConfig h mport p => Sys2Proof.Machine.execNetMgmtConfig h mport p s
  | .netPortEnable h port enable => Sys2Proof.Machine.execNetPortEnable h port enable s
  | .netPortStatus h port => Sys2Proof.Machine.execNetPortStatus h port s
  | .swcQueueConfig h p => Sys2Proof.Machine.execSwcQueueConfig h p s
  | .swcMcastSet h die index e => Sys2Proof.Machine.execSwcMcastSet h die index e s
  | .swcPortFwd h port p => Sys2Proof.Machine.execSwcPortFwd h port p s
  | .swcAging h age ddAge => Sys2Proof.Machine.execSwcAging h age ddAge s
  | .swcLearnFlush h port => Sys2Proof.Machine.execSwcLearnFlush h port s
  | .swcMcastRead h die index => Sys2Proof.Machine.execSwcMcastRead h die index s
  | .swcLookup h die port mac vid => Sys2Proof.Machine.execSwcLookup h die port mac vid s
  | .svSubscribe h stream c => Sys2Proof.Machine.execSvSubscribe h stream c s
  | .svUnsubscribe h stream => Sys2Proof.Machine.execSvUnsubscribe h stream s
  | .svStreamEnable h stream enable => Sys2Proof.Machine.execSvStreamEnable h stream enable s
  | .svResync h stream => Sys2Proof.Machine.execSvResync h stream s
  | .svStreamRead h stream => Sys2Proof.Machine.execSvStreamRead h stream s
  | .fltChainSet h chain valid p => Sys2Proof.Machine.execFltChainSet h chain valid p s
  | .fltHeelPin h pinEn pinClear => Sys2Proof.Machine.execFltHeelPin h pinEn pinClear s
  | .fltHeel h atSec atNs clear => Sys2Proof.Machine.execFltHeel h atSec atNs clear s
  | .fltChainRead h chain => Sys2Proof.Machine.execFltChainRead h chain s
  | .sigDefine h entries => Sys2Proof.Machine.execSigDefine h entries s
  | .sigGsSubscribe h ctx c => Sys2Proof.Machine.execSigGsSubscribe h ctx c s
  | .sigGpDefine h ctx c => Sys2Proof.Machine.execSigGpDefine h ctx c s
  | .sigSvpDefine h stream c => Sys2Proof.Machine.execSigSvpDefine h stream c s
  | .sigSharedId h mac => Sys2Proof.Machine.execSigSharedId h mac s
  | .sigWrite h p => Sys2Proof.Machine.execSigWrite h p s
  | .sigForce h p => Sys2Proof.Machine.execSigForce h p s
  | .sigGsEnable h ctx enable => Sys2Proof.Machine.execSigGsEnable h ctx enable s
  | .sigGpEnable h ctx enable => Sys2Proof.Machine.execSigGpEnable h ctx enable s
  | .sigRead h id count under buf => Sys2Proof.Machine.execSigRead h id count under buf s
  | .grfGraphLoad h image keySlot img => Sys2Proof.Machine.execGrfGraphLoad h image keySlot img s
  | .grfGraphUnload h graph => Sys2Proof.Machine.execGrfGraphUnload h graph s
  | .grfEnable h type enable id => Sys2Proof.Machine.execGrfEnable h type enable id s
  | .schedule h p => Sys2Proof.Machine.execSchedule h p s
  | .scheduleCancel h handle => Sys2Proof.Machine.execScheduleCancel h handle s
  | .grfSettingGroup h graph group => Sys2Proof.Machine.execGrfSettingGroup h graph group s
  | .grfGraphRead h graph => Sys2Proof.Machine.execGrfGraphRead h graph s
  | .scheduleRead h handle => Sys2Proof.Machine.execScheduleRead h handle s
  | .grfShareRead h func => Sys2Proof.Machine.execGrfShareRead h func s
  | .plmGroupSet h group valid p => Sys2Proof.Machine.execPlmGroupSet h group valid p s
  | .plmOwnerDies h func dies => Sys2Proof.Machine.execPlmOwnerDies h func dies s
  | .plmPolicy h placeLimit consolidate deferWarn => Sys2Proof.Machine.execPlmPolicy h placeLimit consolidate deferWarn s
  | .plmFreeze h enable => Sys2Proof.Machine.execPlmFreeze h enable s
  | .plmMapRead h type first count buf => Sys2Proof.Machine.execPlmMapRead h type first count buf s
  | .lgcTaskDefine h image keySlot valid task img => Sys2Proof.Machine.execLgcTaskDefine h image keySlot valid task img s
  | .lgcConfig h modeSrc restartMode => Sys2Proof.Machine.execLgcConfig h modeSrc restartMode s
  | .lgcEnable h task enable => Sys2Proof.Machine.execLgcEnable h task enable s
  | .lgcMode h task mode => Sys2Proof.Machine.execLgcMode h task mode s
  | .lgcStep h task => Sys2Proof.Machine.execLgcStep h task s
  | .lgcValueWrite h p => Sys2Proof.Machine.execLgcValueWrite h p s
  | .lgcOnlineLoad h image p img => Sys2Proof.Machine.execLgcOnlineLoad h image p img s
  | .lgcOnlineSwitch h cancel => Sys2Proof.Machine.execLgcOnlineSwitch h cancel s
  | .lgcRestart h task kind => Sys2Proof.Machine.execLgcRestart h task kind s
  | .lgcTaskRead h task => Sys2Proof.Machine.execLgcTaskRead h task s
  | .loopConfig h p => Sys2Proof.Machine.execLoopConfig h p s
  | .loopEnable h enable => Sys2Proof.Machine.execLoopEnable h enable s
  | .loopCoefWrite h index value => Sys2Proof.Machine.execLoopCoefWrite h index value s
  | .loopRead h => Sys2Proof.Machine.execLoopRead h s
  | .pairConfig h p => Sys2Proof.Machine.execPairConfig h p s
  | .pairRelinquish h => Sys2Proof.Machine.execPairRelinquish h s
  | .pairLeashRekey h slot atCycle => Sys2Proof.Machine.execPairLeashRekey h slot atCycle s
  | .pairStatus h => Sys2Proof.Machine.execPairStatus h s
  | .pairHealthRead h buf => Sys2Proof.Machine.execPairHealthRead h buf s
  | .vfnPolicy h fraction => Sys2Proof.Machine.execVfnPolicy h fraction s
  | .vfnVfConfig h vf prot => Sys2Proof.Machine.execVfnVfConfig h vf prot s
  | .vfEnable h vf enable => Sys2Proof.Machine.execVfEnable h vf enable s
  | .vfQuiesce h vf => Sys2Proof.Machine.execVfQuiesce h vf s
  | .vfResume h vf => Sys2Proof.Machine.execVfResume h vf s
  | .vfShareSet h vf res grant => Sys2Proof.Machine.execVfShareSet h vf res grant s
  | .vfCustodyReturn h vf => Sys2Proof.Machine.execVfCustodyReturn h vf s
  | .vfLatencySet h func tol => Sys2Proof.Machine.execVfLatencySet h func tol s
  | .vfStatus h vf buf => Sys2Proof.Machine.execVfStatus h vf buf s
  | .evrClear h upto => Sys2Proof.Machine.execEvrClear h upto s
  | .evrMark h p1 p2 p3 => Sys2Proof.Machine.execEvrMark h p1 p2 p3 s
  | .evrRead h first count buf => Sys2Proof.Machine.execEvrRead h first count buf s
  | .keyConfig h extEn rollMs => Sys2Proof.Machine.execKeyConfig h extEn rollMs s
  | .keyImport h slot buf imp => Sys2Proof.Machine.execKeyImport h slot buf imp s
  | .keyLoad h slot blob => Sys2Proof.Machine.execKeyLoad h slot blob s
  | .keyGenerate h p => Sys2Proof.Machine.execKeyGenerate h p s
  | .keyVerify h slot mode kcv run => Sys2Proof.Machine.execKeyVerify h slot mode kcv run s
  | .keyCommit h slot atCycle => Sys2Proof.Machine.execKeyCommit h slot atCycle s
  | .keyDiscard h slot which => Sys2Proof.Machine.execKeyDiscard h slot which s
  | .keyAttest h slot signer p buf => Sys2Proof.Machine.execKeyAttest h slot signer p buf s
  | .keyFwWrite h offset data => Sys2Proof.Machine.execKeyFwWrite h offset data s
  | .keyFwActivate h => Sys2Proof.Machine.execKeyFwActivate h s
  | .keyRollbackAdvance h level => Sys2Proof.Machine.execKeyRollbackAdvance h level s
  | .keyTamperClear h kind sign => Sys2Proof.Machine.execKeyTamperClear h kind sign s
  | .keyRecoverySet h point => Sys2Proof.Machine.execKeyRecoverySet h point s
  | .keySlotRead h slot => Sys2Proof.Machine.execKeySlotRead h slot s
  | .keyIdentityRead h buf => Sys2Proof.Machine.execKeyIdentityRead h buf s
  | .bkdConfig h trimEn alignEn => Sys2Proof.Machine.execBkdConfig h trimEn alignEn s
  | .bkdRtcHalt h => Sys2Proof.Machine.execBkdRtcHalt h s
  | .bkdRtcHaltRelease h => Sys2Proof.Machine.execBkdRtcHaltRelease h s
  | .bkdRtcWrite h c => Sys2Proof.Machine.execBkdRtcWrite h c s
  | .bkdAlarmSet h c enable => Sys2Proof.Machine.execBkdAlarmSet h c enable s
  | .bkdPwrOnReq h delay => Sys2Proof.Machine.execBkdPwrOnReq h delay s
  | .bkdRtcRead h => Sys2Proof.Machine.execBkdRtcRead h s
  | .pwrPolicy h maxState => Sys2Proof.Machine.execPwrPolicy h maxState s
  | .pwrRestart h confirm => Sys2Proof.Machine.execPwrRestart h confirm s
  | .pwrRestoreNow h => Sys2Proof.Machine.execPwrRestoreNow h s
  | .pwrStatus h => Sys2Proof.Machine.execPwrStatus h s
  | .timCapture func go => Sys2Proof.Machine.execTimCapture func go s
  | .bkdCapture go => Sys2Proof.Machine.execBkdCapture go s
  | .cmdSqTail func qp w => Sys2Proof.Machine.execCmdSqTail func qp w s
  | .cmdCqHead func qp head => Sys2Proof.Machine.execCmdCqHead func qp head s
  | .queuePair0Enable func sqLog2 cqLog2 => Sys2Proof.Machine.execQueuePair0Enable func sqLog2 cqLog2 s
  | .queuePair0Disable func => Sys2Proof.Machine.execQueuePair0Disable func s
  | .queueReleaseDone func => Sys2Proof.Machine.execQueueReleaseDone func s
  | .cmdJnlCursor func seq => Sys2Proof.Machine.execCmdJnlCursor func seq s
  | .evrCursor seq => Sys2Proof.Machine.execEvrCursor seq s
  | .rcCounterRead c acc => Sys2Proof.Machine.execRcCounterRead c acc s
  | .registerWrite r value => Sys2Proof.Machine.execRegisterWrite r value s
  | .coalesceTimeout func qp => Sys2Proof.Machine.execCoalesceTimeout func qp s
  | .controllerTakeover die0Answers => Sys2Proof.Machine.execControllerTakeover die0Answers s
  | .parameterSetActivate => Sys2Proof.Machine.execParameterSetActivate s
  | .dieSkewExchange die x => Sys2Proof.Machine.execDieSkewExchange die x s
  | .ptpSync m => Sys2Proof.Machine.execPtpSync m s
  | .ptpFollowUp lan m corr => Sys2Proof.Machine.execPtpFollowUp lan m corr s
  | .ptpAnnounce m => Sys2Proof.Machine.execPtpAnnounce m s
  | .announceReceiptTimeout lan => Sys2Proof.Machine.execAnnounceReceiptTimeout lan s
  | .ptpPdelayReq port => Sys2Proof.Machine.execPtpPdelayReq port s
  | .ptpPdelayResp port delay => Sys2Proof.Machine.execPtpPdelayResp port delay s
  | .pdelayReqSend port => Sys2Proof.Machine.execPdelayReqSend port s
  | .pathStepHoldExpiry => Sys2Proof.Machine.execPathStepHoldExpiry s
  | .holdT1Expiry => Sys2Proof.Machine.execHoldT1Expiry s
  | .ppsInEdge raw sub => Sys2Proof.Machine.execPpsInEdge raw sub s
  | .ppsOutPulse => Sys2Proof.Machine.execPpsOutPulse s
  | .frameReceive port raw sub f staticParity => Sys2Proof.Machine.execFrameReceive port raw sub f staticParity s
  | .staticEntryRewrite die index => Sys2Proof.Machine.execStaticEntryRewrite die index s
  | .fabricFrameArrive die src ports cls f => Sys2Proof.Machine.execFabricFrameArrive die src ports cls f s
  | .egressTransmit port parityBad beginOnly => Sys2Proof.Machine.execEgressTransmit port parityBad beginOnly s
  | .learnedEntryAge die mac vid => Sys2Proof.Machine.execLearnedEntryAge die mac vid s
  | .ddEntryAge die sa seq => Sys2Proof.Machine.execDdEntryAge die sa seq s
  | .prpSupervisionSend port => Sys2Proof.Machine.execPrpSupervisionSend port s
  | .portStarted port => Sys2Proof.Machine.execPortStarted port s
  | .linkFault port cause => Sys2Proof.Machine.execLinkFault port cause s
  | .linkClear port => Sys2Proof.Machine.execLinkClear port s
  | .linkHoldExpiry port => Sys2Proof.Machine.execLinkHoldExpiry port s
  | .portDrainEnd port => Sys2Proof.Machine.execPortDrainEnd port s
  | .preemptRespond port => Sys2Proof.Machine.execPreemptRespond port s
  | .preemptVerifyTimeout port => Sys2Proof.Machine.execPreemptVerifyTimeout port s
  | .pauseFrame port pfc classes quanta => Sys2Proof.Machine.execPauseFrame port pfc classes quanta s
  | .pauseExpiry port cls => Sys2Proof.Machine.execPauseExpiry port cls s
  | .pauseWdTrip port => Sys2Proof.Machine.execPauseWdTrip port s
  | .pauseWdHoldEnd port => Sys2Proof.Machine.execPauseWdHoldEnd port s
  | .cageInsert cage fourLanes speeds powerClass => Sys2Proof.Machine.execCageInsert cage fourLanes speeds powerClass s
  | .cageRemove cage => Sys2Proof.Machine.execCageRemove cage s
  | .mgmtLinkChange mport up => Sys2Proof.Machine.execMgmtLinkChange mport up s
  | .svFrameIngest die port raw sub f => Sys2Proof.Machine.execSvFrameIngest die port raw sub f s
  | .instantDue stream => Sys2Proof.Machine.execInstantDue stream s
  | .streamOn stream => Sys2Proof.Machine.execStreamOn stream s
  | .filterOutput stream => Sys2Proof.Machine.execFilterOutput stream s
  | .goldenVectorRun array vector ok => Sys2Proof.Machine.execGoldenVectorRun array vector ok s
  | .heelApply => Sys2Proof.Machine.execHeelApply s
  | .heelNFall raw sub => Sys2Proof.Machine.execHeelNFall raw sub s
  | .heelNQualify => Sys2Proof.Machine.execHeelNQualify s
  | .gooseFrameCheck die port raw sub f => Sys2Proof.Machine.execGooseFrameCheck die port raw sub f s
  | .gsStarted ctx => Sys2Proof.Machine.execGsStarted ctx s
  | .gsDeadline ctx => Sys2Proof.Machine.execGsDeadline ctx s
  | .gpRetransmit ctx => Sys2Proof.Machine.execGpRetransmit ctx s
  | .gpEchoTimeout ctx => Sys2Proof.Machine.execGpEchoTimeout ctx s
  | .svpFrameSend stream => Sys2Proof.Machine.execSvpFrameSend stream s
  | .systemCycleBoundary => Sys2Proof.Machine.execSystemCycleBoundary s
  | .configTakeForce => Sys2Proof.Machine.execConfigTakeForce s
  | .matchOperand stream => Sys2Proof.Machine.execMatchOperand stream s
  | .graceFill node inst => Sys2Proof.Machine.execGraceFill node inst s
  | .dispatch region cluster parityBad => Sys2Proof.Machine.execDispatch region cluster parityBad s
  | .firingCommit node parity => Sys2Proof.Machine.execFiringCommit node parity s
  | .scheduleExec handle => Sys2Proof.Machine.execScheduleExec handle s
  | .dftFull node => Sys2Proof.Machine.execDftFull node s
  | .dftHalf node => Sys2Proof.Machine.execDftHalf node s
  | .cosine node => Sys2Proof.Machine.execCosine node s
  | .seq node => Sys2Proof.Machine.execSeq node s
  | .mag node => Sys2Proof.Machine.execMag node s
  | .magang node => Sys2Proof.Machine.execMagang node s
  | .pqs3 node => Sys2Proof.Machine.execPqs3 node s
  | .pqs1 node => Sys2Proof.Machine.execPqs1 node s
  | .freq node => Sys2Proof.Machine.execFreq node s
  | .angdiff node => Sys2Proof.Machine.execAngdiff node s
  | .phSum node => Sys2Proof.Machine.execPhSum node s
  | .impPe node => Sys2Proof.Machine.execImpPe node s
  | .impPp node => Sys2Proof.Machine.execImpPp node s
  | .mho node => Sys2Proof.Machine.execMho node s
  | .quad node => Sys2Proof.Machine.execQuad node s
  | .dir node => Sys2Proof.Machine.execDir node s
  | .diffBias node => Sys2Proof.Machine.execDiffBias node s
  | .harmRatio node => Sys2Proof.Machine.execHarmRatio node s
  | .idmt node => Sys2Proof.Machine.execIdmt node s
  | .deft node => Sys2Proof.Machine.execDeft node s
  | .uv node => Sys2Proof.Machine.execUv node s
  | .ov node => Sys2Proof.Machine.execOv node s
  | .bfCheck node => Sys2Proof.Machine.execBfCheck node s
  | .freqProt node => Sys2Proof.Machine.execFreqProt node s
  | .dcDidt node => Sys2Proof.Machine.execDcDidt node s
  | .dcOc node => Sys2Proof.Machine.execDcOc node s
  | .stringImb node => Sys2Proof.Machine.execStringImb node s
  | .timerPd node => Sys2Proof.Machine.execTimerPd node s
  | .pulse node => Sys2Proof.Machine.execPulse node s
  | .cmpHyst node => Sys2Proof.Machine.execCmpHyst node s
  | .boolComb node => Sys2Proof.Machine.execBoolComb node s
  | .latch node => Sys2Proof.Machine.execLatch node s
  | .edge node => Sys2Proof.Machine.execEdge node s
  | .count node => Sys2Proof.Machine.execCount node s
  | .scale node => Sys2Proof.Machine.execScale node s
  | .arith node => Sys2Proof.Machine.execArith node s
  | .sumw node => Sys2Proof.Machine.execSumw node s
  | .minmax node => Sys2Proof.Machine.execMinmax node s
  | .limit node => Sys2Proof.Machine.execLimit node s
  | .absf node => Sys2Proof.Machine.execAbsf node s
  | .select node => Sys2Proof.Machine.execSelect node s
  | .movavg node => Sys2Proof.Machine.execMovavg node s
  | .delayk node => Sys2Proof.Machine.execDelayk node s
  | .sigReadNode node => Sys2Proof.Machine.execSigReadNode node s
  | .sigWriteNode node => Sys2Proof.Machine.execSigWriteNode node s
  | .migrationStart region => Sys2Proof.Machine.execMigrationStart region s
  | .migrationComplete node => Sys2Proof.Machine.execMigrationComplete node s
  | .deferWarnExpiry node => Sys2Proof.Machine.execDeferWarnExpiry node s
  | .rebalanceCheck die region cluster => Sys2Proof.Machine.execRebalanceCheck die region cluster s
  | .consolidation die => Sys2Proof.Machine.execConsolidation die s
  | .clusterBist die => Sys2Proof.Machine.execClusterBist die s
  | .evPlmBistSkip die => Sys2Proof.Machine.execEvPlmBistSkip die s
  | .dieEvacuation die readable => Sys2Proof.Machine.execDieEvacuation die readable s
  | .logicScan proc steps parityBad => Sys2Proof.Machine.execLogicScan proc steps parityBad s
  | .lgcNop proc => Sys2Proof.Machine.execLgcNop proc s
  | .lgcEnd proc => Sys2Proof.Machine.execLgcEnd proc s
  | .lgcLd proc sig => Sys2Proof.Machine.execLgcLd proc sig s
  | .lgcLdn proc sig => Sys2Proof.Machine.execLgcLdn proc sig s
  | .lgcAnd proc sig => Sys2Proof.Machine.execLgcAnd proc sig s
  | .lgcAndn proc sig => Sys2Proof.Machine.execLgcAndn proc sig s
  | .lgcOr proc sig => Sys2Proof.Machine.execLgcOr proc sig s
  | .lgcOrn proc sig => Sys2Proof.Machine.execLgcOrn proc sig s
  | .lgcXor proc sig => Sys2Proof.Machine.execLgcXor proc sig s
  | .lgcXorn proc sig => Sys2Proof.Machine.execLgcXorn proc sig s
  | .lgcLdk proc k => Sys2Proof.Machine.execLgcLdk proc k s
  | .lgcNot proc => Sys2Proof.Machine.execLgcNot proc s
  | .lgcSt proc sig => Sys2Proof.Machine.execLgcSt proc sig s
  | .lgcStn proc sig => Sys2Proof.Machine.execLgcStn proc sig s
  | .lgcSet proc sig => Sys2Proof.Machine.execLgcSet proc sig s
  | .lgcRst proc sig => Sys2Proof.Machine.execLgcRst proc sig s
  | .lgcAndParen proc sig => Sys2Proof.Machine.execLgcAndParen proc sig s
  | .lgcAndnParen proc sig => Sys2Proof.Machine.execLgcAndnParen proc sig s
  | .lgcOrParen proc sig => Sys2Proof.Machine.execLgcOrParen proc sig s
  | .lgcOrnParen proc sig => Sys2Proof.Machine.execLgcOrnParen proc sig s
  | .lgcXorParen proc sig => Sys2Proof.Machine.execLgcXorParen proc sig s
  | .lgcCloseParen proc => Sys2Proof.Machine.execLgcCloseParen proc s
  | .lgcRtrig proc e => Sys2Proof.Machine.execLgcRtrig proc e s
  | .lgcFtrig proc e => Sys2Proof.Machine.execLgcFtrig proc e s
  | .lgcTon proc t => Sys2Proof.Machine.execLgcTon proc t s
  | .lgcTof proc t => Sys2Proof.Machine.execLgcTof proc t s
  | .lgcTp proc t => Sys2Proof.Machine.execLgcTp proc t s
  | .lgcTrst proc t => Sys2Proof.Machine.execLgcTrst proc t s
  | .lgcCtu proc c => Sys2Proof.Machine.execLgcCtu proc c s
  | .lgcCtd proc c => Sys2Proof.Machine.execLgcCtd proc c s
  | .lgcCrst proc c => Sys2Proof.Machine.execLgcCrst proc c s
  | .lgcCld proc c => Sys2Proof.Machine.execLgcCld proc c s
  | .lgcJmp proc idx => Sys2Proof.Machine.execLgcJmp proc idx s
  | .lgcJmpc proc idx => Sys2Proof.Machine.execLgcJmpc proc idx s
  | .lgcJmpcn proc idx => Sys2Proof.Machine.execLgcJmpcn proc idx s
  | .lgcQgood proc sig => Sys2Proof.Machine.execLgcQgood proc sig s
  | .lgcQinv proc sig => Sys2Proof.Machine.execLgcQinv proc sig s
  | .lgcQquest proc sig => Sys2Proof.Machine.execLgcQquest proc sig s
  | .lgcQold proc sig => Sys2Proof.Machine.execLgcQold proc sig s
  | .lgcQtest proc sig => Sys2Proof.Machine.execLgcQtest proc sig s
  | .lgcQsubst proc sig => Sys2Proof.Machine.execLgcQsubst proc sig s
  | .lgcLdw proc sig => Sys2Proof.Machine.execLgcLdw proc sig s
  | .lgcLdwk proc k => Sys2Proof.Machine.execLgcLdwk proc k s
  | .lgcLdwc proc c => Sys2Proof.Machine.execLgcLdwc proc c s
  | .lgcLdwt proc t => Sys2Proof.Machine.execLgcLdwt proc t s
  | .lgcCmpeq proc sig => Sys2Proof.Machine.execLgcCmpeq proc sig s
  | .lgcCmpne proc sig => Sys2Proof.Machine.execLgcCmpne proc sig s
  | .lgcCmpgt proc sig => Sys2Proof.Machine.execLgcCmpgt proc sig s
  | .lgcCmpge proc sig => Sys2Proof.Machine.execLgcCmpge proc sig s
  | .lgcCmplt proc sig => Sys2Proof.Machine.execLgcCmplt proc sig s
  | .lgcCmple proc sig => Sys2Proof.Machine.execLgcCmple proc sig s
  | .lgcCmpeqk proc k => Sys2Proof.Machine.execLgcCmpeqk proc k s
  | .lgcCmpnek proc k => Sys2Proof.Machine.execLgcCmpnek proc k s
  | .lgcCmpgtk proc k => Sys2Proof.Machine.execLgcCmpgtk proc k s
  | .lgcCmpgek proc k => Sys2Proof.Machine.execLgcCmpgek proc k s
  | .lgcCmpltk proc k => Sys2Proof.Machine.execLgcCmpltk proc k s
  | .lgcCmplek proc k => Sys2Proof.Machine.execLgcCmplek proc k s
  | .lgcStw proc sig => Sys2Proof.Machine.execLgcStw proc sig s
  | .lgcStwc proc sig => Sys2Proof.Machine.execLgcStwc proc sig s
  | .keyPositionChange runN stopN => Sys2Proof.Machine.execKeyPositionChange runN stopN s
  | .loopSample => Sys2Proof.Machine.execLoopSample s
  | .loopWaitExpiry => Sys2Proof.Machine.execLoopWaitExpiry s
  | .healthReportSend => Sys2Proof.Machine.execHealthReportSend s
  | .tokenMessage m => Sys2Proof.Machine.execTokenMessage m s
  | .leaseExpiry => Sys2Proof.Machine.execLeaseExpiry s
  | .leashLaneState lane up => Sys2Proof.Machine.execLeashLaneState lane up s
  | .leashHead l cycle gen dts => Sys2Proof.Machine.execLeashHead l cycle gen dts s
  | .leashAdmit l cycle instants => Sys2Proof.Machine.execLeashAdmit l cycle instants s
  | .leashPage l cycle page data => Sys2Proof.Machine.execLeashPage l cycle page data s
  | .leashCdigest l cycle digests => Sys2Proof.Machine.execLeashCdigest l cycle digests s
  | .leashEnd l cycle admits pages cdigests crc => Sys2Proof.Machine.execLeashEnd l cycle admits pages cdigests crc s
  | .mirrorApply => Sys2Proof.Machine.execMirrorApply s
  | .leashFdigest l key prpSeq crc => Sys2Proof.Machine.execLeashFdigest l key prpSeq crc s
  | .shadowLagExpiry key => Sys2Proof.Machine.execShadowLagExpiry key s
  | .leashCoef l index value effect => Sys2Proof.Machine.execLeashCoef l index value effect s
  | .leashPageReq l page => Sys2Proof.Machine.execLeashPageReq l page s
  | .leashPageResp l page pages => Sys2Proof.Machine.execLeashPageResp l page pages s
  | .leashSync l code partNumber brev => Sys2Proof.Machine.execLeashSync l code partNumber brev s
  | .leashLoopback l x => Sys2Proof.Machine.execLeashLoopback l x s
  | .leashAck l seq => Sys2Proof.Machine.execLeashAck l seq s
  | .leashNak l seq => Sys2Proof.Machine.execLeashNak l seq s
  | .ackSend lane => Sys2Proof.Machine.execAckSend lane s
  | .leashHeartbeat l state epoch => Sys2Proof.Machine.execLeashHeartbeat l state epoch s
  | .heartbeatSend lane => Sys2Proof.Machine.execHeartbeatSend lane s
  | .heartbeatTimeout => Sys2Proof.Machine.execHeartbeatTimeout s
  | .syncTimeoutExpiry => Sys2Proof.Machine.execSyncTimeoutExpiry s
  | .relinquishTimeout => Sys2Proof.Machine.execRelinquishTimeout s
  | .dramScrub die bad => Sys2Proof.Machine.execDramScrub die bad s
  | .eyeMonitor isLane index opening => Sys2Proof.Machine.execEyeMonitor isLane index opening s
  | .katRun ok => Sys2Proof.Machine.execKatRun ok s
  | .vfQuiesceComplete vf => Sys2Proof.Machine.execVfQuiesceComplete vf s
  | .vfFlr vf => Sys2Proof.Machine.execVfFlr vf s
  | .vfFlrComplete vf => Sys2Proof.Machine.execVfFlrComplete vf s
  | .sriovChange vfEnable numVfs => Sys2Proof.Machine.execSriovChange vfEnable numVfs s
  | .pfReset => Sys2Proof.Machine.execPfReset s
  | .busMasterEnable func on => Sys2Proof.Machine.execBusMasterEnable func on s
  | .eventRecord e => Sys2Proof.Machine.execEventRecord e s
  | .eventWrite => Sys2Proof.Machine.execEventWrite s
  | .eventWindowClose code obj => Sys2Proof.Machine.execEventWindowClose code obj s
  | .keyRemask slot entropyOk => Sys2Proof.Machine.execKeyRemask slot entropyOk s
  | .rollMsExpiry slot => Sys2Proof.Machine.execRollMsExpiry slot s
  | .tamperTrip cause => Sys2Proof.Machine.execTamperTrip cause s
  | .tamperTripUnpowered cause => Sys2Proof.Machine.execTamperTripUnpowered cause s
  | .bkdSupplySwitch vmainMv vcellMv => Sys2Proof.Machine.execBkdSupplySwitch vmainMv vcellMv s
  | .cellMeasure mv => Sys2Proof.Machine.execCellMeasure mv s
  | .backupDomainReset => Sys2Proof.Machine.execBackupDomainReset s
  | .rtcHaltTimeout => Sys2Proof.Machine.execRtcHaltTimeout s
  | .rtcOverrange => Sys2Proof.Machine.execRtcOverrange s
  | .evBkdLeap => Sys2Proof.Machine.execEvBkdLeap s
  | .trimIntervalEnd ticks => Sys2Proof.Machine.execTrimIntervalEnd ticks s
  | .alarmFire => Sys2Proof.Machine.execAlarmFire s
  | .pwrOnReqExpiry => Sys2Proof.Machine.execPwrOnReqExpiry s
  | .powerFail source => Sys2Proof.Machine.execPowerFail source s
  | .ejectLever => Sys2Proof.Machine.execEjectLever s
  | .powerGood aOk bOk failedDies failedClusters tests => Sys2Proof.Machine.execPowerGood aOk bOk failedDies failedClusters tests s
  | .configRestore storeOk => Sys2Proof.Machine.execConfigRestore storeOk s
  | .domainFree die dom untilEvent => Sys2Proof.Machine.execDomainFree die dom untilEvent s
  | .domainWake die dom waited => Sys2Proof.Machine.execDomainWake die dom waited s
  | .tempMeasure air tj => Sys2Proof.Machine.execTempMeasure air tj s
  | .pwrInputSample vin iin => Sys2Proof.Machine.execPwrInputSample vin iin s
  | .clusterTestEnd die ok => Sys2Proof.Machine.execClusterTestEnd die ok s
  | .vfStarted vf => Sys2Proof.Machine.execVfStarted vf s
  | .gpStarted ctx => Sys2Proof.Machine.execGpStarted ctx s
  | .holdTempExceeded temp => Sys2Proof.Machine.execHoldTempExceeded temp s
  | .fwActivateComplete sign svn release => Sys2Proof.Machine.execFwActivateComplete sign svn release s
  | .bkdCaptureLatch => Sys2Proof.Machine.execBkdCaptureLatch s

end Sys2Proof.Machine
end

