-- ==== Sys2Proof/Safety.lean ====
section
/-! DEFINITION. What a safe run is, and the words that claims are stated in: when a packet can be served at once, what its
acceptance writes, and the state in which its command has completed. -/
namespace Sys2Proof.Safety

open Machine

/-- The command is VF_RESUME, after whose packet the packets kept for its VF are served too (15 R468). -/
def isResume : Instr → Bool
  | .vfResume _ _ => true
  | _ => false

/-- Nothing keeps the packet of a header waiting: its pair is there with an empty ring that has room, and the module takes
packets of it (02 R61, R64, R67; 15 R458, R461). -/
def servable (h : Hdr) (s : State) : Bool :=
  heard s h.func h.qp && canTake s h.func h.qp
    && match tget s.cmd.qps (h.func, h.qp) with
      | some q => ringWaiting q == 0 && decide (takenCount s h.func h.qp + 1 < 2 ^ q.sqLog2)
      | none => false

/-- The state once the packet has been placed and taken: only ring positions and the turn have moved (02 R64, R68). -/
def taken (h : Hdr) (s : State) : State :=
  match tget s.cmd.qps (h.func, h.qp) with
  | some q =>
    { s with cmd := { s.cmd with
        qps := tset s.cmd.qps (h.func, h.qp) { q with sqTail := (q.sqTail + 1) % 2 ^ q.sqLog2, sqHead := (q.sqHead + 1) % 2 ^ q.sqLog2 }
        rrLast := (h.func, h.qp) } }
  | none => s

/-- The packet is taken and passes the acceptance checks of 02 R82. -/
def goes (p : Packet) (s : State) : Bool := servable p.h s && (acceptCheck p (taken p.h s)).isNone

/-- The journal sequence of the command; 0 when it is not journalled (02 R74). -/
def jseqOf (p : Packet) (s : State) : Nat := if journalled p.opcode p.h then s.cmd.jnlNext else 0

/-- The state once the command is accepted: its journal entry carries ACCEPT (02 R89). -/
def afterAccept (p : Packet) (s : State) : State :=
  if journalled p.opcode p.h then jnlAccept p.opcode p.h (taken p.h s) else taken p.h s

/-- The command has completed: `t` is its effect on the accepted state; STATUS and DONE are written, then the completion is
posted (02 R90). -/
def finished (p : Packet) (st : Nat) (res : Result) (s t : State) : State :=
  pushDone p (jseqOf p s) st res (if journalled p.opcode p.h then jnlDone (jseqOf p s) st t else t)

/-- The command has been taken and waits: `t` is its effect on the accepted state so far. -/
def waiting (p : Packet) (s t : State) : State :=
  { t with cmd := { t.cmd with outst := t.cmd.outst ++ [⟨p.h.func, p.h.qp, p.h.tag, p.opcode, jseqOf p s, none⟩] } }

/-- The staging area of the issuing function has one more setting (02 R75). -/
def stagedIn (p : Packet) (x : Setting) (s : State) : State :=
  let t := afterAccept p s
  let l := staged t p.h.func ++ [⟨jseqOf p s, p.opcode, if p.h.pblkLen = 0 then 64 else 16 + p.h.pblkLen, x⟩]
  { t with cmd := { t.cmd with staging := tset t.cmd.staging p.h.func l } }

/-- A CONFIG-kind command goes: its packet is accepted, its function's share of queue entries holds one more staged command, and
the configuration is restored (02 R75, R82, log entry 118; 15 Table VFN-2; 19 R572). -/
def goesConfig (p : Packet) (s : State) : Bool := goes p s && !p.noRoom (afterAccept p s) && s.pwr.restored

/-- The command runs: its packet is taken and passes the acceptance checks, what it stages finds room, and the configuration is
restored where the command waits for that (02 R82, 19 R572). -/
def runs (p : Packet) (s : State) : Bool := goes p s && !p.noRoom (afterAccept p s) && (!p.busyBefore || s.pwr.restored)

/-- Nothing meets an operation of KENNEL while it runs (17 R528, R531). -/
def calm (r : KeyRun) : Bool := r.trip.isNone && !r.parity

/-- No condition on the accepted state. -/
def always (_ : State) : Bool := true
/-- No result. -/
def noResult (_ : State) : Result := 0
/-- The accepted state stays as it is. -/
def same (_ : Nat) (s : State) : State := s

/-- Every packet of the command that runs, in an accepted state that meets `c`, completes at once: its status is `st`, its
result and its effect are those of the accepted state, and the effect may use the command's journal sequence. -/
def Does (i : Instr) (c : State → Bool) (st : Nat) (res : State → Result) (f : Nat → State → State) : Prop :=
  ∀ p s, packetOf i = some p → runs p s = true → c (afterAccept p s) = true →
    exec i s = .next (finished p st (res (afterAccept p s)) s (f (jseqOf p s) (afterAccept p s)))

/-- Every packet of the command that runs, in an accepted state that meets `c`, completes with the status and the result and
has changed nothing but the journal and the queues (02 R83). -/
def Fails (i : Instr) (c : State → Bool) (st : Nat) (res : Result) : Prop := Does i c st (fun _ => res) same

/-- Every packet of the command that runs, in an accepted state that meets `c`, has the effect and waits to be completed. -/
def Waits (i : Instr) (c : State → Bool) (f : Nat → State → State) : Prop :=
  ∀ p s, packetOf i = some p → runs p s = true → c (afterAccept p s) = true →
    exec i s = .next (waiting p s (f (jseqOf p s) (afterAccept p s)))

/-- A CONFIG-kind command whose fields meet `c` adds its setting to the staging area of the issuing function, when that has
room; otherwise it completes with ST_FAILED and has changed nothing (02 R75). -/
def StagesWhen (i : Instr) (c : State → Bool) (x : Setting) : Prop :=
  (∀ p s, packetOf i = some p → goesConfig p s = true → c (afterAccept p s) = true →
    exec i s = .next (finished p stOk 0 s (stagedIn p x s)))
  ∧ Fails i (fun a => !c a) stFailed 0

/-- The staging area of a function is the list. -/
def withStaging (func : Nat) (l : List Staged) (s : State) : State :=
  { s with cmd := { s.cmd with staging := tset s.cmd.staging func l } }

/-- The accepted state without the graph in the function's staging area: a load replaces a staged one (09 R286). -/
def withoutStaged (func graph : Nat) (s : State) : State :=
  withStaging func ((staged s func).filter (fun x => match x.setting with
    | .graphLoad _ g => g.graph != graph
    | _ => true)) s

/-- The row runs: it answers the state that `f` gives, in every state that meets `c`. -/
def Answers (i : Instr) (c : State → Bool) (f : State → State) : Prop := ∀ s, c s = true → exec i s = .next (f s)

/-- A 64-bit register after a write of 4 bytes to its upper or its lower half (02 R60). -/
def halfOf (upper : Bool) (old v : Nat) : Nat :=
  if upper then v % 2 ^ 32 * 2 ^ 32 + old % 2 ^ 32 else old / 2 ^ 32 * 2 ^ 32 + v % 2 ^ 32

/-- A queued sampled-value frame reaches the ingest engine of a die: its cells are good and the die's rate has room (05 R184,
06 R206). -/
def svReaches (die : Nat) (f : SvFrame) (s : State) : Bool :=
  !queuedBad s die 4 (.sv f) && (rxRoom die (takeQueued die 4 (.sv f) s)).1

/-- The state once the engine has taken the frame out of its queue and counted it against the rate of the die. -/
def svTaken (die : Nat) (f : SvFrame) (s : State) : State := (rxRoom die (takeQueued die 4 (.sv f) s)).2

/-- The frame that reaches the engine names an ON stream of the die (06 Table SVI-2, orders 1 to 4). -/
def svNamed (die n : Nat) (c : SvContext) (f : SvFrame) (s : State) : Bool :=
  svReaches die f s && f.decodable && svFind (svTaken die f s) f == some (n, c)
    && decide (strDie n = die ∧ (strSt (svTaken die f s) n).o.obj = .on)

/-- It also came by a port of the stream, in the stream's format and simulation mode (orders 5 to 7). -/
def svPlain (die port n : Nat) (c : SvContext) (f : SvFrame) (s : State) : Bool :=
  svNamed die n c f s && onPair (svTaken die f s) c.port port && svFormatOk c f && decide (f.simulate = c.sim)

/-- The period of a row that runs periodically is over, or the row has not run yet (log entry 138). -/
def dueAgain (kind unit ticks : Nat) (s : State) : Bool := periodOver s (tget s.pair.lastRun (kind, unit)) ticks

/-- The row runs now. -/
def runNow (kind unit : Nat) (s : State) : State :=
  { s with pair := { s.pair with lastRun := tset s.pair.lastRun (kind, unit) s.tim.raw } }

/-- MEAS of a cluster exceeds 850 in the second that ends and in the one before it (11 Table PLM-3). -/
def overloaded (cluster : Nat) (s : State) : Bool :=
  decide (850 < measOf s cluster ∧ 850 < measBefore (s.tim.raw / 500000000) (tgetD s.plm.meas cluster (0, 0, 0)))

/-- MEAS of a cluster has been noted for the second, and the rebalances that are due are those of the list. -/
def measured (cluster : Nat) (due : List Nat) (s : State) : State :=
  { s with plm := { s.plm with
    meas := tset s.plm.meas cluster (s.tim.raw / 500000000, measOf s cluster,
      measBefore (s.tim.raw / 500000000) (tgetD s.plm.meas cluster (0, 0, 0))),
    rebalDue := due } }

/-- A die's copy of RAW has been moved by the skew of an exchange, the `n`th in a row above 1 ns (03 R110, R111). -/
def copyMoved (die : Nat) (x : TwoWay) (n : Nat) (s : State) : State :=
  { s with tim := { s.tim with
    dieSkew := tset s.tim.dieSkew die (exchangeSkew x), skewRun := tset s.tim.skewRun die n,
    dieOfs := tset s.tim.dieOfs die (tgetD s.tim.dieOfs die 0 - exchangeSkew x),
    dieDelay := tset s.tim.dieDelay die (exchangeDelay x) } }

/-- The row of an operator fires its node: the result of the firing in service is the operator's, for the commit of the
firing to take; where there is nothing to compute, nothing changes (01 R21, R22). -/
def Fires (i : Instr) (op : Nat) (fn : FireIn → FireOut) (node : Nat) : Prop :=
  (∀ s f g r row, serviceOf s node = some f → nodeAt s node = some (g, r) → opRow op = some row → r.operator = op →
    f.result = none →
    let t := timeOf s node f.inst
    let prm := paramsFor s node f.inst
    let res := operate op row fn prm t f.late (holdAt s t) (nodeSt s node) f.ops
    let a := { s with grf := { s.grf with service := s.grf.service.map (fun x => if x.node == node then { x with result := some res } else x) } }
    exec i s = .next a)
  ∧ (∀ s f g r, serviceOf s node = some f → nodeAt s node = some (g, r) → (r.operator ≠ op ∨ f.result ≠ none) →
    exec i s = .next s)
  ∧ (∀ s, serviceOf s node = none → exec i s = .next s)

/-- The row of a logic instruction runs it when it is the one at PC of the scan in progress, and changes nothing otherwise
(12 R374). -/
def Scans (i : Instr) (op : LogicOp) (proc x : Nat) : Prop :=
  (∀ s sc, scanOf s proc = some sc → fetchLogic s sc = some (op, x) → exec i s = .next (stepScan proc sc op x s))
  ∧ (∀ s sc, scanOf s proc = some sc → fetchLogic s sc ≠ some (op, x) → exec i s = .next s)
  ∧ (∀ s, scanOf s proc = none → exec i s = .next s)

/-- A frame of a LEASH lane passes: its lane is up, and its tag is right under the key in force (14 R428, R430). -/
def leashTagged (l : LeashHdr) (s : State) : Bool :=
  (laneSt s l.lane).up && !standalone s && l.tagOk && leashKey s
/-- Its lane has no tag failure in a row any more. -/
def leashPassed (l : LeashHdr) (s : State) : State := setLane l.lane { laneSt s l.lane with tagFails := 0 } s
/-- The next frame of its lane, by its sequence (14 R430). -/
def leashNext (l : LeashHdr) (s : State) : Bool := leashTagged l s && l.seq == (laneSt s l.lane).rxSeq
/-- It has been taken from its lane: counted, its sequence advanced, an acknowledgement due (14 R430). -/
def leashTaken (l : LeashHdr) (s : State) : State :=
  let a := leashPassed l s
  bump (.leash l.lane 1) (setLane l.lane { laneSt a l.lane with rxSeq := ((laneSt a l.lane).rxSeq + 1) % 2 ^ 24, ackDue := true } a)
/-- A frame is good: the next of its lane, and not one that another lane delivered (14 R430). -/
def leashGood (l : LeashHdr) (s : State) : Bool := leashNext l s && !delivered (leashPassed l s) l

end Sys2Proof.Safety
end

