-- ==== Sys2Proof/Certificates/Slice0/Obligations.lean ====
section
/-! DEFINITION. The statements for the provers, each with the rules of the spec that it says. -/

open Sys2Proof Sys2Proof.Machine Sys2Proof.Safety

/-! ### CONFIG kind: a setting is staged, or the range check fails (02 R75) -/

/-- General, time, ports, switch: each CONFIG-kind command with its ranges (02 Table CMD-8, 03 Table TIM-9, 04 Table NET-6,
05 Table SWC-6). -/
def Obligations.ConfigNetworkStages : Prop :=
  (∀ h len, StagesWhen (.sysCycleSet h len) (fun _ => decide (288 ≤ len ∧ len ≤ 11520 ∧ 1152000 % len = 0)) (.cycleLen len))
  ∧ (∀ h p, StagesWhen (.timPtpConfig h p)
      (fun _ => decide (p.profile ≤ 1 ∧ p.domain ≤ 255 ∧ p.portA / 4 = p.portB / 4 ∧ p.portA ≠ p.portB
        ∧ 2 ≤ p.annTimeout ∧ p.annTimeout ≤ 10)) (.ptp p))
  ∧ (∀ h p, StagesWhen (.timAsymSet h p)
      (fun _ => decide ((p.mode ≤ 4 ∨ p.mode = 0xFF) ∧ p.ingress ≤ 1000000 ∧ p.egress ≤ 1000000
        ∧ -1000000 ≤ p.cableAsym ∧ p.cableAsym ≤ 1000000)) (.asym p))
  ∧ (∀ h p, StagesWhen (.timThreshSet h p)
      (fun _ => zeroOr p.pathStepThresh 20 10000 && zeroOr p.pathStepHold 1 3600 && zeroOr p.lockThresh 50 10000
        && zeroOr p.slewMax 1 1000 && zeroOr p.stepLimit 1 1000000 && zeroOr p.holdT1 60 86400 && zeroOr p.holdTemp 5 100
        && f32Within 0x447A0000#32 p.holdK1 && f32Within 0x447A0000#32 p.holdK2) (.thresh p))
  ∧ (∀ h port p, StagesWhen (.netPortConfig h port p)
      (fun _ => decide (p.speed ≤ 1 ∧ p.fec ≤ 2 ∧ (p.partner = 0xFF ∨ p.partner / 4 = port / 4) ∧ p.lan ≤ 1
        ∧ p.express ≤ 255 ∧ p.preempt ≤ 3 ∧ p.addFrag ≤ 3 ∧ 1 ≤ p.verifyTime ∧ p.verifyTime ≤ 128 ∧ 1518 ≤ p.maxFrame ∧ p.maxFrame ≤ 9216
        ∧ 100 ≤ p.pauseWdLimit ∧ p.pauseWdLimit ≤ 1000000 ∧ 1 ≤ p.pauseWdHold ∧ p.pauseWdHold ≤ 60000
        ∧ p.linkHold ≤ 1000000)) (.port port p))
  ∧ (∀ h mport p, StagesWhen (.netMgmtConfig h mport p)
      (fun _ => decide (mport ≤ 1 ∧ p.enable ≤ 1 ∧ 1518 ≤ p.maxFrame ∧ p.maxFrame ≤ 9216 ∧ p.linkHold ≤ 1000000))
      (.mgmt mport p))
  ∧ (∀ h p, StagesWhen (.swcQueueConfig h p)
      (fun _ => decide (p.dest ≤ 7 ∧ 0 < p.classes ∧ p.classes ≤ 255 ∧ p.min ≤ 4096 ∧ p.cap ≤ 65536)) (.swcQueue p))
  ∧ (∀ h die index e, StagesWhen (.swcMcastSet h die index e)
      (fun _ => decide (index ≤ 16383 ∧ e.valid ≤ 1 ∧ e.vid ≤ 4094 ∧ e.consumers ≤ 15)) (.mcast die index e))
  ∧ (∀ h port p, StagesWhen (.swcPortFwd h port p)
      (fun _ => decide (p.defClass ≤ 7 ∧ 1 ≤ p.pvid ∧ p.pvid ≤ 4094 ∧ p.learn ≤ 1)) (.portFwd port p))
  ∧ (∀ h age ddAge, StagesWhen (.swcAging h age ddAge)
      (fun _ => decide (10 ≤ age ∧ age ≤ 3600 ∧ 10 ≤ ddAge ∧ ddAge ≤ 1000)) (.aging age ddAge))

/-- Streams, filters, signals, GOOSE and sampled-value publication: each CONFIG-kind command with its ranges (06 Table SVI-1,
07 Table FLT-8, 08 Tables SIG-1, SIG-4, SIG-8, SIG-15). A signal's owner exists (15 R457), and is not RESETTING (15 R471). -/
def Obligations.ConfigSignalStages : Prop :=
  (∀ h stream c, StagesWhen (.svSubscribe h stream c) (fun _ => decide (stream ≤ 8191) && svContextOk c) (.svSub stream c))
  ∧ (∀ h stream, StagesWhen (.svUnsubscribe h stream) (fun _ => decide (stream ≤ 8191)) (.svUnsub stream))
  ∧ (∀ h chain valid p, StagesWhen (.fltChainSet h chain valid p)
      (fun _ => decide (chain ≤ 65535 ∧ valid ≤ 1) && (decide (p.stream ≤ 8191 ∧ p.pos ≤ 23 ∧ p.kind ≤ 2 ∧ p.priv ≤ 1 ∧ p.det ≤ 3
        ∧ 1 ≤ p.detN ∧ p.detN ≤ 4096 ∧ p.attackSh ≤ 20 ∧ p.decaySh ≤ 20) && [1, 2, 3, 4, 6, 8].contains p.fa
        && [1, 2, 4, 5].contains p.fb)) (.chain chain (valid == 1) p))
  ∧ (∀ h pinEn pinClear, StagesWhen (.fltHeelPin h pinEn pinClear) (fun _ => decide (pinEn ≤ 1 ∧ pinClear ≤ 1))
      (.heelPin pinEn pinClear))
  ∧ (∀ h entries p s, packetOf (.sigDefine h entries) = some p → goesConfig p s = true → 0 < entries.length →
      entries.length ≤ 32768 → entries.all sigEntryOk = true →
      (∀ e ∈ entries, e.valid = true → funcExists s e.sig.owner = true ∧ funcBusy e.sig.owner s = false) →
      exec (.sigDefine h entries) s = .next (finished p stOk 0 s (stagedIn p (.sigDefine entries) s)))
  ∧ (∀ h entries, Fails (.sigDefine h entries) (fun a => !entries.any (fun e => e.valid && funcBusy e.sig.owner a)
      && (!(decide (0 < entries.length ∧ entries.length ≤ 32768) && entries.all sigEntryOk)
        || entries.any (fun e => e.valid && !funcExists a e.sig.owner))) stFailed 0)
  ∧ (∀ h entries, Fails (.sigDefine h entries) (fun a => entries.any (fun e => e.valid && funcBusy e.sig.owner a)) stBusy 0)
  ∧ (∀ h ctx c, StagesWhen (.sigGsSubscribe h ctx c) (fun _ => gsContextOk ctx c) (.gsSub ctx c))
  ∧ (∀ h ctx c, StagesWhen (.sigGpDefine h ctx c) (fun _ => gpContextOk ctx c) (.gpDef ctx c))
  ∧ (∀ h stream c, StagesWhen (.sigSvpDefine h stream c) (fun _ => svpContextOk stream c) (.svpDef stream c))
  ∧ (∀ h mac, StagesWhen (.sigSharedId h mac) (fun _ => !bitN mac 40) (.sharedId mac))

/-- Placement, logic, loop, pair, functions, keys, backup domain, power: each CONFIG-kind command with its ranges. A VF that is
RESETTING answers ST_BUSY, and one that does not exist ST_FAILED. -/
def Obligations.ConfigSystemStages : Prop :=
  (∀ h group valid p, StagesWhen (.plmGroupSet h group valid p)
      (fun _ => decide (group ≤ 1023 ∧ valid ≤ 1 ∧ p.kind ≤ 4 ∧ 1 ≤ p.entries.length ∧ p.entries.length ≤ 1024)
        && p.entries.all (groupEntryOk p.kind)) (.plmGroup group (valid == 1) p))
  ∧ (∀ h dies, StagesWhen (.plmOwnerDies h 0 dies) (fun a => decide (dies < 256 ∧ 0 < dies % 2 ^ Config.dies a.variant))
      (.ownerDies 0 dies))
  ∧ (∀ h v dies p s, packetOf (.plmOwnerDies h (v + 1) dies) = some p → goesConfig p s = true → vfExists s v = true →
      (vfSt s v).admission ≠ .resetting → dies < 256 → 0 < dies % 2 ^ Config.dies s.variant →
      exec (.plmOwnerDies h (v + 1) dies) s = .next (finished p stOk 0 s (stagedIn p (.ownerDies (v + 1) dies) s)))
  ∧ (∀ h v dies, Fails (.plmOwnerDies h (v + 1) dies) (fun a => decide ((vfSt a v).admission = .resetting)) stBusy 0)
  ∧ (∀ h placeLimit consolidate deferWarn, StagesWhen (.plmPolicy h placeLimit consolidate deferWarn)
      (fun _ => decide (100 ≤ placeLimit ∧ placeLimit ≤ 850 ∧ consolidate ≤ 1 ∧ 10 ≤ deferWarn ∧ deferWarn ≤ 60000))
      (.plmPolicy placeLimit consolidate deferWarn))
  ∧ (∀ h modeSrc restartMode, StagesWhen (.lgcConfig h modeSrc restartMode)
      (fun _ => decide (modeSrc ≤ 1 ∧ restartMode ≤ 2)) (.lgcConfig modeSrc restartMode))
  ∧ (∀ h p, StagesWhen (.loopConfig h p)
      (fun a => rates.contains p.rate && decide (p.inputKind ≤ 1 ∧ p.out ≤ 7 ∧ p.inLag ≤ 10000 ∧ 50 ≤ p.loopWait
        ∧ p.loopWait ≤ 10000 ∧ p.invHold ≤ 65535 ∧ 1 ≤ p.drainMax ∧ p.drainMax ≤ 4800000
        ∧ p.inputRef < (if p.inputKind = 0 then Config.nodes a.variant else Config.signals a.variant)) && coefsOk p.coef)
      (.loopConfig p))
  ∧ (∀ h p, StagesWhen (.pairConfig h p)
      (fun _ => decide (p.mode ≤ 1 ∧ 2 ≤ p.lag ∧ p.lag ≤ 100 ∧ p.leashSlot ≤ 255 ∧ p.arbSlot ≤ 255 ∧ 8 ≤ p.prefixLen
        ∧ p.prefixLen ≤ 30 ∧ 1024 ≤ p.udpPort ∧ p.udpPort ≤ 65535 ∧ 10 ≤ p.syncTimeout ∧ p.syncTimeout ≤ 600))
      (.pairConfig p))
  ∧ (∀ h fraction, StagesWhen (.vfnPolicy h fraction) (fun _ => decide (fraction ≤ 900)) (.vfnPolicy fraction))
  ∧ (∀ h vf prot p s, packetOf (.vfnVfConfig h vf prot) = some p → goesConfig p s = true → vfExists s vf = true →
      (vfSt s vf).admission ≠ .resetting → prot ≤ 1 →
      exec (.vfnVfConfig h vf prot) s = .next (finished p stOk 0 s (stagedIn p (.vfProt vf prot) s)))
  ∧ (∀ h vf prot, Fails (.vfnVfConfig h vf prot) (fun a => !vfExists a vf) stFailed 0)
  ∧ (∀ h vf prot, Fails (.vfnVfConfig h vf prot)
      (fun a => vfExists a vf && decide ((vfSt a vf).admission = .resetting)) stBusy 0)
  ∧ (∀ h extEn rollMs, StagesWhen (.keyConfig h extEn rollMs) (fun _ => decide (extEn ≤ 1 ∧ rollMs ≤ 10000))
      (.keyConfig extEn rollMs))
  ∧ (∀ h trimEn alignEn, StagesWhen (.bkdConfig h trimEn alignEn) (fun _ => decide (trimEn ≤ 1 ∧ alignEn ≤ 1))
      (.bkdConfig trimEn alignEn))
  ∧ (∀ h maxState, StagesWhen (.pwrPolicy h maxState)
      (fun _ => maxState.length == 12 && maxState.all (fun x => decide (x ≤ 3))) (.pwrPolicy maxState))

/-- Graph images and logic tasks: an image at an aligned address that passes its load checks and writes no signal of another
writer is staged, with what it replaces taken out of the staging area; one that fails them completes with ST_FAILED and its
reason, and a field out of its range with ST_FAILED (09 R284, R286, Table GRF-13; 12 R367, R387, Table LGC-13). An unload stages
a removal. That staging takes a second queue entry is log entry 118; that a task's own sum is reason 7 is log entry 134. -/
def Obligations.ConfigImageStages : Prop :=
  (∀ h image keySlot img, Does (.grfGraphLoad h image keySlot img)
      (fun a => decide (keySlot ≤ 255 ∧ image.addr % 64 = 0) && imageReason a image.len keySlot img == 0
        && (!(graphWrites img).any (writeClash (applySetting (candidate a h.func) ⟨0, 0x0700, 0, .graphLoad h.func img⟩)))
        && decide (queueUse (withoutStaged h.func img.graph a) h.func + 2 ≤ share a h.func 2))
      stOk noResult (fun j a =>
        let b := withoutStaged h.func img.graph a
        withStaging h.func
          (staged b h.func ++ [⟨j, 0x0700, if h.pblkLen = 0 then 64 else 16 + h.pblkLen, .graphLoad h.func img⟩]) b))
  ∧ (∀ h image keySlot img, Fails (.grfGraphLoad h image keySlot img)
      (fun a => decide (keySlot ≤ 255 ∧ image.addr % 64 = 0) && imageReason a image.len keySlot img == 0
        && (graphWrites img).any (writeClash (applySetting (candidate a h.func) ⟨0, 0x0700, 0, .graphLoad h.func img⟩)))
      stFailed 0)
  ∧ (∀ h image keySlot img p s, packetOf (.grfGraphLoad h image keySlot img) = some p → runs p s = true →
      keySlot ≤ 255 → image.addr % 64 = 0 → imageReason (afterAccept p s) image.len keySlot img ≠ 0 →
      exec (.grfGraphLoad h image keySlot img) s
        = .next (finished p stFailed (resB 0 (imageReason (afterAccept p s) image.len keySlot img)) s (afterAccept p s)))
  ∧ (∀ h image keySlot img, Fails (.grfGraphLoad h image keySlot img)
      (fun _ => decide (255 < keySlot ∨ image.addr % 64 ≠ 0)) stFailed 0)
  ∧ (∀ h graph, StagesWhen (.grfGraphUnload h graph)
      (fun a => decide (graph ≤ 511) && thas (candidate a h.func).graphs graph) (.graphUnload graph))
  ∧ (∀ h image keySlot img p s, packetOf (.lgcTaskDefine h image keySlot 1 0 img) = some p → goesConfig p s = true →
      keySlot ≤ 255 → image.addr % 64 = 0 →
      logicReason (afterAccept p s) (candidate (afterAccept p s) h.func) false image.len keySlot img = 0 →
      imagesFit (candidate (afterAccept p s) h.func).cycleLen [img] = true →
      (taskWrites img.task img).any (writeClash (applySetting (candidate (afterAccept p s) h.func)
        ⟨0, 0x0900, 0, .lgcTask img.task true img⟩)) = false →
      exec (.lgcTaskDefine h image keySlot 1 0 img) s = .next (finished p stOk 0 s (stagedIn p (.lgcTask img.task true img) s)))
  ∧ (∀ h image keySlot img p s, packetOf (.lgcTaskDefine h image keySlot 1 0 img) = some p → runs p s = true →
      keySlot ≤ 255 → image.addr % 64 = 0 →
      logicReason (afterAccept p s) (candidate (afterAccept p s) h.func) false image.len keySlot img ≠ 0 →
      exec (.lgcTaskDefine h image keySlot 1 0 img) s = .next (finished p stFailed
        (resB 0 (logicReason (afterAccept p s) (candidate (afterAccept p s) h.func) false image.len keySlot img)) s (afterAccept p s)))
  ∧ (∀ h image keySlot img, Fails (.lgcTaskDefine h image keySlot 1 0 img)
      (fun a => decide (keySlot ≤ 255 ∧ image.addr % 64 = 0)
        && logicReason a (candidate a h.func) false image.len keySlot img == 0
        && !imagesFit (candidate a h.func).cycleLen [img]) stFailed (resB 0 7))
  ∧ (∀ h image keySlot valid task img, Fails (.lgcTaskDefine h image keySlot valid task img)
      (fun _ => decide (image.addr % 64 ≠ 0 ∨ 255 < keySlot ∨ 1 < valid ∨ (valid = 1 ∧ task ≠ 0))) stFailed 0)
  ∧ (∀ h image keySlot task img, StagesWhen (.lgcTaskDefine h image keySlot 0 task img)
      (fun a => decide (image.addr % 64 = 0 ∧ keySlot ≤ 255) && thas (candidate a h.func).tasks task) (.lgcTask task false img))

/-! ### READ kind: a result and what is written to the host's buffer, and no other change (02 R73) -/

/-- Reads of the general, time, network and stream classes: each answers ST_OK with its words, and ST_FAILED outside its
ranges. -/
def Obligations.NetworkReadsAnswer : Prop :=
  (∀ h, Does (.nop h) always stOk noResult same)
  ∧ (∀ h, Does (.identify h) always stOk
      (fun a => resB 0 (Config.dies a.variant) ||| resB 2 (Config.behaviourRev % 65536)
        ||| resB 4 ((fwImage a a.key.running).release % 2 ^ 32) ||| resB 8 a.cmd.gen) same)
  ∧ (∀ h, Does (.timStatus h) always stOk
      (fun a => resB 0 (tqWord a) ||| resB 4 (holdAge a) ||| resB 8 (ps a.tim.theta)) same)
  ∧ (∀ h port, Does (.netPortStatus h port) always stOk
      (fun a => resB 0 (portWord a port) ||| resB 8 (portSt a port).lastChange) same)
  ∧ (∀ h die index, Does (.swcMcastRead h die index) (fun _ => decide (index ≤ 16383)) stOk
      (fun a =>
        let e := tgetD a.cfg.mcast (die, index) ⟨0, 0, 0, 0, 0⟩
        resB 0 e.mac ||| resB 6 e.vid ||| resB 8 e.ports ||| resB 12 e.consumers ||| resB 13 e.valid) same)
  ∧ (∀ h die index, Fails (.swcMcastRead h die index) (fun _ => decide (16383 < index)) stFailed 0)
  ∧ (∀ h die port mac vid, Does (.swcLookup h die port mac vid) (fun _ => decide (port / 4 = die)) stOk
      (fun a =>
        let k := lookup a port mac (if vid = 0 then (fwdCfg a port).pvid else vid) false
        resB 0 (sumN ((allowedPorts a port k.ports).map (fun p => 1 <<< p))) ||| resB 4 k.consumers ||| resB 5 k.row
          ||| resB 8 k.index) same)
  ∧ (∀ h die port mac vid, Fails (.swcLookup h die port mac vid) (fun _ => decide (port / 4 ≠ die)) stFailed 0)
  ∧ (∀ h stream, Does (.svStreamRead h stream) (fun a => decide (stream ≤ 8191) && (svCtx a stream).isSome) stOk
      (fun a => resB 0 (sviCtxState (strSt a stream)) ||| resB 8 (strSt a stream).lastReleased) same)
  ∧ (∀ h stream, Does (.svStreamRead h stream) (fun a => decide (stream ≤ 8191) && (svCtx a stream).isNone) stOk noResult same)
  ∧ (∀ h stream, Fails (.svStreamRead h stream) (fun _ => decide (8191 < stream)) stFailed 0)
  ∧ (∀ h chain, Does (.fltChainRead h chain) (fun _ => decide (chain ≤ 65535)) stOk
      (fun a => resB 0 (fltChainState a chain) ||| resB 8 (chainSt a chain).lastInst) same)
  ∧ (∀ h chain, Fails (.fltChainRead h chain) (fun _ => decide (65535 < chain)) stFailed 0)

/-- Reads of the graph, logic, loop, pair, function, backup and power classes that answer in their completion. -/
def Obligations.SystemReadsAnswer : Prop :=
  (∀ h graph o g, Does (.grfGraphRead h graph) (fun a => tget a.cfg.graphs graph == some (o, g)) stOk
      (fun a =>
        let x := graphSt a graph
        resB 0 (objNum x.o.obj) ||| resB 1 x.setGroup ||| resB 2 g.nodes.length ||| resB 4 (g.libVer % 2 ^ 32)
          ||| resB 8 (x.lateSkip % 2 ^ 64)) same)
  ∧ (∀ h graph, Fails (.grfGraphRead h graph) (fun a => (tget a.cfg.graphs graph).isNone) stFailed 0)
  ∧ (∀ h handle e, Does (.scheduleRead h handle)
      (fun a => decide (handle ≠ 0xFFFF ∧ handle < schedCap) && tget a.grf.sched handle == some e) stOk
      (fun _ => resB 0 (e.sec % 2 ^ 64) ||| resB 8 e.ns ||| resB 12 e.action ||| resB 13 1) same)
  ∧ (∀ h handle, Does (.scheduleRead h handle)
      (fun a => decide (handle ≠ 0xFFFF ∧ handle < schedCap) && (tget a.grf.sched handle).isNone) stOk noResult same)
  ∧ (∀ h handle, Fails (.scheduleRead h handle) (fun _ => decide (handle ≠ 0xFFFF ∧ schedCap ≤ handle)) stFailed 0)
  ∧ (∀ h x, Does (.scheduleRead h 0xFFFF) (fun a => a.flt.pending == some x) stOk
      (fun _ => resB 0 (x.sec % 2 ^ 64) ||| resB 8 x.ns ||| resB 12 5 ||| resB 13 1) same)
  ∧ (∀ h, Does (.scheduleRead h 0xFFFF) (fun a => a.flt.pending.isNone) stOk (fun _ => resB 12 5) same)
  ∧ (∀ h func, Does (.grfShareRead h func) (fun a => !funcBusy func a && funcExists a func) stOk
      (fun a => resB 0 (lastBusy a func % 2 ^ 64) ||| resB 8 (entriesOf a func) ||| resB 12 (readyOf a func)) same)
  ∧ (∀ h func, Fails (.grfShareRead h func) (fun a => funcBusy func a) stBusy 0)
  ∧ (∀ h func, Fails (.grfShareRead h func) (fun a => !funcBusy func a && !funcExists a func) stFailed 0)
  ∧ (∀ h task, Does (.lgcTaskRead h task) (fun a => taskDefined a task) stOk
      (fun a => resB 0 (taskWord a task) ||| resB 8 (taskSt a task).t.lt) same)
  ∧ (∀ h task, Fails (.lgcTaskRead h task) (fun a => !taskDefined a task) stFailed 0)
  ∧ (∀ h, Does (.loopRead h) always stOk (fun a => resB 0 (loopWord a) ||| resB 8 (a.lop.last % 2 ^ 64)) same)
  ∧ (∀ h, Does (.pairStatus h) always stOk
      (fun a => resB 0 (pairWord a) ||| resB 8 (leaseLeft a) ||| resB 12 (flagsNow a).toNat) same)
  ∧ (∀ h, Does (.bkdRtcRead h) always stOk
      (fun a => resB 0 ((rtcMtime a (rtcNow a)).sec % 2 ^ 64) ||| resB 8 (rtcMtime a (rtcNow a)).ns ||| resB 12 (bkdStatus a))
      same)
  ∧ (∀ h, Does (.pwrStatus h) always stOk (fun a => resB 0 (pwrWord a) ||| resB 4 (inputMw a) ||| resB 8 a.pwr.tReady) same)
  ∧ (∀ h slot, Does (.keySlotRead h slot) (fun _ => decide (slot ≤ 255)) stOk
      (fun a => resB 0 (slotWord a slot) ||| resB 8 (kcvOf (slotSt a slot).current)) same)
  ∧ (∀ h slot, Fails (.keySlotRead h slot) (fun _ => decide (255 < slot)) stFailed 0)

/-- Reads that fill a buffer of the host: the buffer at the packet's function and address takes the records, and nothing else
of the accepted state changes. -/
def Obligations.BufferReadsWrite : Prop :=
  (∀ h id count under buf, Does (.sigRead h id count under buf) (fun a => decide (id < Config.signals a.variant ∧ 0 < count ∧ count ≤ 65536)) stOk
      (fun _ => resB 0 count)
      (fun _ a => hostWrite h.func buf
        ((List.range count).flatMap (fun k => readSignal a under (id + k))) a))
  ∧ (∀ h id count under buf, Fails (.sigRead h id count under buf)
      (fun a => decide (Config.signals a.variant ≤ id ∨ count = 0 ∨ 65536 < count)) stFailed 0)
  ∧ (∀ h type first count buf, Does (.plmMapRead h type first count buf)
      (fun _ => decide (type ≤ 2 ∧ 0 < count ∧ count ≤ 65536)) stOk
      (fun a => resB 0 (a.plm.mapGen % 2 ^ 64) ||| resB 8 (a.plm.mapGen % 2 ^ 64))
      (fun _ a => hostWrite h.func buf
        ((List.range count).flatMap (fun i => leBytes 4 (mapEntry a h.func type (first + i)).toNat)) a))
  ∧ (∀ h type first count buf, Fails (.plmMapRead h type first count buf)
      (fun _ => decide (2 < type ∨ count = 0 ∨ 65536 < count)) stFailed 0)
  ∧ (∀ h first count buf, Does (.evrRead h first count buf) (fun _ => decide (0 < count ∧ count ≤ 65536 ∧ buf % 64 = 0)) stOk
      (fun a => resB 0 (a.evr.oldest % 2 ^ 64) ||| resB 8 (a.evr.oldest % 2 ^ 64))
      (fun _ a => hostWrite h.func buf
        ((List.range count).flatMap (fun i => evrBytes (readSeq a (first + i)))) a))
  ∧ (∀ h first count buf, Fails (.evrRead h first count buf)
      (fun _ => decide (count = 0 ∨ 65536 < count ∨ buf % 64 ≠ 0)) stFailed 0)
  ∧ (∀ h buf, Does (.pairHealthRead h buf) always stOk (fun a => resB 0 (a.pair.reportSeq % 2 ^ 64))
      (fun _ a => hostWrite h.func buf a.pair.report a))
  ∧ (∀ h buf, Does (.keyIdentityRead h buf) always stOk noResult
      (fun _ a => hostWrite h.func buf identityBlock a))
  ∧ (∀ h vf buf, Does (.vfStatus h vf buf)
      (fun a => vfExists a vf && decide ((vfSt a vf).admission ≠ .resetting ∧ buf ≠ 0)) stOk
      (fun a => resB 0 (vfWord a vf) ||| resB 4 (vfSt a vf).tol)
      (fun _ a => hostWrite h.func buf
        ((List.range 4).flatMap (fun r => leBytes 8 (share a (vf + 1) r))
          ++ (List.range 4).flatMap (fun r => leBytes 8 (useOf a (vf + 1) r))) a))
  ∧ (∀ h vf, Does (.vfStatus h vf 0) (fun a => vfExists a vf && decide ((vfSt a vf).admission ≠ .resetting)) stOk
      (fun a => resB 0 (vfWord a vf) ||| resB 4 (vfSt a vf).tol) same)
  ∧ (∀ h vf buf, Fails (.vfStatus h vf buf) (fun a => !vfExists a vf) stFailed 0)
  ∧ (∀ h vf buf, Fails (.vfStatus h vf buf) (fun a => vfExists a vf && decide ((vfSt a vf).admission = .resetting)) stBusy 0)

/-! ### ACTION kind -/

/-- The general class: a commit that passes its checks, one that fails them or does not fit, an abort, and queue pairs (02 R75 to
R80, R86, R87). -/
def Obligations.GeneralActionsAct : Prop :=
  (∀ h, Does (.configCommit h)
      (fun a => decide (storedSize (candidate a h.func) ≤ 18874368) && a.lgc.switchAt.isNone
        && (match validate a h.func with | .good => true | _ => false)) stOk
      (fun a => resB 0 (a.cmd.gen + 1)) (fun _ a => commitStaging h.func a))
  ∧ (∀ h, Does (.configCommit h) (fun a => decide (18874368 < storedSize (candidate a h.func))) stQueueFull
      (fun a => resB 0 (storedSize (candidate a h.func))) same)
  ∧ (∀ h, Does (.configCommit h)
      (fun a => decide (storedSize (candidate a h.func) ≤ 18874368) && a.lgc.switchAt.isSome) stBusy noResult same)
  ∧ (∀ h x, Does (.configCommit h)
      (fun a => decide (storedSize (candidate a h.func) ≤ 18874368) && a.lgc.switchAt.isNone
        && (match validate a h.func with | .bad y => y == x | _ => false)) stFailed (fun _ => failName x) same)
  ∧ (∀ h x e, Does (.configCommit h)
      (fun a => decide (storedSize (candidate a h.func) ≤ 18874368) && a.lgc.switchAt.isNone
        && (match validate a h.func with | .noPlace y d => y == x && d == e | _ => false)) stFailed (fun _ => failName x)
      (fun _ a => recordEvent (evPkg 0x0801 (e.1 + 256 * e.2.1) e.2.2 0 e.2.1) a))
  ∧ (∀ h, Does (.configAbort h) always stOk (fun a => resB 0 (staged a h.func).length)
      (fun _ a => { a with cmd := { a.cmd with staging := tdel a.cmd.staging h.func } }))
  ∧ (∀ h p, Does (.queueCreate h p) (fun a => queueOk h.func p && !thas a.cmd.qps (h.func, p.qp)) stOk noResult
      (fun _ a => { a with cmd := { a.cmd with qps := tset a.cmd.qps (h.func, p.qp) (newQp p) } }))
  ∧ (∀ h p, Fails (.queueCreate h p) (fun a => !queueOk h.func p || thas a.cmd.qps (h.func, p.qp)) stFailed 0)
  ∧ (∀ h qp, Does (.queueDelete h qp)
      (fun a => pairRange h.func qp && decide (h.qp ≠ qp) && (match tget a.cmd.qps (h.func, qp) with
        | some x => decide (ringWaiting x = 0 ∧ takenCount a h.func qp = 0)
        | none => false)) stOk noResult
      (fun _ a => dropPairs h.func (fun q => q == qp) a))
  ∧ (∀ h qp, Fails (.queueDelete h qp)
      (fun a => pairRange h.func qp && (match tget a.cmd.qps (h.func, qp) with
        | some x => decide (h.qp = qp ∨ 0 < ringWaiting x ∨ 0 < takenCount a h.func qp)
        | none => false)) stBusy 0)
  ∧ (∀ h qp, Fails (.queueDelete h qp) (fun a => !(pairRange h.func qp && thas a.cmd.qps (h.func, qp))) stFailed 0)

/-- The time, switch and stream classes: ACCEPT_PATH, a booked TIM_STEP, learned entries flushed, a stream's RESYNC request
(03 R119, R124, R128; 05 R178; 06 R203). -/
def Obligations.NetworkActionsAct : Prop :=
  (∀ h lan, Does (.acceptPath h lan) (fun _ => decide (lan ≤ 1)) stOk noResult (fun _ a => acceptPath lan a))
  ∧ (∀ h lan, Fails (.acceptPath h lan) (fun _ => decide (1 < lan)) stFailed 0)
  ∧ (∀ h atSec, Waits (.timStep h atSec)
      (fun a => a.tim.step.isNone && decide ((now a).sec + 2 ≤ atSec))
      (fun j a => { a with tim := { a.tim with step := some ⟨atSec, h.func, h.qp, j⟩ } }))
  ∧ (∀ h atSec, Fails (.timStep h atSec) (fun a => a.tim.step.isSome) stBusy 0)
  ∧ (∀ h atSec, Fails (.timStep h atSec)
      (fun a => a.tim.step.isNone && h.strict && mlt ⟨atSec, 0, 0⟩ (now a)) stPast 0)
  ∧ (∀ h atSec, Fails (.timStep h atSec)
      (fun a => a.tim.step.isNone && !(h.strict && mlt ⟨atSec, 0, 0⟩ (now a)) && decide (atSec < (now a).sec + 2)) stFailed 0)
  ∧ (∀ h port, Does (.swcLearnFlush h port) always stOk
      (fun a => resB 0 (a.swc.learned.filter (fun l => port == 0xFF || l.port == port)).length)
      (fun _ a => { a with swc := { a.swc with learned := a.swc.learned.filter (fun l => !(port == 0xFF || l.port == port)) } }))
  ∧ (∀ h stream, Does (.svResync h stream)
      (fun a => decide (stream ≤ 8191) && decide ((strSt a stream).o.obj = .on)
        && decide ((strSt a stream).sup = .good ∨ (strSt a stream).sup = .questionable)) stOk noResult
      (fun _ a => setStr stream { strSt a stream with resyncReq := some 4 } a))
  ∧ (∀ h stream, Does (.svResync h stream)
      (fun a => decide (stream ≤ 8191) && !(decide ((strSt a stream).o.obj = .on)
        && decide ((strSt a stream).sup = .good ∨ (strSt a stream).sup = .questionable))) stOk noResult same)
  ∧ (∀ h stream, Fails (.svResync h stream) (fun _ => decide (8191 < stream)) stFailed 0)
  ∧ (∀ h, Does (.plmFreeze h 1) always stOk noResult (fun _ a => { a with plm := { a.plm with frozen := true } }))
  ∧ (∀ h, Does (.plmFreeze h 0) always stOk noResult
      (fun _ a => foldSt rebalance a.plm.rebalDue { a with plm := { a.plm with frozen := false } }))
  ∧ (∀ h enable, Fails (.plmFreeze h enable) (fun _ => decide (1 < enable)) stFailed 0)

/-- Enable and disable of ports, streams, subscriptions, publications, graphs and groups, tasks, the loop and VFs: the object
takes the step of Table GRF-6 (09 R292 to R294). -/
def Obligations.EnablesAct : Prop :=
  (∀ h port en st, Does (.netPortEnable h port (if en then 1 else 0)) (fun a => (portChange port en 0 a).2 == st) st noResult
      (fun j a => (portChange port en j a).1))
  ∧ (∀ h stream en st, Does (.svStreamEnable h stream (if en then 1 else 0))
      (fun a => decide (stream ≤ 8191) && (!en || (svCtx a stream).isSome) && (streamChange stream en 0 a).1 == st) st noResult
      (fun j a => (streamChange stream en j a).2))
  ∧ (∀ h ctx en st, Does (.sigGsEnable h ctx (if en then 1 else 0))
      (fun a => decide (ctx ≤ 32767) && (gsCtx a ctx).isSome && (objChange en (gsSt a ctx).o).2.1 == st) st noResult
      (fun j a =>
        let t := setGs ctx { gsSt a ctx with o := (objChange en (gsSt a ctx).o).1 } a
        if (objChange en (gsSt a ctx).o).2.2 = .cancel then evCancel 6 ctx j t else t))
  ∧ (∀ h ctx en st, Does (.sigGpEnable h ctx (if en then 1 else 0))
      (fun a => decide (ctx < 32768) && (gpCtx a ctx).isSome && (objChange en (gpSt a ctx).o).2.1 == st) st noResult
      (fun j a =>
        let t := setGp ctx { gpSt a ctx with o := (objChange en (gpSt a ctx).o).1 } a
        if (objChange en (gpSt a ctx).o).2.2 = .cancel then evCancel 6 ctx j t else t))
  ∧ (∀ h n en st, Does (.sigGpEnable h (32768 + n) (if en then 1 else 0))
      (fun a => decide (n ≤ 32767) && (svpCtx a n).isSome && (objChange en (svpSt a n).o).2.1 == st) st noResult
      (fun j a =>
        let t := setSvp n { svpSt a n with o := (objChange en (svpSt a n).o).1 } a
        if (objChange en (svpSt a n).o).2.2 = .cancel then evCancel 6 (32768 + n) j t else t))
  ∧ (∀ h graph en st, Does (.grfEnable h 0 (if en then 1 else 0) graph)
      (fun a => graphExists a graph && (graphChange graph en 0 a).1 == st) st noResult (fun j a => (graphChange graph en j a).2))
  ∧ (∀ h id o g en st, Does (.grfEnable h 1 (if en then 1 else 0) id)
      (fun a => tget a.cfg.graphs (id / 64) == some (o, g) && decide (id % 64 < g.ngroups)
        && (groupChange (id / 64) (id % 64) en 0 a).1 == st) st noResult
      (fun j a => (groupChange (id / 64) (id % 64) en j a).2))
  ∧ (∀ h task en st, Does (.lgcEnable h task (if en then 1 else 0))
      (fun a => taskDefined a task && (objChange en (taskSt a task).o).2.1 == st) st noResult
      (fun j a =>
        let t := setTask task { taskSt a task with o := (objChange en (taskSt a task).o).1 } a
        match (objChange en (taskSt a task).o).2.2 with
        | .start => taskStart task t
        | .drain => if scanPending t task then t else taskDrained task t
        | .cancel => evCancel 9 task j t
        | .nothing => t))
  ∧ (∀ h en st, Does (.loopEnable h (if en then 1 else 0)) (fun a => a.cfg.loop.isSome && (loopChange en 0 a).1 == st) st noResult
      (fun j a => (loopChange en j a).2))
  ∧ (∀ h vf en st, Does (.vfEnable h vf (if en then 1 else 0))
      (fun a => vfExists a vf && decide ((vfSt a vf).admission ≠ .resetting) && (vfChange vf en 0 a).1 == st) st noResult
      (fun j a => (vfChange vf en j a).2))
  ∧ (∀ h port enable, Fails (.netPortEnable h port enable) (fun _ => decide (1 < enable)) stFailed 0)
  ∧ (∀ h stream enable, Fails (.svStreamEnable h stream enable)
      (fun a => decide (8191 < stream ∨ 1 < enable) || (enable == 1 && (svCtx a stream).isNone)) stFailed 0)
  ∧ (∀ h ctx enable, Fails (.sigGsEnable h ctx enable)
      (fun a => decide (32767 < ctx ∨ 1 < enable) || (gsCtx a ctx).isNone) stFailed 0)
  ∧ (∀ h ctx enable, Fails (.sigGpEnable h ctx enable) (fun _ => decide (65535 < ctx ∨ 1 < enable)) stFailed 0)
  ∧ (∀ h type enable id, Fails (.grfEnable h type enable id) (fun _ => decide (1 < type ∨ 1 < enable)) stFailed 0)
  ∧ (∀ h task enable, Fails (.lgcEnable h task enable) (fun a => decide (1 < enable) || !taskDefined a task) stFailed 0)
  ∧ (∀ h enable, Fails (.loopEnable h enable) (fun a => decide (1 < enable) || a.cfg.loop.isNone) stFailed 0)
  ∧ (∀ h vf enable, Fails (.vfEnable h vf enable)
      (fun a => !vfExists a vf || decide ((vfSt a vf).admission ≠ .resetting ∧ 1 < enable)) stFailed 0)
  ∧ (∀ h vf enable, Fails (.vfEnable h vf enable) (fun a => vfExists a vf && decide ((vfSt a vf).admission = .resetting)) stBusy 0)

/-- The rows of Table GRF-6: what an enable and a disable do in each object state, and their statuses (09 R292 to R294). -/
def Obligations.ObjectStatesMove : Prop :=
  (∀ o : ObjSt, o.obj = .off → objEnable o = (⟨.starting, false, false⟩, stOk, .start) ∧ objDisable o = (o, stOk, .nothing))
  ∧ (∀ o : ObjSt, o.obj = .starting → o.drainBooked = false →
      objEnable o = (o, stOk, .nothing) ∧ objDisable o = ({ o with drainBooked := true }, stOk, .nothing))
  ∧ (∀ o : ObjSt, o.obj = .starting → o.drainBooked = true →
      objEnable o = ({ o with drainBooked := false }, stOk, .cancel) ∧ objDisable o = (o, stOk, .nothing))
  ∧ (∀ o : ObjSt, o.obj = .on → objEnable o = (o, stOk, .nothing) ∧ objDisable o = ({ o with obj := .draining }, stOk, .drain))
  ∧ (∀ o : ObjSt, o.obj = .draining → o.enPending = false →
      objEnable o = ({ o with enPending := true }, stPending, .nothing) ∧ objDisable o = (o, stOk, .nothing))
  ∧ (∀ o : ObjSt, o.obj = .draining → o.enPending = true →
      objEnable o = (o, stPending, .nothing) ∧ objDisable o = ({ o with enPending := false }, stOk, .cancel))

/-- FLT_HEEL, SIG_WRITE and SIG_FORCE: a heel is booked at its instant, a host write waits for the next boundary, and a force or
its release waits for it too (07 R228, 08 R256, R259). -/
def Obligations.SignalActionsAct : Prop :=
  (∀ h atSec atNs clear, Does (.fltHeel h atSec atNs clear)
      (fun a => a.flt.pending.isNone && decide (clear ≤ 1 ∧ atNs < 1000000000 ∧ atSec ≤ (now a).sec + 86400)
        && !mlt (secNs atSec atNs) (mtimeOfUnits (munits (now a) + 10000 * two32))) stOk
      (fun _ => resB 0 (atSec % 2 ^ 64) ||| resB 8 atNs)
      (fun _ a => { a with flt := { a.flt with pending := some ⟨atSec, atNs, clear == 1, 0, h.strict⟩ } }))
  ∧ (∀ h atSec atNs clear, Fails (.fltHeel h atSec atNs clear) (fun a => a.flt.pending.isSome) stBusy 0)
  ∧ (∀ h atSec atNs clear, Fails (.fltHeel h atSec atNs clear)
      (fun a => a.flt.pending.isNone && h.strict && mlt (secNs atSec atNs) (mtimeOfUnits (munits (now a) + 10000 * two32)))
      stPast 0)
  ∧ (∀ h atSec atNs clear, Fails (.fltHeel h atSec atNs clear)
      (fun a => a.flt.pending.isNone && decide (1 < clear ∨ 1000000000 ≤ atNs ∨ (now a).sec + 86400 < atSec)
        && !(h.strict && mlt (secNs atSec atNs) (mtimeOfUnits (munits (now a) + 10000 * two32)))) stFailed 0)
  ∧ (∀ h atSec atNs clear, Does (.fltHeel h atSec atNs clear)
      (fun a => a.flt.pending.isNone && decide (clear ≤ 1 ∧ atNs < 1000000000 ∧ atSec ≤ (now a).sec + 86400) && !h.strict
        && mlt (secNs atSec atNs) (mtimeOfUnits (munits (now a) + 10000 * two32))) stLate
      (fun a => resB 0 (twos 64 (lateness a atSec atNs))) (fun _ a => takeHeel (now a) (clear == 1) (heelSrc 0) a))
  ∧ (∀ h p d, Does (.sigWrite h p)
      (fun a => sigDef a p.id == some d && decide (d.source = 3 ∧ p.op = 0) && valueFits d.type p.value) stOk noResult
      (fun _ a => pushWrite p.id 3 p.value (qRecv p.qual) none 0 a.sig.writeNo
        { a with sig := { a.sig with writeNo := a.sig.writeNo + 1 } }))
  ∧ (∀ h p, Fails (.sigWrite h p) (fun a => match sigDef a p.id with
      | some d => decide (d.source ≠ 3 ∨ p.op ≠ 0) || !valueFits d.type p.value
      | none => true) stFailed 0)
  ∧ (∀ h p, Does (.sigForce h p)
      (fun a => (p.op == 0 && ((projectedForces a).contains p.id || decide ((projectedForces a).length < forceCap))
          && (match sigDef a p.id with | some d => valueFits d.type p.value | none => false))
        || (p.op == 1 && (sigDef a p.id).isSome && (projectedForces a).contains p.id)) stOk noResult
      (fun _ a => { a with sig := { a.sig with pendForce := a.sig.pendForce ++ [⟨p.id, p.op, p.value, p.qual⟩] } }))
  ∧ (∀ h p, Does (.sigForce h p) (fun a => p.op == 1 && (sigDef a p.id).isSome && !(projectedForces a).contains p.id) stOk
      noResult same)
  ∧ (∀ h p, Fails (.sigForce h p)
      (fun a => p.op == 0 && !(projectedForces a).contains p.id && decide (forceCap ≤ (projectedForces a).length)) stQueueFull 0)
  ∧ (∀ h p, Fails (.sigForce h p) (fun a => decide (1 < p.op) || (p.op == 1 && (sigDef a p.id).isNone)) stFailed 0)

/-- SCHEDULE takes the lowest free handle, or completes late or past; SCHEDULE_CANCEL takes an entry out; GRF_SETTING_GROUP waits
for its boundary (09 R297, R299 to R302). That a setting group's command waits is the model's reading (log entry 57). -/
def Obligations.ScheduleActionsAct : Prop :=
  (∀ h p n, Does (.schedule h p)
      (fun a => decide (p.action ≠ 5) && freeHandle a == some n && a.pwr.restored && decide (p.atNs < 1000000000) && actionOk p
        && actionNames a p.action p.target && !atPast a p.atSec p.atNs) stOk (fun _ => resB 0 n)
      (fun j a => { a with grf := { a.grf with sched := tset a.grf.sched n ⟨p.atSec, p.atNs, p.action, p.target, p.arg0, p.arg1, h.strict, j, h.func, false, now a⟩ } }))
  ∧ (∀ h p n, Does (.schedule h p)
      (fun a => decide (p.action ≠ 5) && freeHandle a == some n && a.pwr.restored && decide (p.atNs < 1000000000) && actionOk p
        && actionNames a p.action p.target && atPast a p.atSec p.atNs && !h.strict) stLate (fun a => resB 0 (twos 64 (lateness a p.atSec p.atNs)))
      (fun j a => { a with grf := { a.grf with sched := tset a.grf.sched n ⟨p.atSec, p.atNs, p.action, p.target, p.arg0, p.arg1, h.strict, j, h.func, true, now a⟩ } }))
  ∧ (∀ h p, Fails (.schedule h p)
      (fun a => decide (p.action ≠ 5) && (freeHandle a).isSome && a.pwr.restored && atPast a p.atSec p.atNs && h.strict) stPast 0)
  ∧ (∀ h p, Fails (.schedule h p) (fun a => decide (p.action ≠ 5) && (freeHandle a).isNone) stQueueFull 0)
  ∧ (∀ h p, Fails (.schedule h p) (fun a => decide (p.action ≠ 5) && (freeHandle a).isSome && !a.pwr.restored) stBusy 0)
  ∧ (∀ h p, Fails (.schedule h p)
      (fun a => decide (p.action ≠ 5) && (freeHandle a).isSome && a.pwr.restored
        && (decide (1000000000 ≤ p.atNs) || !actionOk p || !actionNames a p.action p.target) && !(atPast a p.atSec p.atNs && h.strict)) stFailed 0)
  ∧ (∀ h p, Does (.schedule h p)
      (fun a => decide (p.action = 5 ∧ p.target = 0 ∧ p.arg0 ≤ 1 ∧ p.atNs < 1000000000 ∧ p.atSec ≤ (now a).sec + 86400)
        && a.flt.pending.isNone && !atPast a p.atSec p.atNs) stOk (fun _ => 0xFFFF)
      (fun _ a => { a with flt := { a.flt with pending := some ⟨p.atSec, p.atNs, p.arg0 == 1, 2, h.strict⟩ } }))
  ∧ (∀ h handle, Does (.scheduleCancel h handle) (fun a => decide (handle ≠ 0xFFFF) && thas a.grf.sched handle) stOk noResult
      (fun _ a => { a with grf := { a.grf with sched := tdel a.grf.sched handle } }))
  ∧ (∀ h, Does (.scheduleCancel h 0xFFFF) (fun a => a.flt.pending.isSome) stOk noResult
      (fun _ a => { a with flt := { a.flt with pending := none } }))
  ∧ (∀ h handle, Fails (.scheduleCancel h handle)
      (fun a => if handle = 0xFFFF then a.flt.pending.isNone else !thas a.grf.sched handle) stFailed 0)
  ∧ (∀ h graph group o g, Waits (.grfSettingGroup h graph group)
      (fun a => !thas a.grf.groupCmds graph && tget a.cfg.graphs graph == some (o, g) && decide (group < g.nsets))
      (fun j a =>
        let t := setGraph graph { graphSt a graph with pendGroup := some group } a
        { t with grf := { t.grf with groupCmds := tset t.grf.groupCmds graph ⟨0, h.func, h.qp, j⟩ } }))
  ∧ (∀ h graph group, Fails (.grfSettingGroup h graph group) (fun a => thas a.grf.groupCmds graph) stBusy 0)
  ∧ (∀ h graph group, Fails (.grfSettingGroup h graph group)
      (fun a => !thas a.grf.groupCmds graph && (match tget a.cfg.graphs graph with
        | some e => decide (e.2.nsets ≤ group)
        | none => true)) stFailed 0)

/-- Tasks and the loop: a mode is booked for the next boundary, one step, values and restarts wait, an online image is staged, a
switch is booked, and a coefficient waits 20 µs (12 R381 to R391, 13 R408). -/
def Obligations.LogicActionsAct : Prop :=
  (∀ h task mode, Does (.lgcMode h task mode) (fun a => decide (mode ≤ 2 ∧ task ≠ 0xFF) && taskDefined a task) stOk noResult
      (fun _ a => setTask task { taskSt a task with pendMode := some (lmodeOf mode, 0) } a))
  ∧ (∀ h mode, Does (.lgcMode h 0xFF mode) (fun _ => decide (mode ≤ 2)) stOk noResult
      (fun _ a => foldSt (fun t b => (bookMode t mode 0 b).2) (taskIds a) a))
  ∧ (∀ h task mode, Fails (.lgcMode h task mode) (fun a => decide (2 < mode) || (task != 0xFF && !taskDefined a task)) stFailed 0)
  ∧ (∀ h task, Does (.lgcStep h task)
      (fun a => !(taskSt a task).step && taskDefined a task
        && decide ((taskSt a task).o.obj = .on ∧ (taskSt a task).mode = .hold)) stOk noResult
      (fun j a => setTask task { taskSt a task with step := true, stepSeq := j } a))
  ∧ (∀ h task, Fails (.lgcStep h task) (fun a => (taskSt a task).step) stBusy 0)
  ∧ (∀ h task, Fails (.lgcStep h task)
      (fun a => !(taskSt a task).step && !(taskDefined a task
        && decide ((taskSt a task).o.obj = .on ∧ (taskSt a task).mode = .hold))) stFailed 0)
  ∧ (∀ h p g, Does (.lgcValueWrite h p) (fun a => taskImg a p.task == some g && valueOk g p) stOk noResult
      (fun _ a => { a with lgc := { a.lgc with pendValues := a.lgc.pendValues ++ [⟨p.task, p.what, p.index, p.value⟩] } }))
  ∧ (∀ h p, Fails (.lgcValueWrite h p) (fun a => match taskImg a p.task with
      | some g => !valueOk g p
      | none => true) stFailed 0)
  ∧ (∀ h image keySlot img old, Does (.lgcOnlineLoad h image ⟨keySlot, 0, 0⟩ img)
      (fun a =>
        let b := tset a.lgc.staged2 img.task img
        a.lgc.switchAt.isNone && decide (keySlot ≤ 255 ∧ image.addr % 64 = 0)
        && logicReason a (switchCfg b a.cfg) true image.len keySlot img == 0
        && taskImg a img.task == some old && decide (old.div = img.div)
        && imagesFit a.cfg.cycleLen (procImages a (procOf a img.task) b)
        && !(taskWrites img.task img).any (writeClash (switchCfg b a.cfg))) stOk noResult
      (fun _ a => { a with lgc := { a.lgc with staged2 := tset a.lgc.staged2 img.task img } }))
  ∧ (∀ h image keySlot img, Fails (.lgcOnlineLoad h image ⟨keySlot, 0, 0⟩ img)
      (fun a => a.lgc.switchAt.isNone && decide (keySlot ≤ 255 ∧ image.addr % 64 = 0)
        && logicReason a (switchCfg (tset a.lgc.staged2 img.task img) a.cfg) true image.len keySlot img == 0
        && (taskImg a img.task).isNone) stFailed (resB 0 7))
  ∧ (∀ h image p img, Fails (.lgcOnlineLoad h image p img)
      (fun a => a.lgc.switchAt.isNone && decide (image.addr % 64 ≠ 0 ∨ 255 < p.keySlot ∨ p.valid ≠ 0 ∨ p.task ≠ 0)) stFailed 0)
  ∧ (∀ h image p img, Fails (.lgcOnlineLoad h image p img) (fun a => a.lgc.switchAt.isSome) stBusy 0)
  ∧ (∀ h, Does (.lgcOnlineSwitch h 0)
      (fun a => a.lgc.switchAt.isNone && !a.lgc.staged2.isEmpty && !switchTooLong a && !switchBreaks a) stOk
      (fun a => resB 0 (switchCycle a % 2 ^ 64))
      (fun j a => { a with lgc := { a.lgc with switchAt := some (switchCycle a), switchSeq := j } }))
  ∧ (∀ h, Does (.lgcOnlineSwitch h 1) (fun a => a.lgc.switchAt.isNone) stOk noResult
      (fun _ a => { a with lgc := { a.lgc with staged2 := [] } }))
  ∧ (∀ h cancel, Fails (.lgcOnlineSwitch h cancel) (fun a => a.lgc.switchAt.isSome) stBusy 0)
  ∧ (∀ h task kind, Does (.lgcRestart h task kind) (fun a => decide (kind ≤ 1) && taskDefined a task) stOk noResult
      (fun _ a => setTask task { taskSt a task with pendRestart := some kind } a))
  ∧ (∀ h task kind, Fails (.lgcRestart h task kind) (fun a => decide (1 < kind) || !taskDefined a task) stFailed 0)
  ∧ (∀ h index value, Does (.loopCoefWrite h index value)
      (fun a => decide (index ≤ 36) && coefOk index value && a.cfg.loop.isSome) stOk
      (fun a => resB 0 (instantFrom (loopRate a) (mtimeOfUnits (munits (now a) + 20000 * two32)) % 2 ^ 64))
      (fun j a =>
        let n := instantFrom (loopRate a) (mtimeOfUnits (munits (now a) + 20000 * two32))
        let t := { a with lop := { a.lop with pend := a.lop.pend ++ [⟨index, value, n, false, j⟩] } }
        if a.pair.state = .active then leashSend (.coef index value ⟨n, j⟩) 0 0 t else t))
  ∧ (∀ h index value, Fails (.loopCoefWrite h index value)
      (fun a => decide (36 < index) || !coefOk index value || a.cfg.loop.isNone) stFailed 0)

/-- The pair and the functions: a relinquishment waits, a rekey is booked, a VF quiesces, resumes, is granted capacity, gets its
custody back or another latency tolerance (14 R453, R454; 15 R463, R467, R468, R470, R475). -/
def Obligations.FunctionActionsAct : Prop :=
  (∀ h, Waits (.pairRelinquish h)
      (fun a => a.pair.relinquish.isNone && decide (a.pair.state = .active) && partnerState a == 2)
      (fun j a => setFlag 1 true { a with pair := { a.pair with relinquish := some ⟨0, h.func, h.qp, j⟩, relinquishRaw := a.tim.raw } }))
  ∧ (∀ h, Fails (.pairRelinquish h) (fun a => a.pair.relinquish.isSome) stBusy 0)
  ∧ (∀ h, Fails (.pairRelinquish h)
      (fun a => a.pair.relinquish.isNone && (decide (a.pair.state ≠ .active) || partnerState a != 2)) stFailed 0)
  ∧ (∀ h slot atCycle, Does (.pairLeashRekey h slot atCycle)
      (fun a => decide (slot ≤ 255 ∧ slot = a.cfg.pair.leashSlot ∧ a.cycleNum + 8 ≤ atCycle) && (slotSt a slot).pending.isSome)
      stOk noResult (fun j a => { a with pair := { a.pair with rekey := some (slot, atCycle), rekeySeq := j } }))
  ∧ (∀ h slot atCycle, Fails (.pairLeashRekey h slot atCycle)
      (fun a => decide (255 < slot ∨ slot ≠ a.cfg.pair.leashSlot ∨ atCycle < a.cycleNum + 8) || (slotSt a slot).pending.isNone)
      stFailed 0)
  ∧ (∀ h vf, Waits (.vfQuiesce h vf)
      (fun a => vfExists a vf && decide ((vfSt a vf).o.obj = .on ∧ (vfSt a vf).admission = .open_))
      (fun j a => changeVf vf 0 { vfSt a vf with admission := .quiescing, quiesceCmd := some ⟨0, h.func, h.qp, j⟩ } a))
  ∧ (∀ h vf, Does (.vfQuiesce h vf)
      (fun a => vfExists a vf && decide ((vfSt a vf).o.obj = .on ∧ (vfSt a vf).admission = .quiesced)) stOk noResult same)
  ∧ (∀ h vf, Fails (.vfQuiesce h vf)
      (fun a => vfExists a vf && decide ((vfSt a vf).o.obj = .on ∧ (vfSt a vf).admission = .quiescing)) stBusy 0)
  ∧ (∀ h vf, Fails (.vfQuiesce h vf)
      (fun a => !vfExists a vf || decide ((vfSt a vf).o.obj ≠ .on ∧ (vfSt a vf).admission ≠ .resetting)) stFailed 0)
  ∧ (∀ h vf p s, packetOf (.vfResume h vf) = some p → runs p s = true → vfExists s vf = true → (vfSt s vf).o.obj = .on →
      (vfSt s vf).admission = .quiesced →
      exec (.vfResume h vf) s = .next (serveHeld (finished p stOk 0 s
        (changeVf vf 0 { vfSt s vf with admission := .open_ } (afterAccept p s)))))
  ∧ (∀ h vf res grant, Does (.vfShareSet h vf res grant)
      (fun a => vfExists a vf && decide ((vfSt a vf).admission ≠ .resetting ∧ res ≤ 3 ∧ grant ≤ capacity a res)
        && (let t := setVf vf { vfSt a vf with grants := (vfSt a vf).grants.set res grant } a
            decide (useOf a 0 res + vfCount a * vfFloor a res + grantSum t res ≤ capacity a res
              ∧ (res ≠ 0 ∨ useOf a (vf + 1) 0 ≤ share t (vf + 1) 0)))) stOk
      (fun a => resB 0 (share (setVf vf { vfSt a vf with grants := (vfSt a vf).grants.set res grant } a) (vf + 1) res % 2 ^ 64))
      (fun _ a =>
        let t := setVf vf { vfSt a vf with grants := (vfSt a vf).grants.set res grant } a
        recordEvent (evPkg 0x0C04 (vf + 256 * res) grant (share t (vf + 1) res) vf) t))
  ∧ (∀ h vf res grant, Fails (.vfShareSet h vf res grant)
      (fun a => !vfExists a vf || (decide ((vfSt a vf).admission ≠ .resetting) && decide (3 < res ∨ capacity a res < grant))) stFailed 0)
  ∧ (∀ h vf, Does (.vfCustodyReturn h vf)
      (fun a => vfExists a vf && decide ((vfSt a vf).o.obj = .on ∧ (vfSt a vf).admission = .open_)) stOk
      (fun a => resB 0 ((vfGraphs a vf).filter (fun g => (graphSt a g).custody)).length)
      (fun _ a =>
        let gs := (vfGraphs a vf).filter (fun g => (graphSt a g).custody)
        rechooseAll (evCustody vf gs.length 1 (foldSt (fun g b => setGraph g { graphSt b g with custody := false } b) gs a))))
  ∧ (∀ h vf, Fails (.vfCustodyReturn h vf)
      (fun a => !vfExists a vf || decide ((vfSt a vf).admission ≠ .resetting ∧ ((vfSt a vf).o.obj ≠ .on ∨ (vfSt a vf).admission ≠ .open_)))
      stFailed 0)
  ∧ (∀ h tol, Does (.vfLatencySet h 0 tol) (fun _ => decide (20 ≤ tol ∧ tol ≤ 1000000000)) stOk noResult
      (fun _ a => rechooseAll { a with vfn := { a.vfn with pfTol := tol } }))
  ∧ (∀ h v tol, Does (.vfLatencySet h (v + 1) tol)
      (fun a => vfExists a v && decide ((vfSt a v).admission ≠ .resetting ∧ 20 ≤ tol ∧ tol ≤ 1000000000)) stOk noResult
      (fun _ a => rechooseAll (setVf v { vfSt a v with tol := tol } a)))
  ∧ (∀ h tol, Fails (.vfLatencySet h 0 tol) (fun _ => decide (tol < 20 ∨ 1000000000 < tol)) stFailed 0)
  ∧ (∀ h vf, Fails (.vfQuiesce h vf) (fun a => vfExists a vf && decide ((vfSt a vf).admission = .resetting)) stBusy 0)
  ∧ (∀ h vf res grant, Fails (.vfShareSet h vf res grant)
      (fun a => vfExists a vf && decide ((vfSt a vf).admission = .resetting)) stBusy 0)
  ∧ (∀ h vf, Fails (.vfCustodyReturn h vf) (fun a => vfExists a vf && decide ((vfSt a vf).admission = .resetting)) stBusy 0)

/-- The event recorder's commands (16 R491, Tables EVR-5 and EVR-6). -/
def Obligations.EventActionsAct : Prop :=
  (∀ h upto, Does (.evrClear h upto)
      (fun a => decide (a.evr.oldest ≤ (if upto = 0 then a.evr.next - 1 else upto) ∧ (if upto = 0 then a.evr.next - 1 else upto) < a.evr.next))
      stOk (fun a => resB 0 (((if upto = 0 then a.evr.next - 1 else upto) + 1) % 2 ^ 64))
      (fun j a =>
        let u := if upto = 0 then a.evr.next - 1 else upto
        raise 0x0D01 a.evr.oldest (u + 1) j { a with evr := { a.evr with oldest := u + 1, clearedTo := u + 1 } }))
  ∧ (∀ h upto, Does (.evrClear h upto)
      (fun a => decide ((if upto = 0 then a.evr.next - 1 else upto) < a.evr.oldest ∧ (if upto = 0 then a.evr.next - 1 else upto) < a.evr.next))
      stOk (fun a => resB 0 (a.evr.oldest % 2 ^ 64)) same)
  ∧ (∀ h upto, Fails (.evrClear h upto) (fun a => decide (a.evr.next ≤ (if upto = 0 then a.evr.next - 1 else upto))) stFailed 0)
  ∧ (∀ h p1 p2 p3, Does (.evrMark h p1 p2 p3) (fun a => !stageFull a) stOk (fun a => resB 0 (a.evr.next % 2 ^ 64))
      (fun _ a => raise 0x0D04 p1 p2 p3 a))
  ∧ (∀ h p1 p2 p3, Fails (.evrMark h p1 p2 p3) (fun a => stageFull a) stQueueFull 0)

/-- Keys: loads put a key into PENDING or count their failure, a PENDING key is verified, committed at once or at a cycle,
discarded; an attestation is written; firmware is written and its activation waits; the rollback floor, the latch and the
recovery key (17 R510 to R531). -/
def Obligations.KeyActionsAct : Prop :=
  (∀ h slot buf b, calm b.run = true → Does (.keyImport h slot buf b)
      (fun a => decide (slot ≤ 255) && (slotSt a slot).booked.isNone && (headFault a slot b.head (importedKey b).isSome).isNone) stOk
      (fun a => resB 0 (kcvOf (some (importKeyOf b a))))
      (fun _ a =>
        let t := setPending slot (importKeyOf b a) a
        hostWrite h.func buf (blobOf t (importKeyOf b a) b.head.wrapper b.head.context) (drawn t)))
  ∧ (∀ h slot buf b r, calm b.run = true → Does (.keyImport h slot buf b)
      (fun a => decide (slot ≤ 255) && (slotSt a slot).booked.isNone && headFault a slot b.head (importedKey b).isSome == some r) stFailed
      (fun _ => resB 0 r) (fun _ a => raiseObj 0x0E03 slot r 0 (bump .keyUnwrapFail a)))
  ∧ (∀ h slot b, calm b.run = true → Does (.keyLoad h slot b)
      (fun a => decide (slot ≤ 255) && (slotSt a slot).booked.isNone && (blobFault a slot b).isNone) stOk
      (fun a => resB 0 (kcvOf (some (loadKeyOf b a))))
      (fun _ a => setPending slot (loadKeyOf b a) a))
  ∧ (∀ h slot b r, calm b.run = true → Does (.keyLoad h slot b)
      (fun a => decide (slot ≤ 255) && (slotSt a slot).booked.isNone && blobFault a slot b == some r) stFailed
      (fun _ => resB 0 r) (fun _ a => raiseObj 0x0E03 slot r 0 (bump .keyUnwrapFail a)))
  ∧ (∀ h p, calm p.run = true → Does (.keyGenerate h p)
      (fun a => decide (p.slot ≤ 255 ∧ p.type ≤ 2) && (slotSt a p.slot).booked.isNone
        && (loadFault a p.slot p.type p.engine p.persist 0xFFFF true).isNone) stOk
      (fun a => resB 0 (kcvOf (some (madeKeyOf p a))))
      (fun _ a =>
        let k := madeKeyOf p a
        let t := setPending p.slot k (drawn a)
        hostWrite h.func p.buf ((blobOf t k 0xFFFF p.context ++ (if p.type = 2 then Config.publicPoint k.material else [])))
          (drawn t)))
  ∧ (∀ h slot mode kcv run k, calm run = true → Does (.keyVerify h slot mode kcv run)
      (fun a => decide (slot ≤ 255) && (slotSt a slot).booked.isNone && (slotSt a slot).pending == some k && keyPasses mode kcv run k)
      stOk noResult
      (fun _ a => bump .keyOps (setSlot slot { slotSt a slot with verified := true } a)))
  ∧ (∀ h slot mode kcv run, calm run = true → Fails (.keyVerify h slot mode kcv run)
      (fun a => decide (slot ≤ 255) && (slotSt a slot).booked.isNone && (match (slotSt a slot).pending with
        | some k => !keyPasses mode kcv run k
        | none => true)) stFailed 0)
  ∧ (∀ h slot, Does (.keyCommit h slot 0)
      (fun a => decide (slot ≤ 255) && (slotSt a slot).booked.isNone && committable a slot) stOk
      (fun a => resB 0 (kcvOf (slotSt (commitKey none slot a) slot).current)) (fun _ a => commitKey none slot a))
  ∧ (∀ h slot atCycle, Waits (.keyCommit h slot atCycle)
      (fun a => decide (slot ≤ 255 ∧ atCycle ≠ 0 ∧ a.cycleNum + 2 ≤ atCycle) && (slotSt a slot).booked.isNone && committable a slot)
      (fun j a => setSlot slot { slotSt a slot with booked := some (atCycle, ⟨0, h.func, h.qp, j⟩) } a))
  ∧ (∀ h slot atCycle, Fails (.keyCommit h slot atCycle)
      (fun a => decide (slot ≤ 255) && (slotSt a slot).booked.isNone
        && (!committable a slot || decide (atCycle ≠ 0 ∧ atCycle < a.cycleNum + 2))) stFailed 0)
  ∧ (∀ h slot, Does (.keyDiscard h slot 0) (fun a => decide (slot ≤ 255) && (slotSt a slot).booked.isNone) stOk noResult
      (fun _ a => bump .keyOps (setSlot slot { slotSt a slot with pending := none, verified := false } a)))
  ∧ (∀ h slot, Does (.keyDiscard h slot 1)
      (fun a => decide (slot ≤ 255) && (slotSt a slot).booked.isNone && !slotNamed a slot) stOk noResult
      (fun _ a => bump .keyOps { a with key := { a.key with slots := tdel a.key.slots slot } }))
  ∧ (∀ h slot, Fails (.keyDiscard h slot 1)
      (fun a => decide (slot ≤ 255) && (slotSt a slot).booked.isNone && slotNamed a slot) stFailed 0)
  ∧ (∀ h slot p buf k, calm p.run = true → Does (.keyAttest h slot 0xFFFF p buf)
      (fun a => decide (slot ≤ 255) && (slotSt a slot).current == some k) stOk noResult
      (fun _ a => bump .keyOps (hostWrite h.func buf ((statementBytes a slot k p.challenge
        ++ fixLen 96 (Config.sign identityKey (statementBytes a slot k p.challenge)))) a)))
  ∧ (∀ h slot signer p buf k sk, calm p.run = true → Does (.keyAttest h slot signer p buf)
      (fun a => decide (slot ≤ 255 ∧ signer ≠ 0xFFFF) && (slotSt a slot).current == some k && engineKey a signer 4 [2] == some sk)
      stOk noResult
      (fun _ a => bump .keyOps (hostWrite h.func buf ((statementBytes a slot k p.challenge
        ++ fixLen 96 (Config.sign sk.material (statementBytes a slot k p.challenge)))) a)))
  ∧ (∀ h slot signer p buf, calm p.run = true → Fails (.keyAttest h slot signer p buf)
      (fun a => decide (255 < slot) || (slotSt a slot).current.isNone) stFailed 0)
  ∧ (∀ h slot signer p buf, calm p.run = true → Fails (.keyAttest h slot signer p buf)
      (fun a => decide (signer ≠ 0xFFFF) && (engineKey a signer 4 [2]).isNone) stFailed 0)
  ∧ (∀ h offset data, Does (.keyFwWrite h offset data)
      (fun a => a.key.activate.isNone && decide (offset % 65536 = 0 ∧ data.length ≤ 1048576)) stOk noResult
      (fun _ a =>
        let x := fwImage a (otherImage a)
        setFw (otherImage a) { x with valid := x.valid && decide (offset ≠ 0), written := x.written ++ [(offset, data)] } a))
  ∧ (∀ h offset data, Fails (.keyFwWrite h offset data) (fun a => a.key.activate.isSome) stBusy 0)
  ∧ (∀ h offset data, Fails (.keyFwWrite h offset data)
      (fun a => a.key.activate.isNone && decide (offset % 65536 ≠ 0 ∨ 1048576 < data.length)) stFailed 0)
  ∧ (∀ h, Waits (.keyFwActivate h) (fun a => a.key.activate.isNone)
      (fun j a => { a with key := { a.key with activate := some ⟨0, h.func, h.qp, j⟩ } }))
  ∧ (∀ h, Fails (.keyFwActivate h) (fun a => a.key.activate.isSome) stBusy 0)
  ∧ (∀ h level, Waits (.keyRollbackAdvance h level)
      (fun a => a.key.blowing.isNone && decide (level ≤ 64 ∧ a.key.rollback < level ∧ level ≤ (fwImage a a.key.running).svn))
      (fun j a => { a with key := { a.key with blowing := some (level, ⟨0, h.func, h.qp, j⟩) } }))
  ∧ (∀ h level, Fails (.keyRollbackAdvance h level)
      (fun a => a.key.blowing.isNone && decide (64 < level ∨ level ≤ a.key.rollback ∨ (fwImage a a.key.running).svn < level)) stFailed 0)
  ∧ (∀ h sign point, Does (.keyTamperClear h 0 sign)
      (fun a => a.key.recovery == some point && signatureOk sign (.point point) (clearText a)) stOk noResult
      (fun j a => raise 0x0E06 a.key.count 0 j { a with key := { a.key with latch := false, cause := 0 } }))
  ∧ (∀ h kind sign, Fails (.keyTamperClear h kind sign) (fun a => !clearSigned a kind sign) stFailed 0)
  ∧ (∀ h point, Does (.keyRecoverySet h point) always stOk noResult
      (fun _ a => { a with key := { a.key with recovery := some point } }))
  ∧ (∀ h sign, Does (.keyTamperClear h 1 sign) (fun a => signatureOk sign .vendorService (clearText a)) stOk noResult
      (fun j a => raise 0x0E06 a.key.count 1 j { a with key := { a.key with latch := false, cause := 0 } }))
  ∧ (∀ h slot b c, b.run.trip = some c → Does (.keyLoad h slot b)
      (fun a => decide (slot ≤ 255) && (slotSt a slot).booked.isNone && sourceArmed c a) stTamper noResult
      (fun _ a => tripRunning c (bump .keyTamperAbort a)))
  ∧ (∀ h slot buf b c, b.run.trip = some c → Does (.keyImport h slot buf b)
      (fun a => decide (slot ≤ 255) && (slotSt a slot).booked.isNone && sourceArmed c a) stTamper noResult
      (fun _ a => tripRunning c (bump .keyTamperAbort a)))
  ∧ (∀ h p c, p.run.trip = some c → Does (.keyGenerate h p)
      (fun a => decide (p.slot ≤ 255) && (slotSt a p.slot).booked.isNone && sourceArmed c a) stTamper noResult
      (fun _ a => tripRunning c (bump .keyTamperAbort a)))
  ∧ (∀ h slot mode kcv run c, run.trip = some c → Does (.keyVerify h slot mode kcv run)
      (fun a => decide (slot ≤ 255) && (slotSt a slot).booked.isNone && sourceArmed c a) stTamper noResult
      (fun _ a => tripRunning c (bump .keyTamperAbort a)))
  ∧ (∀ h slot signer p buf c, p.run.trip = some c → Does (.keyAttest h slot signer p buf)
      (fun a => sourceArmed c a) stTamper noResult
      (fun _ a => tripRunning c (bump .keyTamperAbort a)))
  ∧ (∀ h slot mode kcv run, run.trip = none → run.parity = true → Does (.keyVerify h slot mode kcv run)
      (fun a => decide (slot ≤ 255) && (slotSt a slot).booked.isNone) stFailed noResult
      (fun _ a => correctParity 0 (.keyShare slot) a))

/-- The calendar clock, the alarm, the power-on request, the restart and the restore (18 R545 to R549, R551, R553; 19 R563,
R571). -/
def Obligations.BackupActionsAct : Prop :=
  (∀ h, Does (.bkdRtcHalt h) (fun a => !a.bkd.halted) stOk noResult
      (fun _ a =>
        let t := rtcSync a
        { t with bkd := { t.bkd with halted := true, haltRaw := a.tim.raw, shadow := t.bkd.rtc } }))
  ∧ (∀ h, Does (.bkdRtcHalt h) (fun a => a.bkd.halted) stOk noResult same)
  ∧ (∀ h c, Does (.bkdRtcWrite h c)
      (fun a => a.bkd.halted && decide (c.year < 65536 ∧ c.month < 256 ∧ c.day < 256 ∧ c.hour < 256 ∧ c.min < 256 ∧ c.sec < 256
        ∧ c.subsec < 65536)) stOk noResult (fun _ a => { a with bkd := { a.bkd with shadow := c } }))
  ∧ (∀ h c, Fails (.bkdRtcWrite h c) (fun a => !a.bkd.halted) stFailed 0)
  ∧ (∀ h, Does (.bkdRtcHaltRelease h) (fun a => a.bkd.halted && dateValid a.bkd.shadow) stOk noResult (fun _ a => endRtcHalt 0 a))
  ∧ (∀ h, Does (.bkdRtcHaltRelease h) (fun a => a.bkd.halted && !dateValid a.bkd.shadow) stFailed (fun _ => resB 0 1)
      (fun _ a => endRtcHalt 1 a))
  ∧ (∀ h, Does (.bkdRtcHaltRelease h) (fun a => !a.bkd.halted) stOk noResult same)
  ∧ (∀ h c, Does (.bkdAlarmSet h c 0) (fun _ => decide (c.subsec = 0)) stOk noResult
      (fun _ a => { a with bkd := { a.bkd with alarm := none } }))
  ∧ (∀ h c, Does (.bkdAlarmSet h c 1)
      (fun a => decide (c.subsec = 0) && dateValid c && decide (calPlace (rtcNow a) < calTicks c)) stOk noResult
      (fun _ a => { a with bkd := { a.bkd with alarm := some c } }))
  ∧ (∀ h c, Fails (.bkdAlarmSet h c 1) (fun _ => decide (c.subsec = 0) && !dateValid c) stFailed (resB 0 1))
  ∧ (∀ h c, Fails (.bkdAlarmSet h c 1)
      (fun a => decide (c.subsec = 0) && dateValid c && decide (calTicks c ≤ calPlace (rtcNow a))) stFailed (resB 0 2))
  ∧ (∀ h c enable, Fails (.bkdAlarmSet h c enable) (fun _ => decide (c.subsec ≠ 0)) stFailed 0)
  ∧ (∀ h delay, Does (.bkdPwrOnReq h delay) (fun _ => decide (delay ≤ 86400)) stOk noResult
      (fun _ a =>
        let t := rtcSync a
        { t with bkd := { t.bkd with req := if delay = 0 then none else some (delay * 32768) } }))
  ∧ (∀ h delay, Fails (.bkdPwrOnReq h delay) (fun _ => decide (86400 < delay)) stFailed 0)
  ∧ (∀ h, Does (.pwrRestart h 0xA5) always stOk noResult
      (fun _ a => { a with pwr := { a.pwr with restartBooked := some (a.pwr.restartBooked.getD (a.tim.raw + 50000000)) } }))
  ∧ (∀ h confirm, Fails (.pwrRestart h confirm) (fun _ => decide (confirm ≠ 0xA5)) stFailed 0)
  ∧ (∀ h, Does (.pwrRestoreNow h) (fun a => !a.pwr.restored) stOk noResult
      (fun _ a => { a with pwr := { a.pwr with restoreAsked := true } }))
  ∧ (∀ h, Does (.pwrRestoreNow h) (fun a => a.pwr.restored) stOk noResult same)

/-! ### Register accesses and the controller -/

/-- Captures, doorbells, queue pair 0 and the cursors (02 R61 to R64, R67, R93; 03 R102; 16 R488; 18 R550, R554). -/
def Obligations.RegisterAccessesAct : Prop :=
  (∀ func go, Answers (.timCapture func go) (fun s => decide (go % 2 = 1) && funcExists s func)
      (fun s => { s with tim := { s.tim with caps := tset s.tim.caps func ⟨s.tim.raw, now s, tqWord s⟩ } }))
  ∧ (∀ func go, Answers (.timCapture func go) (fun s => !(decide (go % 2 = 1) && funcExists s func)) id)
  ∧ Answers (.bkdCapture 1) (fun s => !s.bkd.capBusy) (fun s => { s with bkd := { s.bkd with capBusy := true, capGo := s.tim.raw } })
  ∧ (∀ go, go ≠ 1 → Answers (.bkdCapture go) always id)
  ∧ (∀ go, Answers (.bkdCapture go) (fun s => s.bkd.capBusy) id)
  ∧ Answers .bkdCaptureLatch (fun s => s.bkd.capBusy && decide (s.bkd.capGo * 128 < s.bkd.rtcRaw + capTicks s * tickUnits))
      (fun s =>
        let c := if s.bkd.halted then s.bkd.rtc else calAdvance s.bkd.rtc (trimCount s.bkd (capTicks s)).1
        { s with bkd := { s.bkd with
            cap := ⟨c, bkdStatus s, (rtcMtime s c).sec, (rtcMtime s c).ns, (s.bkd.rtcRaw + capTicks s * tickUnits) / 128⟩, capBusy := false } })
  ∧ Answers .bkdCaptureLatch (fun s => !s.bkd.capBusy) id
  ∧ (∀ func qp x, Answers (.cmdSqTail func qp ⟨x.sqTail, []⟩)
      (fun s => tget s.cmd.qps (func, qp) == some x && heard s func qp) serveHeld)
  ∧ (∀ func qp tail x, Answers (.cmdSqTail func qp ⟨tail, []⟩)
      (fun s => tget s.cmd.qps (func, qp) == some x && decide (tail ≠ x.sqTail)) id)
  ∧ (∀ func qp b x, Answers (.cmdSqTail func qp ⟨(x.sqTail + 1) % 2 ^ x.sqLog2, [b]⟩)
      (fun s => tget s.cmd.qps (func, qp) == some x && s.cmd.outst.isEmpty && !knownOpcode (opcodeOf b) && !haltOutside b
        && servable (readHdr func qp b) s)
      (fun s => serveHeld (pushDone (unknownPacket func qp b) 0 stNotSupported 0 (taken (readHdr func qp b) s))))
  ∧ (∀ func qp tail, Answers (.cmdSqTail func qp ⟨tail, []⟩) (fun s => !heard s func qp) id)
  ∧ (∀ func qp head x, Answers (.cmdCqHead func qp head)
      (fun s => tget s.cmd.qps (func, qp) == some x && heard s func qp && decide (head < 2 ^ x.cqLog2)
        && decide ((head + 2 ^ x.cqLog2 - x.cqHead) % 2 ^ x.cqLog2 ≤ unreleased s func qp))
      (fun s => serveHeld { s with cmd := { s.cmd with
        cpls := releaseCpls func qp ((head + 2 ^ x.cqLog2 - x.cqHead) % 2 ^ x.cqLog2) s.cmd.cpls
        qps := tset s.cmd.qps (func, qp) { x with cqHead := head } } }))
  ∧ (∀ func qp head, Answers (.cmdCqHead func qp head) (fun s => !heard s func qp) id)
  ∧ (∀ func sq cq, Answers (.queuePair0Enable func sq cq)
      (fun s => regsOf s func && !funcBusy func s && !(aqOf s func).en && !(aqOf s func).releasing
        && aqOk { aqOf s func with sqLog2 := sq % 16, cqLog2 := cq % 16 })
      (fun s =>
        let b : Aq := { aqOf s func with sqLog2 := sq % 16, cqLog2 := cq % 16, en := true }
        { s with cmd := { s.cmd with
          aq := tset s.cmd.aq func b
          qps := tset s.cmd.qps (func, 0) (newQp ⟨0, b.sqLog2, b.cqLog2, 0, 0, 0, b.sqBase, b.cqBase⟩) } }))
  ∧ (∀ func sq cq, Answers (.queuePair0Enable func sq cq)
      (fun s => !regsOf s func || funcBusy func s || (aqOf s func).en || (aqOf s func).releasing) id)
  ∧ (∀ func, Answers (.queuePair0Disable func) (fun s => regsOf s func && (aqOf s func).en)
      (fun s => { s with cmd := { s.cmd with
        aq := tset s.cmd.aq func { aqOf s func with en := false, releasing := true }
        held := s.cmd.held.filter (fun i => !heldIn func (fun q => q == 0) i) } }))
  ∧ (∀ func, Answers (.queueReleaseDone func) (fun s => (aqOf s func).releasing && takenCount s func 0 == 0)
      (fun s => dropPairs func (fun q => q == 0) { s with cmd := { s.cmd with aq := tset s.cmd.aq func { aqOf s func with releasing := false } } }))
  ∧ (∀ func, Answers (.queueReleaseDone func) (fun s => !((aqOf s func).releasing && takenCount s func 0 == 0)) id)
  ∧ (∀ func seq, Answers (.cmdJnlCursor func seq) (fun s => regsOf s func)
      (fun s => { s with cmd := { s.cmd with cursor := tset s.cmd.cursor func seq } }))
  ∧ (∀ seq, Answers (.evrCursor seq) always (fun s => { s with evr := { s.evr with cursor := seq } }))

/-- RC counters: a read of 8 bytes answers the value and clears it, a read of the low word also latches the high word, and a
read of the high word answers the latch; plain registers take the bits they have, and a write of 4 bytes the half of a 64-bit
register that it names (00 R13 to R16, R59; 02 R60). The counters named here
are those whose read settles nothing first. -/
def Obligations.RegisterValuesAct : Prop :=
  (∀ c s, mainGood s = true → ctrShown s c = true → (∀ a b d, c ≠ .pwrResid a b d) → (∀ d, c ≠ .swcPoolPeak d) →
      ∃ t, exec (.rcCounterRead c .whole) s = .next t ∧ t.readOut = cval s c ∧ cval t c = 0
        ∧ (∀ c', c' ≠ c → cval t c' = cval s c')
        ∧ t = { s with readOut := t.readOut, counters := t.counters, pair := { s.pair with cumul := t.pair.cumul } })
  ∧ (∀ c s, mainGood s = true → ctrShown s c = true → (∀ a b d, c ≠ .pwrResid a b d) → (∀ d, c ≠ .swcPoolPeak d) →
      ∃ t, exec (.rcCounterRead c .lowWord) s = .next t ∧ t.readOut.toNat = (cval s c).toNat % 2 ^ 32 ∧ cval t c = 0
        ∧ (tgetD t.latches c 0).toNat = (cval s c).toNat / 2 ^ 32
        ∧ t = { s with readOut := t.readOut, counters := t.counters, latches := t.latches, pair := { s.pair with cumul := t.pair.cumul } })
  ∧ (∀ c s, mainGood s = true → ctrShown s c = true → (∀ a b d, c ≠ .pwrResid a b d) →
      exec (.rcCounterRead c .highWord) s = .next { s with readOut := (tgetD s.latches c 0).setWidth 64 })
  ∧ (∀ c acc s, mainGood s = false → exec (.rcCounterRead c acc) s = .next s)
  ∧ (∀ d v, Answers (.registerWrite (.sviCtxSel d) v) (fun s => mainGood s && hasDie s d)
      (fun s => { s with svi := { s.svi with ctxSel := tset s.svi.ctxSel d (v.toNat % 1024) } }))
  ∧ (∀ d v, Answers (.registerWrite (.fltChainSel d) v) (fun s => mainGood s && hasDie s d)
      (fun s => { s with flt := { s.flt with chainSel := tset s.flt.chainSel d (v.toNat % 8192) } }))
  ∧ (∀ d v, Answers (.registerWrite (.sigGsSel d) v) (fun s => mainGood s && hasDie s d)
      (fun s => { s with sig := { s.sig with gsSel := tset s.sig.gsSel d (v.toNat % 4096) } }))
  ∧ (∀ d v, Answers (.registerWrite (.sigGpSel d) v) (fun s => mainGood s && hasDie s d)
      (fun s => { s with sig := { s.sig with gpSel := tset s.sig.gpSel d (v.toNat % 1024) } }))
  ∧ (∀ v, Answers (.registerWrite .grfNodeSel v) mainGood (fun s => { s with grf := { s.grf with nodeSel := v.toNat % 32768 } }))
  ∧ (∀ v, Answers (.registerWrite .lgcTaskSel v) mainGood (fun s => { s with lgc := { s.lgc with taskSel := v.toNat % 64 } }))
  ∧ (∀ v, Answers (.registerWrite .vfnSel v) mainGood (fun s => { s with vfn := { s.vfn with sel := v.toNat % 256 } }))
  ∧ (∀ v, Answers (.registerWrite .keySlotSel v) mainGood (fun s => { s with key := { s.key with slotSel := v.toNat % 256 } }))
  ∧ (∀ d v, Answers (.registerWrite (.pwrDomSel d) v) (fun s => mainGood s && hasDie s d)
      (fun s => { s with pwr := { s.pwr with domSel := tset s.pwr.domSel d (v.toNat % 16) } }))
  ∧ (∀ f v, Answers (.registerWrite (.aqSqBase f) v)
      (fun s => mainGood s && regsOf s f && !(aqOf s f).en && !(aqOf s f).releasing)
      (fun s => { s with cmd := { s.cmd with aq := tset s.cmd.aq f { aqOf s f with sqBase := v.toNat } } }))
  ∧ (∀ f v, Answers (.registerWrite (.aqCqBase f) v)
      (fun s => mainGood s && regsOf s f && !(aqOf s f).en && !(aqOf s f).releasing)
      (fun s => { s with cmd := { s.cmd with aq := tset s.cmd.aq f { aqOf s f with cqBase := v.toNat } } }))
  ∧ (∀ f v, Answers (.registerWrite (.aqDepths f) v)
      (fun s => mainGood s && regsOf s f && !(aqOf s f).en && !(aqOf s f).releasing)
      (fun s => { s with cmd := { s.cmd with aq := tset s.cmd.aq f { aqOf s f with sqLog2 := v.toNat % 16, cqLog2 := v.toNat / 256 % 16 } } }))
  ∧ (∀ f v, Answers (.registerWrite (.aqSqBase f) v) (fun s => (aqOf s f).en) id)
  ∧ (∀ f hi v, Answers (.registerWrite (.aqSqBaseHalf f hi) v)
      (fun s => mainGood s && regsOf s f && !(aqOf s f).en && !(aqOf s f).releasing)
      (fun s => { s with cmd := { s.cmd with aq := tset s.cmd.aq f { aqOf s f with sqBase := halfOf hi (aqOf s f).sqBase v.toNat } } }))
  ∧ (∀ f hi v, Answers (.registerWrite (.aqCqBaseHalf f hi) v)
      (fun s => mainGood s && regsOf s f && !(aqOf s f).en && !(aqOf s f).releasing)
      (fun s => { s with cmd := { s.cmd with aq := tset s.cmd.aq f { aqOf s f with cqBase := halfOf hi (aqOf s f).cqBase v.toNat } } }))
  ∧ (∀ f hi v, Answers (.registerWrite (.jnlCursorHalf f hi) v) (fun s => mainGood s && regsOf s f)
      (fun s => { s with cmd := { s.cmd with cursor := tset s.cmd.cursor f (BitVec.ofNat 64 (halfOf hi (tgetD s.cmd.cursor f 0).toNat v.toNat)) } }))
  ∧ (∀ hi v, Answers (.registerWrite (.evrCursorHalf hi) v) mainGood
      (fun s => { s with evr := { s.evr with cursor := BitVec.ofNat 64 (halfOf hi s.evr.cursor.toNat v.toNat) } }))
  ∧ (∀ n v, Answers (.registerWrite (.readOnly n) v) always id)
  ∧ (∀ r v, Answers (.registerWrite r v) (fun s => !mainGood s) id)
  ∧ (∀ c acc s, mainGood s = true → ctrShown s c = false →
      ∃ t, exec (.rcCounterRead c acc) s = .next t ∧ t.readOut = 0 ∧ t.counters = s.counters
        ∧ t = { s with readOut := t.readOut, latches := t.latches })

/-- COALESCE_TIME, Bus Master Enable and the takeover by the die 1 controller (01 R38, R39; 02 R70; 15 R461; 16 R489). -/
def Obligations.ControllerRowsAct : Prop :=
  (∀ func qp x, Answers (.coalesceTimeout func qp)
      (fun s => tget s.cmd.qps (func, qp) == some x && busMasterOn s func && decide (0 < x.coalCount ∧ 0 < x.unsignalled
        ∧ x.firstUnsig + rawUs x.coalTime ≤ s.tim.raw))
      (fun s => msixRaise func x.vector { s with cmd := { s.cmd with qps := tset s.cmd.qps (func, qp) { x with unsignalled := 0 } } }))
  ∧ (∀ func qp, Answers (.coalesceTimeout func qp)
      (fun s => match tget s.cmd.qps (func, qp) with
        | some x => !busMasterOn s func || decide (x.coalCount = 0 ∨ x.unsignalled = 0 ∨ s.tim.raw < x.firstUnsig + rawUs x.coalTime)
        | none => true) id)
  ∧ (∀ func, Answers (.busMasterEnable func false) always
      (fun s => { s with cmd := { s.cmd with busMaster := tset s.cmd.busMaster func false } }))
  ∧ (∀ func, Answers (.busMasterEnable func true) always
      (fun s => serveHeld (flushOutst { s with cmd := { s.cmd with busMaster := tset s.cmd.busMaster func true } })))
  ∧ (∀ die0Answers, Answers (.controllerTakeover die0Answers)
      (fun s => decide (s.pwr.phase = .running ∧ s.cmd.ctrlDie ≠ 1) && !s.hwi.dieFaults.contains 1)
      (fun s =>
        let a := if die0Answers then s else loseStaged s
        let b := failWaiting { a with cmd := { a.cmd with ctrlDie := 1 } }
        serveHeld (raise 0x0001 1 b.cmd.jnlNext 0 b)))
  ∧ (∀ die0Answers, Answers (.controllerTakeover die0Answers)
      (fun s => decide (s.pwr.phase ≠ .running ∨ s.cmd.ctrlDie = 1) || s.hwi.dieFaults.contains 1) id)

/-! ### Time -/

/-- Sync and follow-up, announces, the receipt timeout, path-step and holdover limits, parameter sets, skew, PPS, and the step
that TIM_STEP booked (03 R100, R106 to R126). Choices of the model: the announce interval (log entry 126), EV_DIE_SKEW at the
third exchange alone (128), the set that a step drops (120), and when periodic work is due (138). -/
def Obligations.TimeRowsAct : Prop :=
  (∀ m, m.twoStep = false → Answers (.ptpSync m) (fun s => m.domain == s.cfg.ptp.domain)
      (fun s => syncResult m.lan m.stampRaw m.stampSub m.origin m.corr s))
  ∧ (∀ m, m.twoStep = true → Answers (.ptpSync m) (fun s => m.domain == s.cfg.ptp.domain)
      (fun s => setLan m.lan { lanSt s m.lan with twoStep := some m } s))
  ∧ (∀ m, Answers (.ptpSync m) (fun s => m.domain != s.cfg.ptp.domain) id)
  ∧ (∀ lan f corr m, Answers (.ptpFollowUp lan f corr)
      (fun s => f.domain == s.cfg.ptp.domain && (lanSt s lan).twoStep == some m)
      (fun s => syncResult lan m.stampRaw m.stampSub f.origin corr (setLan lan { lanSt s lan with twoStep := none } s)))
  ∧ (∀ lan f corr, Answers (.ptpFollowUp lan f corr)
      (fun s => f.domain != s.cfg.ptp.domain || (lanSt s lan).twoStep.isNone) id)
  ∧ (∀ m, Answers (.ptpAnnounce m) (fun s => m.domain != s.cfg.ptp.domain) id)
  ∧ (∀ m, Answers (.ptpAnnounce m) (fun s => m.domain == s.cfg.ptp.domain && decide ((lanSt s m.lan).gm = some m.gm))
      (fun s =>
        let t := setLan m.lan { lanSt s m.lan with dataset := m.dataset, annRunning := true, annRaw := s.tim.raw, gmInacc := m.gmInacc, netInacc := m.netInacc } s
        if (lanSt t m.lan).gm = some m.gm ∧ gmInUse t m.lan = true then takeUtc m t else t))
  ∧ (∀ m, Answers (.ptpAnnounce m)
      (fun s => decide ((lanSt s m.lan).gm ≠ some m.gm) && lanSelected (lanSt s m.lan)
        && !Config.bmcaBetter m.dataset (lanSt s m.lan).dataset) id)
  ∧ (∀ lan, Answers (.announceReceiptTimeout lan)
      (fun s => (lanSt s lan).annRunning && decide ((lanSt s lan).annRaw + rawSec s.cfg.ptp.annTimeout ≤ s.tim.raw))
      (fun s => checkAdmission (setLan lan { lanSt s lan with annRunning := false } s)))
  ∧ (∀ lan, Answers (.announceReceiptTimeout lan)
      (fun s => !(lanSt s lan).annRunning || decide (s.tim.raw < (lanSt s lan).annRaw + rawSec s.cfg.ptp.annTimeout)) id)
  ∧ (∀ h, Answers .pathStepHoldExpiry
      (fun s => s.tim.hold == some h && decide (h.startRaw + rawSec s.cfg.thresh.pathStepHold ≤ s.tim.raw))
      (fun s =>
        let ch (l : Nat) : Nat := if bitN h.lans l then ps (filtered (lanSt s l) - (lanSt s l).reference.getD 0) else 0
        let a := acceptHold h s
        endHold (raise 0x0106 h.lans (ch 0) (ch 1) (noteQuality { a with tim := { a.tim with asymUnverified := true } }))))
  ∧ (∀ h, Answers .pathStepHoldExpiry
      (fun s => s.tim.hold == some h && decide (s.tim.raw < h.startRaw + rawSec s.cfg.thresh.pathStepHold)) id)
  ∧ Answers .holdT1Expiry (fun s => decide (s.tim.state = .holdover ∧ s.cfg.thresh.holdT1 ≤ holdAge s)) (setTq .holdoverLimit)
  ∧ Answers .holdT1Expiry (fun s => decide (s.tim.state ≠ .holdover ∨ holdAge s < s.cfg.thresh.holdT1)) id
  ∧ (∀ temp, Answers (.holdTempExceeded temp)
      (fun s => decide (s.tim.state = .holdover ∧ s.cfg.thresh.holdTemp < (temp - s.tim.ocxo0).natAbs))
      (fun s => setTq .holdoverLimit { s with hwi := { s.hwi with ocxo := temp } }))
  ∧ (∀ temp, Answers (.holdTempExceeded temp)
      (fun s => decide (s.tim.state ≠ .holdover ∨ (temp - s.tim.ocxo0).natAbs ≤ s.cfg.thresh.holdTemp))
      (fun s => { s with hwi := { s.hwi with ocxo := temp } }))
  ∧ Answers .parameterSetActivate always settleSet
  ∧ (∀ die x, (exchangeSkew x).natAbs ≤ 1000 → Answers (.dieSkewExchange die x)
      (fun s => hasDie s die && die != 0 && dueAgain 8 die 500000 s)
      (fun s => copyMoved die x 0 (runNow 8 die s)))
  ∧ (∀ die x, 1000 < (exchangeSkew x).natAbs → (exchangeSkew x).natAbs ≤ 2000 → Answers (.dieSkewExchange die x)
      (fun s => hasDie s die && die != 0 && dueAgain 8 die 500000 s && tgetD s.tim.skewRun die 0 == 2)
      (fun s => recordEvent (evPkg 0x010A die (ps (exchangeSkew x)) 0 die) (copyMoved die x 3 (runNow 8 die s))))
  ∧ (∀ die x, 2000 < (exchangeSkew x).natAbs → Answers (.dieSkewExchange die x)
      (fun s => hasDie s die && die != 0 && dueAgain 8 die 500000 s && tgetD s.tim.skewRun die 0 == 0)
      (fun s => dieEvacuate die true (copyMoved die x 1 (runNow 8 die s))))
  ∧ (∀ die x, Answers (.dieSkewExchange die x) (fun s => !hasDie s die || die == 0 || !dueAgain 8 die 500000 s) id)
  ∧ (∀ raw sub, Answers (.ppsInEdge raw sub) always
      (fun s =>
        let d := divZ (((munits (mtimeAt s raw sub) + secUnits / 2) % secUnits - secUnits / 2) * 4) two32
        { s with tim := { s.tim with ppsRaw := some raw, ppsErr := d } }))
  ∧ Answers .ppsOutPulse ppsDue
      (fun s => rtcAlignDue { s with tim := { s.tim with
        ppsOut := if s.tim.state = .locked then 100 else 200, ppsRise := some s.tim.raw } })
  ∧ Answers .ppsOutPulse (fun s => !ppsDue s) id
  ∧ (∀ b, Answers .timStepApply
      (fun s => s.tim.step == some b && decide (b.atSec ≤ (now s).sec)
        && decide ((s.tim.state = .locked ∨ s.tim.state = .acquiring) ∧ 0 < s.tim.theta))
      (fun s => completeCmd b.jseq stOk (resB 0 (ps (divZ s.tim.theta 1000))) (timStep { s with tim := { s.tim with step := none } })))
  ∧ (∀ b, Answers .timStepApply
      (fun s => s.tim.step == some b && decide (b.atSec ≤ (now s).sec)
        && !decide ((s.tim.state = .locked ∨ s.tim.state = .acquiring) ∧ 0 < s.tim.theta))
      (fun s => completeCmd b.jseq stFailed 0 { s with tim := { s.tim with step := none } }))
  ∧ (∀ b, Answers .timStepApply (fun s => s.tim.step == some b && decide ((now s).sec < b.atSec)) id)
  ∧ Answers .timStepApply (fun s => s.tim.step.isNone) id

/-! ### Ports, pauses, frames -/

/-- Link and cage events, the ends of STARTING and DRAINING, and preemption's verification (04 R131 to R151). What a disabled
management port ignores is the model's choice of log entry 130. -/
def Obligations.PortRowsAct : Prop :=
  (∀ port cause, Answers (.linkFault port cause)
      (fun s => decide ((portSt s port).o.obj = .on ∨ (portSt s port).o.obj = .draining)) (linkLost port cause))
  ∧ (∀ port cause, Answers (.linkFault port cause)
      (fun s => decide ((portSt s port).o.obj = .off ∨ (portSt s port).o.obj = .starting)) id)
  ∧ (∀ port, Answers (.linkClear port)
      (fun s => decide (((portSt s port).o.obj = .on ∨ (portSt s port).o.obj = .draining) ∧ (portSt s port).link = .down)
        && cageAccepts s (port / 4)) (linkUp port))
  ∧ (∀ port, Answers (.linkClear port)
      (fun s => decide (((portSt s port).o.obj = .on ∨ (portSt s port).o.obj = .draining) ∧ (portSt s port).link = .holding)
        && cageAccepts s (port / 4) && !holdDue s port) (linkUp port))
  ∧ (∀ port, Answers (.linkClear port)
      (fun s => decide (((portSt s port).o.obj = .on ∨ (portSt s port).o.obj = .draining) ∧ (portSt s port).link = .holding)
        && cageAccepts s (port / 4) && holdDue s port) (fun s => linkUp port (holdExpired port s)))
  ∧ (∀ port, Answers (.linkClear port) (fun s => decide ((portSt s port).link = .up)) id)
  ∧ (∀ port, Answers (.linkClear port)
      (fun s => decide ((portSt s port).o.obj = .off ∨ (portSt s port).o.obj = .starting)) id)
  ∧ (∀ port, Answers (.linkClear port) (fun s => !cageAccepts s (port / 4)) id)
  ∧ (∀ port, port < 0x80 → Answers (.linkHoldExpiry port) (fun s => decide ((portSt s port).link = .holding) && holdDue s port)
      (holdExpired port))
  ∧ (∀ port, port < 0x80 → Answers (.linkHoldExpiry port) (fun s => !(decide ((portSt s port).link = .holding) && holdDue s port)) id)
  ∧ (∀ port, Answers (.portStarted port) (fun s => decide ((portSt s port).o = ⟨.starting, false, false⟩))
      (fun s => setPort port { portSt s port with o := ⟨.on, false, false⟩, link := .down, mode := modeOf (portCfg s port) } s))
  ∧ (∀ port, Answers (.portStarted port) (fun s => decide ((portSt s port).o = ⟨.starting, true, false⟩))
      (fun s => portDrain port (setPort port { portSt s port with o := ⟨.draining, false, false⟩, link := .down, mode := modeOf (portCfg s port) } s)))
  ∧ (∀ port, Answers (.portStarted port) (fun s => decide ((portSt s port).o.obj ≠ .starting)) id)
  ∧ (∀ port, Answers (.portDrainEnd port)
      (fun s => decide ((portSt s port).o.obj = .draining) && ((destCopies s (port / 4) (port % 4)).isEmpty
        || decide ((portSt s port).drainRaw + rawUs (portCfg s port).linkHold ≤ s.tim.raw))) (portOff port))
  ∧ (∀ port, Answers (.portDrainEnd port) (fun s => decide ((portSt s port).o.obj ≠ .draining)) id)
  ∧ (∀ port, Answers (.preemptRespond port) (fun s => (portSt s port).verify == 1 && preemptEn (portCfg s port))
      (fun s => recordEvent (evDie 0x0205 port 0 0 (port / 4) port)
        (setPort port { portSt s port with verify := 2, preemptActive := true } s)))
  ∧ (∀ port, Answers (.preemptRespond port) (fun s => !((portSt s port).verify == 1 && preemptEn (portCfg s port))) id)
  ∧ (∀ port, Answers (.preemptVerifyTimeout port)
      (fun s => (portSt s port).verify == 1 && decide ((portSt s port).verRaw + rawMs (portCfg s port).verifyTime ≤ s.tim.raw
        ∧ (portSt s port).verTries < 3))
      (fun s => setPort port { portSt s port with verTries := (portSt s port).verTries + 1, verRaw := s.tim.raw } s))
  ∧ (∀ port, Answers (.preemptVerifyTimeout port)
      (fun s => (portSt s port).verify == 1 && decide ((portSt s port).verRaw + rawMs (portCfg s port).verifyTime ≤ s.tim.raw
        ∧ 3 ≤ (portSt s port).verTries))
      (fun s => recordEvent (evDie 0x0205 port 1 0 (port / 4) port) (setPort port { portSt s port with verify := 3 } s)))
  ∧ (∀ cage fourLanes speeds powerClass, Answers (.cageInsert cage fourLanes speeds powerClass) (fun s => hasDie s cage)
      (fun s =>
        let t := { s with net := { s.net with cages := tset s.net.cages cage ⟨true, fourLanes && decide (1 ≤ powerClass ∧ powerClass ≤ 4), speeds⟩ } }
        recordEvent (evDie 0x0206 cage (if cageAccepts t cage then 0 else 2) 0 cage cage) t))
  ∧ (∀ cage fourLanes speeds powerClass, Answers (.cageInsert cage fourLanes speeds powerClass) (fun s => !hasDie s cage) id)
  ∧ (∀ cage, Answers (.cageRemove cage) (fun s => hasDie s cage && (tgetD s.net.cages cage {}).present)
      (fun s => foldSt (fun n t => linkLost (4 * cage + n) 3 t) [0, 1, 2, 3]
        (recordEvent (evDie 0x0206 cage 1 0 cage cage) { s with net := { s.net with cages := tset s.net.cages cage {} } })))
  ∧ (∀ cage, Answers (.cageRemove cage) (fun s => !(hasDie s cage && (tgetD s.net.cages cage {}).present)) id)
  ∧ (∀ mport, Answers (.mgmtLinkChange mport false)
      (fun s => decide (mport ≤ 1 ∧ (mgmtCfg s mport).enable ≠ 0 ∧ (mgmtSt s mport).link = .up)) (mgmtLost mport))
  ∧ (∀ mport, Answers (.mgmtLinkChange mport true)
      (fun s => decide (mport ≤ 1 ∧ (mgmtCfg s mport).enable ≠ 0 ∧ (mgmtSt s mport).link ≠ .up) && !mgmtHoldDue s mport)
      (fun s => mgmtDrain mport (recordEvent (evDie 0x0202 (mgmtPort mport) 0 0 mport (mgmtPort mport))
        (setMgmt mport { mgmtSt s mport with link := .up } s))))
  ∧ (∀ mport, Answers (.mgmtLinkChange mport true)
      (fun s => decide (mport ≤ 1 ∧ (mgmtCfg s mport).enable ≠ 0) && mgmtHoldDue s mport)
      (fun s => mgmtDrain mport (recordEvent (evDie 0x0202 (mgmtPort mport) 0 0 mport (mgmtPort mport))
        (setMgmt mport { mgmtSt (mgmtExpired mport s) mport with link := .up } (mgmtExpired mport s)))))
  ∧ (∀ m, m ≤ 1 → Answers (.linkHoldExpiry (0x80 + m)) (fun s => mgmtHoldDue s m) (mgmtExpired m))
  ∧ (∀ m, m ≤ 1 → Answers (.linkHoldExpiry (0x80 + m)) (fun s => !mgmtHoldDue s m) id)
  ∧ (∀ mport up, Answers (.mgmtLinkChange mport up) (fun s => decide (1 < mport ∨ (mgmtCfg s mport).enable = 0)) id)

/-- Pauses and their watchdog, peer-delay and supervision frames (03 R112; 04 R148, R152 to R157). Choices of the model: the
first of periodic sends comes at once (log entry 138), and PFC is nothing to a management port (131). -/
def Obligations.PauseRowsAct : Prop :=
  (∀ port pfc classes quanta, port < 0x80 → Answers (.pauseFrame port pfc classes quanta)
      (fun s => decide ((portSt s port).o.obj = .on)) (portPause port pfc classes quanta))
  ∧ (∀ port pfc classes quanta, port < 0x80 → Answers (.pauseFrame port pfc classes quanta)
      (fun s => decide ((portSt s port).o.obj ≠ .on)) id)
  ∧ (∀ m pfc classes quanta, m ≤ 1 → Answers (.pauseFrame (0x80 + m) pfc classes quanta) always (mgmtPause m pfc (nth quanta 0 0)))
  ∧ (∀ port cls e, port < 0x80 → Answers (.pauseExpiry port cls)
      (fun s => tget (portSt s port).pauseEnd cls == some e && decide (e ≤ s.tim.raw))
      (fun s => setPort port (unpause (1 <<< cls) (portSt s port)) s))
  ∧ (∀ m cls, m ≤ 1 → Answers (.pauseExpiry (0x80 + m) cls)
      (fun s => (mgmtSt s m).paused && decide ((mgmtSt s m).pauseEnd ≤ s.tim.raw))
      (fun s => mgmtDrain m (setMgmt m { mgmtSt s m with paused := false } s)))
  ∧ (∀ port cls, port < 0x80 → Answers (.pauseExpiry port cls) (fun s => match tget (portSt s port).pauseEnd cls with
      | some e => decide (s.tim.raw < e)
      | none => true) id)
  ∧ (∀ port, port < 0x80 → Answers (.pauseWdTrip port) always (wdTrip port))
  ∧ (∀ m, m ≤ 1 → Answers (.pauseWdTrip (0x80 + m)) always (mgmtTrip m))
  ∧ (∀ m, m ≤ 1 → Answers (.pauseWdHoldEnd (0x80 + m))
      (fun s => (mgmtSt s m).wdHold && decide ((mgmtSt s m).wdHoldRaw + 500000000 ≤ s.tim.raw))
      (fun s => setMgmt m { mgmtSt s m with wdHold := false } s))
  ∧ (∀ port c, port < 0x80 → c < 8 → Answers (.pauseWdHoldEnd port)
      (fun s => (portSt s port).wdHold == 1 <<< c
        && decide (tgetD (portSt s port).wdHoldRaw c 0 + rawMs (portCfg s port).pauseWdHold ≤ s.tim.raw))
      (fun s => setPort port { portSt s port with wdHold := (portSt s port).wdHold &&& (0xFF - 1 <<< c), wdHoldRaw := (portSt s port).wdHoldRaw.filter (fun e => !bitN (1 <<< c) e.1) } s))
  ∧ (∀ port, port < 0x80 → Answers (.pauseWdHoldEnd port) (fun s => (portSt s port).wdHold == 0) id)
  ∧ (∀ port, Answers (.prpSupervisionSend port)
      (fun s => hasPort s port && paired s port && periodOver s (tget s.net.supRaw (pairKey s port)) 1000000000)
      (fun s => sendIdentity port 0 supervisionInfo { s with net := { s.net with supRaw := tset s.net.supRaw (pairKey s port) s.tim.raw } }))
  ∧ (∀ port, Answers (.prpSupervisionSend port)
      (fun s => !(hasPort s port && paired s port && periodOver s (tget s.net.supRaw (pairKey s port)) 1000000000)) id)
  ∧ (∀ port, Answers (.ptpPdelayReq port) (fun s => decide ((portSt s port).o.obj = .on))
      (fun s => let (q, a) := freeNat 8 s
        sendPort port 7 (pdelayInfo .pdelayResp (some ⟨port, rxStamp a port a.tim.raw q⟩)) a))
  ∧ (∀ port, Answers (.pdelayReqSend port)
      (fun s => decide ((portSt s port).o.obj = .on) && periodOver s (portSt s port).pdelayRaw 500000000)
      (fun s => sendPort port 7 (pdelayInfo .pdelayReq none) (setPort port { portSt s port with pdelayRaw := some s.tim.raw } s)))
  ∧ (∀ port, Answers (.pdelayReqSend port) (fun s => !periodOver s (portSt s port).pdelayRaw 500000000) id)
  ∧ (∀ port delay, Answers (.ptpPdelayResp port delay) (fun s => decide ((portSt s port).o.obj = .on))
      (fun s => setPort port { portSt s port with txStamps := [] } { s with tim := { s.tim with linkDelay := tset s.tim.linkDelay port delay } }))
  ∧ (∀ port, Answers (.ptpPdelayReq port) (fun s => decide ((portSt s port).o.obj ≠ .on)) id)
  ∧ (∀ port, Answers (.pdelayReqSend port) (fun s => decide ((portSt s port).o.obj ≠ .on)) id)
  ∧ (∀ port delay, Answers (.ptpPdelayResp port delay) (fun s => decide ((portSt s port).o.obj ≠ .on)) id)

/-- A frame that a port receives is counted, its source learned and its copies queued; frames that cross dies arrive; tables
age; a frame leaves a port (04 R141; 05 R160 to R187). The event of a parity error carries a code that is free (log entry
133). -/
def Obligations.SwitchRowsAct : Prop :=
  (∀ port raw sub f, port < 0x80 → Answers (.frameReceive port raw sub f false)
      (fun s => hasPort s port && decide ((portSt s port).o.obj = .on ∧ f.fault = .none)
        && !(!(decide (f.da / 16 = 0x0180C200000) || decide (f.da = Config.factoryMac))
          && (match staticFind (rxCounts port f (takeInner (port / 4) s)) (port / 4) f.da (classVid s port f).2 with
            | some (i, _) => (rxCounts port f (takeInner (port / 4) s)).swc.badStatic.contains (port / 4, i)
            | none => false)))
      (fun s =>
        let a := rxCounts port f (takeInner (port / 4) s)
        let k := lookup a port f.da (classVid s port f).2 false
        let b := if goodFrame s port f then learn port f.sa (classVid s port f).2 a else a
        forward port (classVid s port f).1 f (goodFrame s port f) ⟨port, rxStamp s port raw sub⟩ k b))
  ∧ (∀ port raw sub f n e, port < 0x80 → f.da / 16 ≠ 0x0180C200000 → f.da ≠ Config.factoryMac →
      Answers (.frameReceive port raw sub f true)
      (fun s => hasPort s port && decide ((portSt s port).o.obj = .on ∧ f.fault = .none)
        && staticFind (rxCounts port f (takeInner (port / 4) s)) (port / 4) f.da (classVid s port f).2 == some (n, e))
      (fun s =>
        let a := staticFault (port / 4) n (rxCounts port f (takeInner (port / 4) s))
        if goodFrame s port f then learn port f.sa (classVid s port f).2 a else a))
  ∧ (∀ port raw sub f, port < 0x80 → Answers (.frameReceive port raw sub f true)
      (fun s => hasPort s port && decide ((portSt s port).o.obj = .on ∧ f.fault = .none)
        && (staticFind (rxCounts port f (takeInner (port / 4) s)) (port / 4) f.da (classVid s port f).2).isNone
        && (learnedFind (rxCounts port f (takeInner (port / 4) s)) (port / 4) f.da (classVid s port f).2).isSome)
      (fun s =>
        let a := learnedFault (port / 4) f.da (classVid s port f).2 (rxCounts port f (takeInner (port / 4) s))
        let k := lookup a port f.da (classVid s port f).2 true
        let b := if goodFrame s port f then learn port f.sa (classVid s port f).2 a else a
        forward port (classVid s port f).1 f (goodFrame s port f) ⟨port, rxStamp s port raw sub⟩ k b))
  ∧ (∀ port raw sub f p, port < 0x80 → Answers (.frameReceive port raw sub f p)
      (fun s => hasPort s port && decide ((portSt s port).o.obj = .on ∧ f.fault ≠ .none)) (faultCount port f))
  ∧ (∀ port raw sub f p, port < 0x80 → Answers (.frameReceive port raw sub f p)
      (fun s => !hasPort s port || decide ((portSt s port).o.obj ≠ .on)) id)
  ∧ (∀ m raw sub f p, m ≤ 1 → f.fault = .none → Answers (.frameReceive (0x80 + m) raw sub f p) (fun s => (mgmtCfg s m).enable == 1)
      (fun s => rxCountsMax (0x80 + m) (mgmtCfg s m).maxFrame { f with prp := none } s))
  ∧ (∀ m raw sub f p, m ≤ 1 → f.fault = .pcs → Answers (.frameReceive (0x80 + m) raw sub f p) (fun s => (mgmtCfg s m).enable == 1)
      (fun s => ncnt (0x80 + m) 9 (bumpBy (.net (0x80 + m) 0) f.len s)))
  ∧ (∀ m raw sub f p, m ≤ 1 → Answers (.frameReceive (0x80 + m) raw sub f p) (fun s => (mgmtCfg s m).enable == 0) id)
  ∧ (∀ die src ports cls f x, Answers (.fabricFrameArrive die src ports cls f)
      (fun s => arriving s die src ports cls f == some x)
      (fun s => deliver die src cls f (goodFrame s src f) x.rx
        ((List.range (Config.ports s.variant)).filter (fun p => bitN ports p && p / 4 == die)) 0
        (takeInner die { s with swc := { s.swc with fabric := s.swc.fabric.erase x } })))
  ∧ (∀ die src ports cls f x y, sameFlow x y = true → x ≠ y → x.die = die → x.src = src → x.ports = ports → x.cls = cls → x.frame = f →
      Answers (.fabricFrameArrive die src ports cls f)
      (fun s => decide (s.swc.fabric = [y, x]) && !(decide (y.src = src ∧ y.ports = ports ∧ y.frame = f))) id)
  ∧ (∀ die src ports cls f, Answers (.fabricFrameArrive die src ports cls f)
      (fun s => (arriving s die src ports cls f).isNone) id)
  ∧ (∀ die index, Answers (.staticEntryRewrite die index) always
      (fun s => { s with swc := { s.swc with badStatic := s.swc.badStatic.filter (fun e => e != (die, index)) } }))
  ∧ (∀ die mac vid, Answers (.learnedEntryAge die mac vid) always
      (fun s => { s with swc := { s.swc with learned := s.swc.learned.filter (fun l => !(l.die == die && l.mac == mac && l.vid == vid && decide (l.usedRaw + 500000000 * s.cfg.age ≤ s.tim.raw))) } }))
  ∧ (∀ die sa seq, Answers (.ddEntryAge die sa seq) always
      (fun s => { s with swc := { s.swc with dd := s.swc.dd.filter (fun e => !(e.die == die && e.sa == sa && e.seq == seq && decide (e.raw + 500000 * s.cfg.ddAge ≤ s.tim.raw))) } }))
  ∧ (∀ port bad c l, Answers (.egressTransmit port bad false)
      (fun s => decide ((portSt s port).link = .up ∧ ((portSt s port).o.obj = .on ∨ (portSt s port).o.obj = .draining)
        ∧ (portSt s port).begun = none) && eligible s port == c :: l) (transmit port c bad))
  ∧ (∀ port bad c l, Answers (.egressTransmit port bad true)
      (fun s => decide ((portSt s port).link = .up ∧ ((portSt s port).o.obj = .on ∨ (portSt s port).o.obj = .draining)
        ∧ (portSt s port).begun = none) && eligible s port == c :: l)
      (fun s => setPort port { portSt s port with begun := some ⟨c, false, 0, s.tim.raw, s.tim.raw⟩ } s))
  ∧ (∀ port bad o b, Answers (.egressTransmit port bad o)
      (fun s => decide ((portSt s port).link = .up ∧ (portSt s port).o.obj = .on ∧ (portSt s port).begun = some b
        ∧ b.held = false ∧ (portSt s port).preemptActive = false)) (transmit port b.copy bad))
  ∧ (∀ port bad o b c, Answers (.egressTransmit port bad o)
      (fun s => decide ((portSt s port).link = .up ∧ (portSt s port).o.obj = .on ∧ (portSt s port).begun = some b
        ∧ b.held = false ∧ (portSt s port).preemptActive = true) && !isExpress s port b.copy.cls
        && (eligible s port).find? (fun e => isExpress s port e.cls) == some c
        && decide (((portCfg s port).addFrag + 1) * 64 ≤ fragBytes s port b ∧ b.sent + fragBytes s port b < b.copy.info.len))
      (fun s => transmit port c bad (ncnt port 30 (setPort port { portSt s port with
        begun := some { b with held := true, sent := b.sent + fragBytes s port b } } s))))
  ∧ (∀ port bad o b c, Answers (.egressTransmit port bad o)
      (fun s => decide ((portSt s port).link = .up ∧ (portSt s port).o.obj = .on ∧ (portSt s port).begun = some b
        ∧ b.held = false ∧ (portSt s port).preemptActive = true) && !isExpress s port b.copy.cls
        && (eligible s port).find? (fun e => isExpress s port e.cls) == some c
        && decide (fragBytes s port b < ((portCfg s port).addFrag + 1) * 64 ∧ b.sent + fragBytes s port b < b.copy.info.len)) id)
  ∧ (∀ port bad b, Answers (.egressTransmit port bad true)
      (fun s => decide ((portSt s port).link = .up ∧ (portSt s port).o.obj = .on ∧ (portSt s port).begun = some b
        ∧ b.held = true ∧ (portSt s port).preemptActive = false))
      (fun s => ncnt port 29 (setPort port { portSt s port with begun := some { b with held := false, startRaw := s.tim.raw } } s)))
  ∧ (∀ port bad b, Answers (.egressTransmit port bad b) (fun s => decide ((portSt s port).link ≠ .up)) id)

/-! ### Streams, filters, GOOSE and publications -/

/-- A sampled-value frame passes the checks of Table SVI-2 in order and its instants enter the stream, or it is dropped and counted
by the first check that fails; undecided instants are declared missing when they are due; a stream ends STARTING; a released
instant runs through the chains of its stream, unless its lane is full (05 R184; 06 R191 to R209; 07 R213, R232, R233). -/
def Obligations.StreamRowsAct : Prop :=
  (∀ die port raw sub f, Answers (.svFrameIngest die port raw sub f) (fun s => queuedBad s die 4 (.sv f)) (takeQueued die 4 (.sv f)))
  ∧ (∀ die port raw sub f, Answers (.svFrameIngest die port raw sub f)
      (fun s => !queuedBad s die 4 (.sv f) && !(rxRoom die (takeQueued die 4 (.sv f) s)).1)
      (fun s => bump (.sviDie die 4) (svTaken die f s)))
  ∧ (∀ die port raw sub f, f.decodable = false → Answers (.svFrameIngest die port raw sub f) (svReaches die f)
      (fun s => bump (.sviDie die 0) (svTaken die f s)))
  ∧ (∀ die port raw sub f, f.decodable = true → Answers (.svFrameIngest die port raw sub f)
      (fun s => svReaches die f s && (svFind (svTaken die f s) f).isNone) (fun s => bump (.sviDie die 1) (svTaken die f s)))
  ∧ (∀ die port raw sub f n c, f.decodable = true → strDie n ≠ die → Answers (.svFrameIngest die port raw sub f)
      (fun s => svReaches die f s && svFind (svTaken die f s) f == some (n, c)) (fun s => bump (.sviDie die 2) (svTaken die f s)))
  ∧ (∀ die port raw sub f n c, f.decodable = true → strDie n = die → Answers (.svFrameIngest die port raw sub f)
      (fun s => svReaches die f s && svFind (svTaken die f s) f == some (n, c) && decide ((strSt (svTaken die f s) n).o.obj ≠ .on))
      (fun s => bump (.sviDie die 3) (svTaken die f s)))
  ∧ (∀ die port raw sub f n c, Answers (.svFrameIngest die port raw sub f)
      (fun s => svNamed die n c f s && !onPair (svTaken die f s) c.port port) (fun s => scnt n 11 (svTaken die f s)))
  ∧ (∀ die port raw sub f n c, Answers (.svFrameIngest die port raw sub f)
      (fun s => svNamed die n c f s && onPair (svTaken die f s) c.port port && !svFormatOk c f) (fun s => scnt n 10 (svTaken die f s)))
  ∧ (∀ die port raw sub f n c, f.simulate ≠ c.sim → Answers (.svFrameIngest die port raw sub f)
      (fun s => svNamed die n c f s && onPair (svTaken die f s) c.port port && svFormatOk c f) (fun s => scnt n 12 (svTaken die f s)))
  ∧ (∀ die port raw sub f n c, Answers (.svFrameIngest die port raw sub f)
      (fun s => svPlain die port n c f s && (verifyFrame die c.keySlot f.len raw f.authOk f.authOldOk (svTaken die f s)).isNone)
      (fun s => scnt n 5 (svTaken die f s)))
  ∧ (∀ die port raw sub f n c t, Answers (.svFrameIngest die port raw sub f)
      (fun s => svPlain die port n c f s && verifyFrame die c.keySlot f.len raw f.authOk f.authOldOk (svTaken die f s) == some (false, t))
      (fun _ => raiseCounting n 1 0 (evStream n 0x0403 0 0) (scnt n 9 t)))
  ∧ (∀ die port raw sub f n c t, Answers (.svFrameIngest die port raw sub f)
      (fun s => svPlain die port n c f s && verifyFrame die c.keySlot f.len raw f.authOk f.authOldOk (svTaken die f s) == some (true, t))
      (fun s => takeFrame n c raw (rxStamp s port raw sub) f t))
  ∧ (∀ stream c, Answers (.instantDue stream)
      (fun s => svCtx s stream == some c && decide ((strSt s stream).o.obj = .on)
        && decide (munits (dueTime c (lowestUndecided (strSt s stream))) + (if c.keySlot = 0xFFFF then 4000 else 16000) * two32
            ≤ munits (now s)))
      (fun s => releaseAll stream c false (declareMissing stream c (lowestUndecided (strSt s stream)) s)))
  ∧ (∀ stream c, Answers (.instantDue stream)
      (fun s => svCtx s stream == some c && decide ((strSt s stream).o.obj = .on)
        && decide (munits (now s) < munits (dueTime c (lowestUndecided (strSt s stream)))
            + (if c.keySlot = 0xFFFF then 4000 else 16000) * two32)) (releaseAll stream c false))
  ∧ (∀ stream c, Answers (.instantDue stream) (fun s => svCtx s stream == some c && decide ((strSt s stream).o.obj = .draining))
      (fun s => streamDrained stream (drainRelease stream c s)))
  ∧ (∀ stream c, Answers (.instantDue stream) (fun s => svCtx s stream == some c
      && decide ((strSt s stream).o.obj = .off ∨ (strSt s stream).o.obj = .starting)) id)
  ∧ (∀ stream, Answers (.instantDue stream) (fun s => (svCtx s stream).isNone) id)
  ∧ (∀ stream c, Answers (.streamOn stream)
      (fun s => svCtx s stream == some c && decide ((strSt s stream).o = ⟨.starting, false, false⟩))
      (fun s => setSup stream .invalid 6 (setStr stream { offStream ⟨.on, false, false⟩ (strSt s stream) with
        first := some (instantFrom c.rate (now s)), nextRelease := instantFrom c.rate (now s) } s)))
  ∧ (∀ stream c, Answers (.streamOn stream)
      (fun s => svCtx s stream == some c && decide ((strSt s stream).o = ⟨.starting, true, false⟩))
      (fun s => streamDrained stream (setStr stream { offStream ⟨.draining, false, false⟩ (strSt s stream) with
        first := some (instantFrom c.rate (now s)), nextRelease := instantFrom c.rate (now s) } s)))
  ∧ (∀ stream c, Answers (.streamOn stream) (fun s => svCtx s stream == some c && decide ((strSt s stream).o.obj ≠ .starting)) id)
  ∧ (∀ stream, Answers (.streamOn stream) (fun s => (svCtx s stream).isNone) id)
  ∧ (∀ stream c r l, Answers (.filterOutput stream)
      (fun s => svCtx s stream == some c && (strSt s stream).released == r :: l && !laneFull (strSt s stream))
      (fun s => releaseNow stream c (takeInstant stream c r (setStr stream { strSt s stream with
        released := l, stalled := (strSt s stream).stalled.filter (· != r.inst) } s))))
  ∧ (∀ stream c r l, Answers (.filterOutput stream)
      (fun s => svCtx s stream == some c && (strSt s stream).released == r :: l && laneFull (strSt s stream)) (noteStalls stream c))
  ∧ (∀ stream c, Answers (.filterOutput stream) (fun s => svCtx s stream == some c && (strSt s stream).released.isEmpty) id)
  ∧ (∀ stream, Answers (.filterOutput stream) (fun s => (svCtx s stream).isNone) id)

/-- GOOSE: a frame's checks and its judgement, subscriptions that start and expire, retransmission, the echo, and sampled-value
publication (08 R244 to R281). -/
def Obligations.GooseRowsAct : Prop :=
  (∀ die port raw sub f, Answers (.gooseFrameCheck die port raw sub f) (fun s => queuedBad s die 5 (.goose f)) (takeQueued die 5 (.goose f)))
  ∧ (∀ die port raw sub f, f.decodable = false → Answers (.gooseFrameCheck die port raw sub f)
      (fun s => !queuedBad s die 5 (.goose f)) (fun s => bump (.gsDie die 0) (takeQueued die 5 (.goose f) s)))
  ∧ (∀ die port raw sub f, f.decodable = true → Answers (.gooseFrameCheck die port raw sub f)
      (fun s => !queuedBad s die 5 (.goose f) && (gsFind (takeQueued die 5 (.goose f) s) f).isNone)
      (fun s => bump (.gsDie die 1) (takeQueued die 5 (.goose f) s)))
  ∧ (∀ die port raw sub f n c, f.decodable = true → Answers (.gooseFrameCheck die port raw sub f)
      (fun s => !queuedBad s die 5 (.goose f) && gsFind (takeQueued die 5 (.goose f) s) f == some (n, c) && decide (n / 4096 ≠ die))
      (fun s => bump (.gsDie die 2) (takeQueued die 5 (.goose f) s)))
  ∧ (∀ die port raw sub f n c, f.decodable = true → Answers (.gooseFrameCheck die port raw sub f)
      (fun s => !queuedBad s die 5 (.goose f) && gsFind (takeQueued die 5 (.goose f) s) f == some (n, c)
        && decide (n / 4096 = die ∧ (gsSt (takeQueued die 5 (.goose f) s) n).o.obj ≠ .on))
      (fun s => bump (.gsDie die 3) (takeQueued die 5 (.goose f) s)))
  ∧ (∀ die port raw sub f n c vals s2, f.decodable = true → f.datset = c.datset → f.members.length = c.nentries →
      f.ndsCom = false → f.simulation = c.sim → f.confRev = c.confRev → Answers (.gooseFrameCheck die port raw sub f)
      (fun s =>
        let a := takeQueued die 5 (.goose f) s
        !queuedBad s die 5 (.goose f) && gsFind a f == some (n, c) && decide (n / 4096 = die ∧ (gsSt a n).o.obj = .on) && onPair a c.port port
          && decodeAll a f c.map == some vals && verifyFrame die c.keySlot f.len raw f.authOk f.authOldOk a == some (true, s2))
      (fun s => match gsJudge (gsSt s2 n) f.stNum f.sqNum with
        | .dup => gcnt n 5 s2
        | .stale => gcnt n 6 s2
        | .again => gsAgain n c raw (rxStamp s port raw sub) f vals s2
        | .fresh => gsNewState n c raw (rxStamp s port raw sub) f vals s2))
  ∧ (∀ ctx c, Answers (.gsStarted ctx) (fun s => gsCtx s ctx == some c && decide ((gsSt s ctx).o = ⟨.starting, false, false⟩))
      (fun s => setLive ctx .waiting (writeDead ctx c (now s) (setGs ctx { o := ⟨.on, false, false⟩ } s))))
  ∧ (∀ ctx c, Answers (.gsStarted ctx) (fun s => gsCtx s ctx == some c && decide ((gsSt s ctx).o.obj ≠ .starting)) id)
  ∧ (∀ ctx c d, Answers (.gsDeadline ctx)
      (fun s => gsCtx s ctx == some c && (gsSt s ctx).deadline == some d
        && decide ((gsSt s ctx).live = .live ∧ (gsSt s ctx).o.obj = .on) && mlt d (now s))
      (fun s =>
        let a := writeDead ctx c d s
        setLive ctx .expired (setGs ctx { gsSt a ctx with deadline := none } a)))
  ∧ (∀ ctx c d, Answers (.gsDeadline ctx) (fun s => gsCtx s ctx == some c && (gsSt s ctx).deadline == some d && !mlt d (now s)) id)
  ∧ (∀ ctx c, Answers (.gpRetransmit ctx)
      (fun s => gpCtx s ctx == some c && decide (((gpSt s ctx).o.obj = .on ∨ (gpSt s ctx).o.obj = .draining) ∧ (gpSt s ctx).stNum ≠ 0)
        && gpDue s (gpSt s ctx)) (gpNext ctx c))
  ∧ (∀ ctx c, Answers (.gpRetransmit ctx) (fun s => gpCtx s ctx == some c && !gpDue s (gpSt s ctx)) id)
  ∧ (∀ ctx c r, Answers (.gpEchoTimeout ctx)
      (fun s => gpCtx s ctx == some c && (gpSt s ctx).echoRaw == some r && decide ((gpSt s ctx).echo = 2 ∧ r ≤ s.tim.raw))
      (fun s => recordEvent (evDie 0x0603 ctx (gpSt s ctx).stNum 0 (ctx / 1024) ctx) (setEcho ctx c 3 (now s) s)))
  ∧ (∀ ctx, Answers (.gpEchoTimeout ctx) (fun s => (gpSt s ctx).echoRaw.isNone) id)
  ∧ (∀ ctx, ctx < 32768 → Answers (.gpStarted ctx) (fun s => decide ((gpSt s ctx).o = ⟨.starting, false, false⟩))
      (fun s => setGp ctx { o := ⟨.on, false, false⟩ } s))
  ∧ (∀ n c, Answers (.gpStarted (32768 + n)) (fun s => svpCtx s n == some c && decide ((svpSt s n).o = ⟨.starting, false, false⟩))
      (fun s => setSvp n { o := ⟨.on, false, false⟩, nextInst := svpFirst s c } s))
  ∧ (∀ ctx, ctx < 32768 → Answers (.gpStarted ctx) (fun s => decide ((gpSt s ctx).o.obj ≠ .starting)) id)
  ∧ (∀ stream c, Answers (.svpFrameSend stream)
      (fun s => svpCtx s stream == some c && decide ((svpSt s stream).o.obj = .on ∨ (svpSt s stream).o.obj = .draining)
        && decide (munits (instantTime c.rate ((svpSt s stream).nextInst + c.noasdu - 1)) + c.pubDelay * 1000 * two32 ≤ munits (now s)))
      (fun s =>
        let x := svpSt s stream
        let (a, asdus) := ((List.range c.noasdu).map (· + x.nextInst)).foldl (fun acc m => svpAsdu stream c m acc) (s, [])
        let y := svpSt a stream
        publish c.identity ⟨1, stream, x.nextInst + c.noasdu - 1, 0⟩ c.port c.pcp c.da
          (([1, stream, c.identity, if c.identity = 1 then s.cfg.sharedMac else Config.factoryMac, c.da, c.appid, c.vid, c.pcp, c.confRev, svpSynch s].map Int.ofNat) ++ c.svid.map Int.ofNat ++ asdus)
          (setSvp stream { y with nextInst := x.nextInst + c.noasdu, ready := y.ready.filter (fun r => decide (x.nextInst + c.noasdu - 1 < r.2.1)) } a)))
  ∧ (∀ stream c, Answers (.svpFrameSend stream)
      (fun s => svpCtx s stream == some c && decide ((svpSt s stream).o.obj = .off)) id)
  ∧ (∀ stream c, Answers (.svpFrameSend stream)
      (fun s => svpCtx s stream == some c
        && decide (munits (now s) < munits (instantTime c.rate ((svpSt s stream).nextInst + c.noasdu - 1)) + c.pubDelay * 1000 * two32)) id)

/-! ### Boundaries and the recorder -/

/-- A system cycle boundary opens the cycle that module time is in; a commit takes force; scheduled port actions execute when
their time has come, in the order of their times; a heel takes effect at its H, and the HEEL pin's edge is judged 1 µs after it
(01 R53, R54; 02 R77; 07 R227 to R229; 09 R298 to R301). -/
def Obligations.BoundaryRowsAct : Prop :=
  Answers .systemCycleBoundary
      (fun s => decide (s.pwr.phase = .running ∧ cycleOf s.cfg.cycleLen (now s) ≠ s.cycleNum))
      (fun s => openCycle (cycleOf s.cfg.cycleLen (now s)) (s.cfg.cycleLen * cycleOf s.cfg.cycleLen (now s))
        (boundaryTime s.cfg.cycleLen (cycleOf s.cfg.cycleLen (now s))) s)
  ∧ Answers .systemCycleBoundary (fun s => decide (s.pwr.phase ≠ .running ∨ cycleOf s.cfg.cycleLen (now s) = s.cycleNum)) id
  ∧ Answers .configTakeForce (fun s => decide (s.pwr.phase = .running)) takeForces
  ∧ Answers .configTakeForce (fun s => decide (s.pwr.phase ≠ .running)) id
  ∧ (∀ handle e, Answers (.scheduleExec handle)
      (fun s => tget s.grf.sched handle == some e && decide (s.pwr.phase = .running ∧ e.action = 4)
        && (e.late || mle (secNs e.sec e.ns) (now s)))
      (fun s => foldSt (fun x t => runAction 0 (now t) x.1 x.2 t) (portsUpTo s e) s))
  ∧ (∀ handle e, Answers (.scheduleExec handle)
      (fun s => tget s.grf.sched handle == some e && decide (s.pwr.phase = .running ∧ e.action = 4)
        && (e.late || mle (secNs e.sec e.ns) (now s)) && portsUpTo s e == [(handle, e)])
      (fun s => runAction 0 (now s) handle e s))
  ∧ (∀ handle e, Answers (.scheduleExec handle)
      (fun s => tget s.grf.sched handle == some e && !e.late && !mle (secNs e.sec e.ns) (now s)) id)
  ∧ (∀ handle, Answers (.scheduleExec handle) (fun s => (tget s.grf.sched handle).isNone) id)
  ∧ (∀ handle, Answers (.scheduleExec handle) (fun s => decide (s.pwr.phase ≠ .running)) id)
  ∧ (∀ p, Answers .heelApply (fun s => s.flt.pending == some p && mle (secNs p.sec p.ns) (now s)) (takePending p))
  ∧ (∀ p, Answers .heelApply (fun s => s.flt.pending == some p && !mle (secNs p.sec p.ns) (now s)) id)
  ∧ Answers .heelApply (fun s => s.flt.pending.isNone) id
  ∧ (∀ raw sub, Answers (.heelNFall raw sub) always (fun s => { s with flt := { s.flt with heelFall := some (raw, sub) } }))
  ∧ (∀ raw sub, Answers .heelNQualify
      (fun s => s.flt.heelFall == some (raw, sub) && decide (raw + 500 ≤ s.tim.raw ∧ s.cfg.pinEn = 1) && s.flt.pending.isNone)
      (fun s => { s with flt := { s.flt with heelFall := none, pending := some ⟨pinSecond (mtimeAt s raw sub), 0, s.cfg.pinClear == 1, 1, false⟩ } }))
  ∧ (∀ raw sub, Answers .heelNQualify
      (fun s => s.flt.heelFall == some (raw, sub) && decide (raw + 500 ≤ s.tim.raw ∧ s.cfg.pinEn = 1) && s.flt.pending.isSome)
      (fun s => recordEvent (evPkg 0x0505 (mtimeAt s raw sub).sec (mtimeAt s raw sub).ns 0 0)
        (bump .fltHeelIgnored { s with flt := { s.flt with heelFall := none } })))
  ∧ (∀ raw sub, Answers .heelNQualify
      (fun s => s.flt.heelFall == some (raw, sub) && decide (raw + 500 ≤ s.tim.raw ∧ s.cfg.pinEn ≠ 1))
      (fun s => { s with flt := { s.flt with heelFall := none } }))
  ∧ (∀ raw sub, Answers .heelNQualify (fun s => s.flt.heelFall == some (raw, sub) && decide (s.tim.raw < raw + 500)) id)
  ∧ Answers .heelNQualify (fun s => s.flt.heelFall.isNone) id

/-- An event takes the next sequence and stands in the staging buffer; a full buffer loses it; a record is written; a window
of one second closes with its counted event (16 R480 to R487, R600). When the next record may be written is the model's choice
of log entries 87 and 138. -/
def Obligations.RecorderRowsAct : Prop :=
  (∀ e, Answers (.eventRecord e) (fun s => !stageFull s)
      (fun s =>
        let a := { s with evr := { s.evr with staging := s.evr.staging ++ [recordFor s e], next := s.evr.next + 1 } }
        peak .evrStagePeak (stagedCount a) a))
  ∧ (∀ e s, stageFull s = true → ∃ t, exec (.eventRecord e) s = .next t ∧ t.evr.next = s.evr.next ∧ t.evr.staging = s.evr.staging
      ∧ cval t .evrLost = cval s .evrLost + 1 ∧ t.evr.lossRun.isSome = true)
  ∧ Answers .eventWrite (fun s => s.evr.staging.isEmpty) id
  ∧ Answers .eventWrite (fun s => !s.evr.staging.isEmpty && s.pair.flags.getLsbD 0) writeRecord
  ∧ Answers .eventWrite (fun s => !s.evr.staging.isEmpty && !s.pair.flags.getLsbD 0 && dueAgain 9 0 500 s)
      (fun s => writeRecord (runNow 9 0 s))
  ∧ Answers .eventWrite (fun s => !s.pair.flags.getLsbD 0 && !dueAgain 9 0 500 s) id
  ∧ (∀ code obj w e, Answers (.eventWindowClose code obj)
      (fun s => findWindow s code obj == some w && decide (w.openRaw + 500000000 ≤ s.tim.raw) && countedEvent w == some e)
      (fun s => recordEvent e { s with evr := { s.evr with windows := s.evr.windows.filter (fun x => !(x.code == code && x.obj == obj)) } }))
  ∧ (∀ code obj w, Answers (.eventWindowClose code obj)
      (fun s => findWindow s code obj == some w && decide (w.openRaw + 500000000 ≤ s.tim.raw) && (countedEvent w).isNone)
      (fun s => { s with evr := { s.evr with windows := s.evr.windows.filter (fun x => !(x.code == code && x.obj == obj)) } }))
  ∧ (∀ code obj w, Answers (.eventWindowClose code obj)
      (fun s => findWindow s code obj == some w && decide (s.tim.raw < w.openRaw + 500000000)) id)
  ∧ (∀ code obj, Answers (.eventWindowClose code obj) (fun s => (findWindow s code obj).isNone) id)

/-! ### Graphs and placement -/

/-- Operands are matched, a grace ends, a cluster's units take their firings, and a firing commits or is lost to parity (01
R20 to R31, 09 R286 to R291). The event of a parity error carries a code that is free (log entry 133). -/
def Obligations.GraphRowsAct : Prop :=
  (∀ stream outs rest, Answers (.matchOperand stream)
      (fun s => (strSt s stream).lane == outs :: rest && (refusedAt s (groupOperands s outs)).isNone)
      (fun s =>
        let a := deliverList (groupOperands s outs) (setStr stream { strSt s stream with lane := rest } s)
        drainEnds (match svCtx a stream with | some c => releaseNow stream c a | none => a)))
  ∧ (∀ stream outs rest r, Answers (.matchOperand stream)
      (fun s => (strSt s stream).lane == outs :: rest && refusedAt s (groupOperands s outs) == some r)
      (fun s => raiseCounting r 1 (spillOf s r) (evRegion 0x0707 (r / 4 + 256 * (r % 4)) 0 0 r r) (bump (.grf r 6) s)))
  ∧ (∀ stream, Answers (.matchOperand stream) (fun s => (strSt s stream).lane.isEmpty) id)
  ∧ (∀ node inst e, Answers (.graceFill node inst)
      (fun s => findEntry s node inst == some e && (e.ready || !graceDue s node inst)) id)
  ∧ (∀ node inst, Answers (.graceFill node inst) (fun s => (findEntry s node inst).isNone) id)
  ∧ (∀ node inst e g r, Answers (.graceFill node inst)
      (fun s => findEntry s node inst == some e && !e.ready && graceDue s node inst && nodeAt s node == some (g, r))
      (fun s =>
        let e1 := { e with slots := (List.zip (r.slots.map (·.kind)) e.slots).map (fun p => if p.2.isSome then p.2 else some ⟨if p.1 ≤ 1 then .s else .i, 0, qDead⟩) }
        let b := becomeReady e1 (bump (.grf (regionOf s node) 2) (modEntry node inst (fun _ => e1) s))
        drainEnds (deliverList b.2 b.1)))
  ∧ (∀ region cluster bad, Answers (.dispatch region cluster bad) always
      (fun s => drainEnds (dispatchGo ⟨region / 4, region % 4, cluster⟩ (s.grf.store.length + s.cfg.graphs.length + 8) bad s)))
  ∧ (∀ node f outs st, Answers (.firingCommit node .good)
      (fun s => serviceOf s node == some f && f.result == some (outs, st) && !(nodeSt s node).lost)
      (fun s => finish f outs (goodWrite f outs (noteWritten ⟨0, node, 0⟩
        (setNode node { nodeSt s node with op := st, outs := outs, outStamp := timeOf s node f.inst } (leaveService f s))))))
  ∧ (∀ node f outs st, Answers (.firingCommit node .good)
      (fun s => serviceOf s node == some f && f.result == some (outs, st) && (nodeSt s node).lost)
      (fun s => finishFailed f (leaveService f s)))
  ∧ (∀ node f, Answers (.firingCommit node .good) (fun s => serviceOf s node == some f && f.result.isNone) id)
  ∧ (∀ node f, Answers (.firingCommit node .buffer) (fun s => serviceOf s node == some f)
      (fun s => finishFailed f (parityError 2 1 (locOf s node) node (leaveService f s))))
  ∧ (∀ node f, Answers (.firingCommit node .state) (fun s => serviceOf s node == some f && !isStandby s)
      (fun s => finishFailed f (repairState node false (parityError 0 1 (locOf s node) node (leaveService f s)))))
  ∧ (∀ node f, Answers (.firingCommit node .state) (fun s => serviceOf s node == some f && isStandby s)
      (fun s => drainEnds (repairState node false (parityError 0 1 (locOf s node) node (leaveService f s)))))
  ∧ (∀ node f, Answers (.firingCommit node .stateAndCheckpoint) (fun s => serviceOf s node == some f && !isStandby s)
      (fun s => finishFailed f (repairState node true (parityError 0 1 (locOf s node) node (leaveService f s)))))
  ∧ (∀ node p, Answers (.firingCommit node p) (fun s => (serviceOf s node).isNone) id)

/-- Each operator of the library: the unit computes the firing that its node has in service, with the operator's function, on the
operands and parameters of that firing; a node of another operator, with nothing in service or with a result already computed, is
left alone (01 R21, R22; 10 R315 to R337). -/
def Obligations.OperatorRowsFire : Prop :=
  ∀ n,
    Fires (.dftFull n) 0x0100 opDftFull n ∧ Fires (.dftHalf n) 0x0101 opDftHalf n ∧ Fires (.cosine n) 0x0102 opCosine n
    ∧ Fires (.seq n) 0x0200 opSeq n ∧ Fires (.mag n) 0x0201 opMag n ∧ Fires (.magang n) 0x0202 opMagang n
    ∧ Fires (.pqs3 n) 0x0203 opPqs3 n ∧ Fires (.pqs1 n) 0x0204 opPqs1 n ∧ Fires (.freq n) 0x0205 opFreq n
    ∧ Fires (.angdiff n) 0x0206 opAngdiff n ∧ Fires (.phSum n) 0x0207 opPhSum n
    ∧ Fires (.impPe n) 0x0300 opImpPe n ∧ Fires (.impPp n) 0x0301 opImpPp n ∧ Fires (.mho n) 0x0302 opMho n
    ∧ Fires (.quad n) 0x0303 opQuad n ∧ Fires (.dir n) 0x0304 opDir n
    ∧ Fires (.diffBias n) 0x0400 opDiffBias n ∧ Fires (.harmRatio n) 0x0401 opHarmRatio n
    ∧ Fires (.idmt n) 0x0500 opIdmt n ∧ Fires (.deft n) 0x0501 opDeft n
    ∧ Fires (.uv n) 0x0600 opUv n ∧ Fires (.ov n) 0x0601 opOv n ∧ Fires (.bfCheck n) 0x0602 opBfCheck n
    ∧ Fires (.freqProt n) 0x0603 opFreqProt n
    ∧ Fires (.dcDidt n) 0x0700 opDcDidt n ∧ Fires (.dcOc n) 0x0701 opDcOc n ∧ Fires (.stringImb n) 0x0702 opStringImb n
    ∧ Fires (.timerPd n) 0x0800 opTimerPd n ∧ Fires (.pulse n) 0x0801 opPulse n ∧ Fires (.cmpHyst n) 0x0802 opCmpHyst n
    ∧ Fires (.boolComb n) 0x0803 opBoolComb n ∧ Fires (.latch n) 0x0804 opLatch n ∧ Fires (.edge n) 0x0805 opEdge n
    ∧ Fires (.count n) 0x0806 opCount n
    ∧ Fires (.scale n) 0x0900 opScale n ∧ Fires (.arith n) 0x0901 opArith n ∧ Fires (.sumw n) 0x0902 opSumw n
    ∧ Fires (.minmax n) 0x0903 opMinmax n ∧ Fires (.limit n) 0x0904 opLimit n ∧ Fires (.absf n) 0x0905 opAbsf n
    ∧ Fires (.select n) 0x0906 opSelect n ∧ Fires (.movavg n) 0x0907 opMovavg n ∧ Fires (.delayk n) 0x0908 opDelayk n
    ∧ Fires (.sigReadNode n) 0x0A00 opSigRead n ∧ Fires (.sigWriteNode n) 0x0A01 opSigWrite n

/-- Migration, deferral, rebalancing, consolidation, background tests and evacuation (11 R344 to R358, 14 R450). Choices of
the model: a self-test beside placement (log entry 137) and when periodic work is due (138). -/
def Obligations.PlacementRowsAct : Prop :=
  (∀ region, Answers (.migrationStart region)
      (fun s => !(s.plm.migs.filter (fun m => migRegion s m == region)).any (·.started.isSome))
      (fun s => tryMigs ((s.plm.migs.filter (fun m => migRegion s m == region)).filter (fun m => !m.deferred && !frozenCause s m.cause)) s))
  ∧ (∀ region, Answers (.migrationStart region)
      (fun s => (s.plm.migs.filter (fun m => migRegion s m == region)).any (·.started.isSome)) id)
  ∧ (∀ node m, Answers (.migrationComplete node)
      (fun s => s.plm.migs.find? (fun m => m.node == node && m.started.isSome) == some m)
      (fun s => goBack node m.back (bistBegin (locOf s node).die (promote (4 * (locOf s node).die + (locOf s node).region) 64
        (arrive node m.dest (bump (.plmMigrate (locOf s node).die) s))))))
  ∧ (∀ node, Answers (.migrationComplete node)
      (fun s => (s.plm.migs.find? (fun m => m.node == node && m.started.isSome)).isNone) id)
  ∧ (∀ node m r, Answers (.deferWarnExpiry node)
      (fun s => s.plm.migs.find? (fun m => m.node == node && m.started.isNone && !m.warned) == some m && m.deferRaw == some r
        && decide (rawMs s.cfg.deferWarn < s.tim.raw - r))
      (fun s => recordEvent (evPkg 0x0802 node ((s.tim.raw - r) / 500000) m.cause node) (modMig node (fun a => { a with warned := true }) s)))
  ∧ (∀ node, Answers (.deferWarnExpiry node)
      (fun s => (s.plm.migs.find? (fun m => m.node == node && m.started.isNone && !m.warned)).isNone) id)
  ∧ (∀ die region cluster, region ≤ 3 → cluster ≤ 7 → Answers (.rebalanceCheck die region cluster)
      (fun s => hasDie s die && !overloaded (clusterNo ⟨die, region, cluster⟩) s)
      (fun s => measured (clusterNo ⟨die, region, cluster⟩) (s.plm.rebalDue.filter (· != clusterNo ⟨die, region, cluster⟩)) s))
  ∧ (∀ die region cluster, region ≤ 3 → cluster ≤ 7 → Answers (.rebalanceCheck die region cluster)
      (fun s => hasDie s die && overloaded (clusterNo ⟨die, region, cluster⟩) s && s.plm.frozen)
      (fun s => measured (clusterNo ⟨die, region, cluster⟩)
        (s.plm.rebalDue.filter (· != clusterNo ⟨die, region, cluster⟩) ++ [clusterNo ⟨die, region, cluster⟩]) s))
  ∧ (∀ die region cluster, region ≤ 3 → cluster ≤ 7 → Answers (.rebalanceCheck die region cluster)
      (fun s => hasDie s die && overloaded (clusterNo ⟨die, region, cluster⟩) s && !s.plm.frozen)
      (fun s => rebalance (clusterNo ⟨die, region, cluster⟩) (measured (clusterNo ⟨die, region, cluster⟩)
        (s.plm.rebalDue.filter (· != clusterNo ⟨die, region, cluster⟩) ++ [clusterNo ⟨die, region, cluster⟩]) s)))
  ∧ (∀ die region cluster, Answers (.rebalanceCheck die region cluster)
      (fun s => !hasDie s die || decide (3 < region ∨ 7 < cluster)) id)
  ∧ (∀ die, Answers (.consolidation die) (fun s => decide (s.cfg.consolidate ≠ 1) || s.plm.frozen || !dieHealthy s die) id)
  ∧ (∀ die, Answers (.consolidation die)
      (fun s => decide (s.cfg.consolidate = 1) && !s.plm.frozen && dieHealthy s die && dueAgain 7 die 5000000000 s)
      (fun s => consolidate die (runNow 7 die s)))
  ∧ (∀ die, Answers (.consolidation die) (fun s => !dueAgain 7 die 5000000000 s) id)
  ∧ (∀ die k, Answers (.clusterBist die)
      (fun s => decide (s.pair.state ≠ .failed) && dieHealthy s die && !thas s.plm.bist die && dueAgain 2 die 468750000 s
        && nextBist s die == some k)
      (fun s =>
        let a := runNow 2 die s
        let b : Bist := ⟨k, s.tim.raw, (clusterNodes s (clusterLoc k)).map (fun n => (n, clusterLoc k)), false⟩
        bistBegin die (clearCluster (clusterLoc k)
          { a with plm := { s.plm with bist := tset s.plm.bist die b, bistNext := tset s.plm.bistNext die (k % 32 + 1) } })))
  ∧ (∀ die, Answers (.clusterBist die) (fun s => decide (s.pair.state = .failed) || !dieHealthy s die || thas s.plm.bist die) id)
  ∧ (∀ die, Answers (.clusterBist die) (fun s => !dueAgain 2 die 468750000 s) id)
  ∧ (∀ die b, Answers (.evPlmBistSkip die)
      (fun s => tget s.plm.bist die == some b && !b.testing && decide (50000000 ≤ s.tim.raw - b.reqRaw)
        && !(clusterNodes s (clusterLoc b.cluster)).isEmpty)
      (fun s =>
        let a := bistReturn b (bump (.plmBistSkip die) s)
        recordEvent (evCluster 0x0805 (packLoc (clusterLoc b.cluster)) (clusterNodes s (clusterLoc b.cluster)).length 0 (clusterLoc b.cluster) 0)
          { a with pair := { a.pair with bistSkip := a.pair.bistSkip + 1 } }))
  ∧ (∀ die, Answers (.evPlmBistSkip die) (fun s => (tget s.plm.bist die).isNone) id)
  ∧ (∀ die b, Answers (.clusterTestEnd die true) (fun s => tget s.plm.bist die == some b && b.testing)
      (fun s => { bistReturn b s with pair := { (bistReturn b s).pair with bistPass := (bistReturn b s).pair.bistPass + 1 } }))
  ∧ (∀ die b, Answers (.clusterTestEnd die false) (fun s => tget s.plm.bist die == some b && b.testing)
      (fun s => evSelftest 0 (packLoc (clusterLoc b.cluster)) 1 (setFlag 12 true
        { s with plm := { s.plm with bist := tdel s.plm.bist die, exclClusters := dedupN (s.plm.exclClusters ++ [b.cluster]) },
                 pair := { s.pair with bistFail := s.pair.bistFail + 1 } })))
  ∧ (∀ die ok b, Answers (.clusterTestEnd die ok) (fun s => tget s.plm.bist die == some b && !b.testing) id)
  ∧ (∀ die readable, Answers (.dieEvacuation die readable) always (dieEvacuate die readable))
  ∧ (∀ die b, Answers (.evPlmBistSkip die)
      (fun s => tget s.plm.bist die == some b && !b.testing && decide (50000000 ≤ s.tim.raw - b.reqRaw)
        && (clusterNodes s (clusterLoc b.cluster)).isEmpty) (bistBegin die))

/-! ### Logic -/

/-- A processor starts or goes on with a scan, the mode switch moves, and every logic instruction runs when it stands at PC of the
scan in progress (12 R374 to R378, R384, Table LGC-3). -/
def Obligations.ScanRowsAct : Prop :=
  (∀ proc steps sc, Answers (.logicScan proc steps false) (fun s => scanOf s proc == some sc) (runScan proc steps))
  ∧ (∀ proc steps, Answers (.logicScan proc steps false) (fun s => (scanOf s proc).isNone && !headAwaited s)
      (fun s => runScan proc steps (startScan proc s)))
  ∧ (∀ proc steps, Answers (.logicScan proc steps false) (fun s => (scanOf s proc).isNone && headAwaited s) id)
  ∧ (∀ proc steps sc, Answers (.logicScan proc steps true) (fun s => scanOf s proc == some sc)
      (fun s => abortScan proc sc 1 (bump (.parity 10 (proc / 4)) s)))
  ∧ (∀ r t, Answers (.keyPositionChange r t) (fun s => decide (keyPosition s.lgc.runN s.lgc.stopN = keyPosition r t))
      (fun s => { s with lgc := { s.lgc with runN := r, stopN := t } }))
  ∧ (∀ r t, Answers (.keyPositionChange r t) (fun s => decide (keyPosition s.lgc.runN s.lgc.stopN ≠ keyPosition r t))
      (fun s => raise 0x0903 (keyPosition s.lgc.runN s.lgc.stopN) (keyPosition r t) 0 { s with lgc := { s.lgc with runN := r, stopN := t } }))
  ∧ (∀ p,
      Scans (.lgcNop p) .nop p 0 ∧ Scans (.lgcEnd p) .end_ p 0 ∧ Scans (.lgcNot p) .not_ p 0 ∧ Scans (.lgcCloseParen p) .close p 0
      ∧ ∀ x,
        Scans (.lgcLd p x) .ld p x ∧ Scans (.lgcLdn p x) .ldn p x ∧ Scans (.lgcAnd p x) .and_ p x ∧ Scans (.lgcAndn p x) .andn p x
        ∧ Scans (.lgcOr p x) .or_ p x ∧ Scans (.lgcOrn p x) .orn p x ∧ Scans (.lgcXor p x) .xor_ p x
        ∧ Scans (.lgcXorn p x) .xorn p x ∧ Scans (.lgcLdk p x) .ldk p x ∧ Scans (.lgcSt p x) .st p x
        ∧ Scans (.lgcStn p x) .stn p x ∧ Scans (.lgcSet p x) .set p x ∧ Scans (.lgcRst p x) .rst p x
        ∧ Scans (.lgcAndParen p x) .andParen p x ∧ Scans (.lgcAndnParen p x) .andnParen p x
        ∧ Scans (.lgcOrParen p x) .orParen p x ∧ Scans (.lgcOrnParen p x) .ornParen p x ∧ Scans (.lgcXorParen p x) .xorParen p x
        ∧ Scans (.lgcRtrig p x) .rtrig p x ∧ Scans (.lgcFtrig p x) .ftrig p x
        ∧ Scans (.lgcTon p x) .ton p x ∧ Scans (.lgcTof p x) .tof p x ∧ Scans (.lgcTp p x) .tp p x ∧ Scans (.lgcTrst p x) .trst p x
        ∧ Scans (.lgcCtu p x) .ctu p x ∧ Scans (.lgcCtd p x) .ctd p x ∧ Scans (.lgcCrst p x) .crst p x ∧ Scans (.lgcCld p x) .cld p x
        ∧ Scans (.lgcJmp p x) .jmp p x ∧ Scans (.lgcJmpc p x) .jmpc p x ∧ Scans (.lgcJmpcn p x) .jmpcn p x
        ∧ Scans (.lgcQgood p x) .qgood p x ∧ Scans (.lgcQinv p x) .qinv p x ∧ Scans (.lgcQquest p x) .qquest p x
        ∧ Scans (.lgcQold p x) .qold p x ∧ Scans (.lgcQtest p x) .qtest p x ∧ Scans (.lgcQsubst p x) .qsubst p x
        ∧ Scans (.lgcLdw p x) .ldw p x ∧ Scans (.lgcLdwk p x) .ldwk p x ∧ Scans (.lgcLdwc p x) .ldwc p x
        ∧ Scans (.lgcLdwt p x) .ldwt p x
        ∧ Scans (.lgcCmpeq p x) .cmpeq p x ∧ Scans (.lgcCmpne p x) .cmpne p x ∧ Scans (.lgcCmpgt p x) .cmpgt p x
        ∧ Scans (.lgcCmpge p x) .cmpge p x ∧ Scans (.lgcCmplt p x) .cmplt p x ∧ Scans (.lgcCmple p x) .cmple p x
        ∧ Scans (.lgcCmpeqk p x) .cmpeqk p x ∧ Scans (.lgcCmpnek p x) .cmpnek p x ∧ Scans (.lgcCmpgtk p x) .cmpgtk p x
        ∧ Scans (.lgcCmpgek p x) .cmpgek p x ∧ Scans (.lgcCmpltk p x) .cmpltk p x ∧ Scans (.lgcCmplek p x) .cmplek p x
        ∧ Scans (.lgcStw p x) .stw p x ∧ Scans (.lgcStwc p x) .stwc p x)

/-! ### The loop -/

/-- A loop sample runs when its input has come, and without it when the wait is over; a loop without a due sample takes the changes
of coefficients whose instant has come (13 R402 to R409, R414). -/
def Obligations.LoopRowsAct : Prop :=
  (∀ p n i, Answers .loopSample (fun s => dueSample s == some (p, n) && loopInput s p n == some i) (runSample p n (some i)))
  ∧ (∀ p n, Answers .loopSample (fun s => dueSample s == some (p, n) && (loopInput s p n).isNone) id)
  ∧ Answers .loopSample (fun s => (dueSample s).isNone) idleNow
  ∧ (∀ p n, Answers .loopWaitExpiry
      (fun s => dueSample s == some (p, n) && (loopInput s p n).isNone
        && decide (munits (instantTime p.rate n) + p.loopWait * 1000 * two32 ≤ munits (now s)))
      (fun s => runSample p n none (bump (.lop 0) s)))
  ∧ (∀ p n, Answers .loopWaitExpiry
      (fun s => dueSample s == some (p, n) && decide (munits (now s) < munits (instantTime p.rate n) + p.loopWait * 1000 * two32)) id)
  ∧ Answers .loopWaitExpiry (fun s => (dueSample s).isNone) id

/-! ### The pair -/

/-- Reports, the token, the lease, heartbeats, the SYNC timeout, the shadow lag and the relinquishment (14 R418 to R449, R452
to R454). When periodic work is due is the model's choice of log entry 138. -/
def Obligations.PairRowsAct : Prop :=
  Answers .healthReportSend (fun s => reports s && dueAgain 0 0 475000 s) (fun s => sendReport (runNow 0 0 s))
  ∧ Answers .healthReportSend (fun s => !dueAgain 0 0 475000 s) id
  ∧ Answers .healthReportSend (fun s => !reports s) id
  ∧ (∀ m, m.viaArb = true → m.crcOk = false → Answers (.tokenMessage m) always (bump .hwiArbCrc))
  ∧ (∀ m, m.viaArb = false → Answers (.tokenMessage m) (fun s => !standalone s && tokenAuth s m && decide (s.pair.epoch ≤ m.epoch)) (tokenTake m))
  ∧ (∀ m, m.viaArb = false → Answers (.tokenMessage m) (fun s => !standalone s && !tokenAuth s m) (bump (.pair 9)))
  ∧ (∀ m, m.viaArb = false → Answers (.tokenMessage m)
      (fun s => !standalone s && tokenAuth s m && decide (m.epoch < s.pair.epoch)) (bump (.pair 8)))
  ∧ (∀ e, Answers .leaseExpiry (fun s => !standalone s && actsActive s && s.pair.leaseEnd == some e && decide (e ≤ s.tim.raw))
      (setPair .silent 4))
  ∧ (∀ e, Answers .leaseExpiry (fun s => s.pair.leaseEnd == some e && decide (s.tim.raw < e)) id)
  ∧ Answers .leaseExpiry (fun s => standalone s || !actsActive s) id
  ∧ Answers .heartbeatTimeout
      (fun s => decide (s.pair.state = .active ∧ s.cfg.cycleLen * 500000000 ≤ (s.tim.raw - s.pair.heartbeatRaw) * 1152000))
      (fun s => setPair .solo 7 { s with pair := { s.pair with heartbeat := none } })
  ∧ Answers .heartbeatTimeout
      (fun s => decide (s.pair.state ≠ .active ∨ (s.tim.raw - s.pair.heartbeatRaw) * 1152000 < s.cfg.cycleLen * 500000000)) id
  ∧ Answers .syncTimeoutExpiry
      (fun s => decide (s.pair.state = .syncing ∧ rawSec s.cfg.pair.syncTimeout ≤ s.tim.raw - s.pair.syncRaw))
      (fun s =>
        let a := recordEvent (evSys 0x0B0A 2 s.pair.syncPages 0 0) s
        leashSend (.sync 0 (partCode s) Config.behaviourRev) 0 0 { a with pair := { a.pair with syncRaw := a.tim.raw, syncDone := false, syncPages := 0 } })
  ∧ Answers .syncTimeoutExpiry (fun s => decide (s.pair.state ≠ .syncing)) id
  ∧ (∀ key f, Answers (.shadowLagExpiry key)
      (fun s => s.pair.shadow.find? (fun f => f.key == key) == some f && decide (rawUs s.cfg.pair.lag ≤ s.tim.raw - f.raw))
      (fun s => queueUnchecked f { s with pair := { s.pair with shadow := s.pair.shadow.erase f } }))
  ∧ (∀ key f, Answers (.shadowLagExpiry key)
      (fun s => s.pair.shadow.find? (fun f => f.key == key) == some f && decide (s.tim.raw - f.raw < rawUs s.cfg.pair.lag)) id)
  ∧ (∀ b, Answers .relinquishTimeout
      (fun s => s.pair.relinquish == some b && decide (25000000 ≤ s.tim.raw - s.pair.relinquishRaw))
      (fun s => completeCmd b.jseq stFailed 0 (setFlag 1 false { s with pair := { s.pair with relinquish := none } })))
  ∧ (∀ b, Answers .relinquishTimeout
      (fun s => s.pair.relinquish == some b && decide (s.tim.raw - s.pair.relinquishRaw < 25000000)) id)
  ∧ Answers .relinquishTimeout (fun s => s.pair.relinquish.isNone) id
  ∧ (∀ e, Answers .mirrorApply
      (fun s => s.pair.mirrors.find? (fun e => e.2.ended && e.1 + 1 == s.cycleNum) == some e && follows s) (applyMirror e.2))
  ∧ Answers .mirrorApply (fun s => (s.pair.mirrors.find? (fun e => e.2.ended && e.1 + 1 == s.cycleNum)).isNone) id

/-- LEASH: a frame of a lane that is up, with a good tag and the sequence expected, takes effect by its message; another one
of them is answered by the lane alone; acknowledgements and NAKs work the frames sent (14 R427 to R436). When a stopped lane
counts as DOWN is the model's reading (log entry 140). -/
def Obligations.LeashRowsAct : Prop :=
  (∀ lane, Answers (.leashLaneState lane true)
      (fun s => decide (lane < Config.lanes s.variant) && !standalone s && !(laneSt s lane).up && !(laneSt s lane).stopped)
      (fun s => recordEvent (evSys 0x0B06 lane 0 0 lane)
        (setLane lane { laneSt s lane with up := true, txRaw := s.tim.raw, txSeq := 0, rxSeq := 0, unacked := [], loopFail := 0,
                                               loopSent := false, tagFails := 0 } s)))
  ∧ (∀ lane, Answers (.leashLaneState lane true) (fun s => (laneSt s lane).up || (laneSt s lane).stopped) id)
  ∧ (∀ lane, Answers (.leashLaneState lane false) (fun s => decide (lane < Config.lanes s.variant) && !standalone s) (laneDown lane 0))
  ∧ (∀ lane up, Answers (.leashLaneState lane up) (fun s => decide (Config.lanes s.variant ≤ lane) || standalone s) id)
  ∧ (∀ l seq f rest, Answers (.leashAck l seq) (fun s => leashTagged l s && framesFrom (laneSt s l.lane) seq == f :: rest)
      (fun s => setLane l.lane { laneSt (leashPassed l s) l.lane with unacked := rest } (leashPassed l s)))
  ∧ (∀ l seq, Answers (.leashAck l seq) (fun s => leashTagged l s && (framesFrom (laneSt s l.lane) seq).isEmpty) (leashPassed l))
  ∧ (∀ l seq, Answers (.leashNak l seq)
      (fun s => leashTagged l s && !(framesFrom (laneSt s l.lane) seq).isEmpty
        && decide ((laneSt s l.lane).nonce + (framesFrom (laneSt s l.lane) seq).length < 2 ^ 48))
      (fun s =>
        let a := leashPassed l s
        let again := framesFrom (laneSt a l.lane) seq
        again.foldl (resend l.lane) (setLane l.lane { laneSt a l.lane with unacked := again } a)))
  ∧ (∀ l seq, Answers (.leashNak l seq)
      (fun s => leashTagged l s && !(framesFrom (laneSt s l.lane) seq).isEmpty
        && decide (2 ^ 48 ≤ (laneSt s l.lane).nonce + (framesFrom (laneSt s l.lane) seq).length)) (fun s => laneStops l.lane (leashPassed l s)))
  ∧ (∀ lane, Answers (.ackSend lane) (fun s => (laneSt s lane).up && (laneSt s lane).ackDue)
      (fun s => laneControl lane (.ack (((laneSt s lane).rxSeq + 16777215) % 16777216)) (setLane lane { laneSt s lane with ackDue := false } s)))
  ∧ (∀ lane, Answers (.ackSend lane) (fun s => !((laneSt s lane).up && (laneSt s lane).ackDue)) id)
  ∧ (∀ lane, Answers (.heartbeatSend lane)
      (fun s => laneOk s lane && leashKey s && !standalone s && decide ((laneSt s lane).txRaw + 5000 ≤ s.tim.raw) && !wraps s lane)
      (fun s => laneSend lane (.heartbeat (pstateNum s.pair.state) s.pair.epoch) none s))
  ∧ (∀ lane, Answers (.heartbeatSend lane)
      (fun s => laneOk s lane && leashKey s && !standalone s && decide ((laneSt s lane).txRaw + 5000 ≤ s.tim.raw) && wraps s lane)
      (laneStops lane))
  ∧ (∀ lane, Answers (.heartbeatSend lane)
      (fun s => !(laneOk s lane && leashKey s && !standalone s && decide ((laneSt s lane).txRaw + 5000 ≤ s.tim.raw))) id)
  ∧ (∀ l state epoch, Answers (.leashHeartbeat l state epoch)
      (fun s => leashGood l s && decide (s.pair.state = .active ∧ (state = 1 ∨ state = 2)))
      (fun s =>
        let a := leashTaken l s
        { a with pair := { a.pair with heartbeat := some state, heartbeatRaw := a.tim.raw } }))
  ∧ (∀ l state epoch, Answers (.leashHeartbeat l state epoch)
      (fun s => leashGood l s && decide (s.pair.state = .active ∧ state ≠ 1 ∧ state ≠ 2))
      (fun s =>
        let a := leashTaken l s
        setPair .solo 7 { a with pair := { a.pair with heartbeat := some state, heartbeatRaw := a.tim.raw } }))
  ∧ (∀ l cycle gen dts, Answers (.leashHead l cycle gen dts)
      (fun s => leashGood l s && decide (s.pair.epoch = l.epoch ∧ s.pair.state = .standby))
      (fun s =>
        let a := raiseEpoch l.epoch (leashTaken l s)
        takeMirror cycle (fun m => { m with gen, dts, headIn := true, headRaw := s.tim.raw }) { a with pair := { a.pair with lastHeadGen := gen } }))
  ∧ (∀ l cycle instants, Answers (.leashAdmit l cycle instants)
      (fun s => leashGood l s && decide (s.pair.epoch ≤ l.epoch) && follows s)
      (fun s => takeMirror cycle (fun m => { m with admits := m.admits ++ instants, counts := (m.counts.1 + 1, m.counts.2) }) (leashTaken l s)))
  ∧ (∀ l cycle page data, Answers (.leashPage l cycle page data)
      (fun s => leashGood l s && decide (s.pair.epoch ≤ l.epoch ∧ s.pair.state = .standby))
      (fun s => takeMirror cycle (fun m => { m with pages := tset m.pages page data, counts := (m.counts.1, m.counts.2.1 + 1, m.counts.2.2) })
        (leashTaken l s)))
  ∧ (∀ l cycle digests, Answers (.leashCdigest l cycle digests)
      (fun s => leashGood l s && decide (s.pair.epoch ≤ l.epoch) && follows s)
      (fun s => takeMirror cycle (fun m => { m with cdigests := digests, counts := (m.counts.1, m.counts.2.1, m.counts.2.2 + 1) })
        (leashTaken l s)))
  ∧ (∀ l cycle admits pages cdigests crc, Answers (.leashEnd l cycle admits pages cdigests crc)
      (fun s => leashGood l s && decide (s.pair.epoch ≤ l.epoch ∧ s.pair.state = .standby) && !s.pair.mirrorLost && !(mirrorOf s cycle).ended
        && (mirrorOf s cycle).counts == (admits, pages, cdigests) && crc == payloadCrc (mirrorIn (mirrorOf s cycle)))
      (fun s =>
        let a := modMirror cycle (fun m => { m with fin := some ((admits, pages, cdigests), crc) }) (leashTaken l s)
        modMirror cycle (fun m => { m with ended := true }) { a with pair := { a.pair with lastMirrorCycle := max a.pair.lastMirrorCycle cycle } }))
  ∧ (∀ l cycle admits pages cdigests crc, Answers (.leashEnd l cycle admits pages cdigests crc)
      (fun s => leashGood l s && decide (s.pair.epoch ≤ l.epoch) && follows s && (mirrorOf s cycle).counts != (admits, pages, cdigests))
      (fun s => modMirror cycle (fun m => { m with fin := some ((admits, pages, cdigests), crc) }) (leashTaken l s)))
  ∧ (∀ l key prpSeq crc f, Answers (.leashFdigest l key prpSeq crc)
      (fun s => leashGood l s && decide (s.pair.epoch ≤ l.epoch ∧ s.pair.state = .standby)
        && s.pair.shadow.find? (fun f => f.key == key) == some f)
      (fun s =>
        let a := leashTaken l s
        judgeFrame f prpSeq crc { a with pair := { a.pair with shadow := a.pair.shadow.erase f } }))
  ∧ (∀ l key prpSeq crc, Answers (.leashFdigest l key prpSeq crc)
      (fun s => leashGood l s && decide (s.pair.epoch ≤ l.epoch ∧ s.pair.state = .standby)
        && (s.pair.shadow.find? (fun f => f.key == key)).isNone)
      (fun s =>
        let a := leashTaken l s
        { a with pair := { a.pair with early := a.pair.early ++ [⟨key, prpSeq, crc, 0⟩] } }))
  ∧ (∀ l index value effect, Answers (.leashCoef l index value effect)
      (fun s => leashGood l s && decide (s.pair.epoch ≤ l.epoch ∧ index ≤ 36) && follows s)
      (fun s =>
        let a := leashTaken l s
        let late := !loopIdle a effect.sample && decide (effect.sample < a.lop.nextSample)
        { a with lop := { a.lop with pend := a.lop.pend ++ [⟨index, value, if late then a.lop.nextSample else effect.sample, late, effect.jseq⟩] } }))
  ∧ (∀ l page, Answers (.leashPageReq l page) (leashGood l)
      (fun s =>
        let a := leashTaken l s
        leashSend (.pageResp page (pageReply a page)) (pageDie a page) page.obj a))
  ∧ (∀ l page pages, Answers (.leashPageResp l page pages) (leashGood l) (fun s => takeReply page pages (leashTaken l s)))
  ∧ (∀ l partNumber brev, Answers (.leashSync l 0 partNumber brev) (fun s => leashGood l s && decide (s.pair.state = .active))
      (fun s => fullTransfer (leashTaken l s)))
  ∧ (∀ l partNumber brev, Answers (.leashSync l 2 partNumber brev)
      (fun s => leashGood l s && decide (s.pair.state = .syncing) && !s.pair.syncDone)
      (fun s =>
        let a := leashTaken l s
        let b := { a with pair := { a.pair with partNumberOk := partNumber == partCode a && brev == Config.behaviourRev, syncDone := true } }
        recordEvent (evSys 0x0B0A 1 b.pair.syncPages 0 0) b))
  ∧ (∀ l cycle instants, Answers (.leashAdmit l cycle instants)
      (fun s => (laneSt s l.lane).up && !standalone s && !(l.tagOk && leashKey s))
      (tagFailed l.lane))
  ∧ (∀ l cycle instants, Answers (.leashAdmit l cycle instants)
      (fun s => leashTagged l s && decide (l.seq ≠ (laneSt s l.lane).rxSeq))
      (fun s => laneControl l.lane (.nak (laneSt s l.lane).rxSeq) (leashPassed l s)))
  ∧ (∀ l cycle instants, Answers (.leashAdmit l cycle instants)
      (fun s => leashGood l s && decide (l.epoch < s.pair.epoch)) (fun s => bump (.pair 8) (leashTaken l s)))
  ∧ (∀ l cycle instants, Answers (.leashAdmit l cycle instants) (fun s => !(laneSt s l.lane).up || standalone s) id)
  ∧ (∀ l seq, Answers (.leashAck l seq) (fun s => (laneSt s l.lane).up && !standalone s && !(l.tagOk && leashKey s)) (tagFailed l.lane))
  ∧ (∀ l seq, Answers (.leashNak l seq) (fun s => (laneSt s l.lane).up && !standalone s && !(l.tagOk && leashKey s)) (tagFailed l.lane))
  ∧ (∀ l seq, Answers (.leashAck l seq) (fun s => !(laneSt s l.lane).up || standalone s) id)
  ∧ (∀ l seq, Answers (.leashNak l seq) (fun s => !(laneSt s l.lane).up || standalone s) id)
  ∧ (∀ l cycle instants, Answers (.leashAdmit l cycle instants)
      (fun s => leashNext l s && delivered (leashPassed l s) l) (leashTaken l))
  ∧ (∀ l cycle gen dts b, Answers (.leashHead l cycle gen dts)
      (fun s => leashGood l s && decide (s.pair.epoch < l.epoch ∧ s.pair.state = .active ∧ s.pair.ownEpoch ≤ s.pair.epoch)
        && s.pair.relinquish == some b)
      (fun s =>
        let a := setPair .standby 9 (raiseEpoch l.epoch (leashTaken l s))
        takeMirror cycle (fun m => { m with gen, dts, headIn := true, headRaw := a.tim.raw }) { a with pair := { a.pair with lastHeadGen := gen } }))

/-- Self-tests: lane loopback, memory scrubbing, eye openings, known answers and the golden vectors of the filter arrays (07
R235, 14 R450). When periodic work is due is the model's choice of log entry 138. -/
def Obligations.SelfTestRowsAct : Prop :=
  (∀ l, Answers (.leashLoopback l .due)
      (fun s => testsRun s && (laneSt s l.lane).up && dueAgain 5 l.lane 50000000 s && !(laneSt s l.lane).loopSent)
      (fun s =>
        let a := runNow 5 l.lane s
        laneControl l.lane (.loopback false loopPattern) (setLane l.lane { laneSt a l.lane with loopSent := true } a)))
  ∧ (∀ l, Answers (.leashLoopback l .due)
      (fun s => testsRun s && (laneSt s l.lane).up && dueAgain 5 l.lane 50000000 s && (laneSt s l.lane).loopSent)
      (fun s => loopDue l.lane (runNow 5 l.lane s)))
  ∧ (∀ l, Answers (.leashLoopback l (.echo loopPattern)) (fun s => leashTagged l s && (laneSt s l.lane).loopSent)
      (fun s => setLane l.lane { laneSt (leashPassed l s) l.lane with loopFail := 0, loopSent := false } (leashPassed l s)))
  ∧ (∀ l, Answers (.leashLoopback l .due) (fun s => !dueAgain 5 l.lane 50000000 s) id)
  ∧ (∀ l, Answers (.leashLoopback l .due) (fun s => !(testsRun s && (laneSt s l.lane).up)) id)
  ∧ (∀ die, Answers (.dramScrub die none) (fun s => testsRun s && hasDie s die)
      (fun s => setFlag 11 false { s with pair := { s.pair with scrubPass := s.pair.scrubPass + 1 } }))
  ∧ (∀ die place, Answers (.dramScrub die (some place)) (fun s => testsRun s && hasDie s die)
      (fun s => correctParity die place (setFlag 11 true { s with pair := { s.pair with scrubErr := s.pair.scrubErr + 1 } })))
  ∧ (∀ die place, Answers (.dramScrub die place) (fun s => !(testsRun s && hasDie s die)) id)
  ∧ (∀ isLane index opening, 300 ≤ opening → Answers (.eyeMonitor isLane index opening)
      (fun s => testsRun s && dueAgain (if isLane then 4 else 3) index 500000000 s)
      (fun s =>
        let a := runNow (if isLane then 4 else 3) index s
        { a with pair := { a.pair with eyes := (s.tim.raw, opening) :: s.pair.eyes.filter (fun e => decide (s.tim.raw ≤ e.1 + 500000000)) } }))
  ∧ (∀ isLane index opening, opening < 300 → Answers (.eyeMonitor isLane index opening)
      (fun s => testsRun s && dueAgain (if isLane then 4 else 3) index 500000000 s)
      (fun s =>
        let a := runNow (if isLane then 4 else 3) index s
        evSelftest 3 (if isLane then index else index / 4) opening
          (setFlag 10 true { a with pair := { a.pair with
            eyes := (s.tim.raw, opening) :: s.pair.eyes.filter (fun e => decide (s.tim.raw ≤ e.1 + 500000000)) } })))
  ∧ (∀ isLane index opening, Answers (.eyeMonitor isLane index opening)
      (fun s => !testsRun s || !dueAgain (if isLane then 4 else 3) index 500000000 s) id)
  ∧ Answers (.katRun true) (fun s => testsRun s && dueAgain 6 0 30000000000 s)
      (fun s =>
        let a := runNow 6 0 s
        { a with pair := { a.pair with katRuns := a.pair.katRuns + 1 } })
  ∧ Answers (.katRun false) (fun s => testsRun s && dueAgain 6 0 30000000000 s)
      (fun s =>
        let a := runNow 6 0 s
        raiseFatal 13 { a with pair := { a.pair with katRuns := a.pair.katRuns + 1 }, key := { a.key with katFail := true } })
  ∧ (∀ ok, Answers (.katRun ok) (fun s => !dueAgain 6 0 30000000000 s) id)
  ∧ (∀ array vector, Answers (.goldenVectorRun array vector true)
      (fun s => decide (array < 4 * Config.dies s.variant) && testsRun s && dueAgain 1 array 50000000 s) (runNow 1 array))
  ∧ (∀ array vector, Answers (.goldenVectorRun array vector false)
      (fun s => decide (array < 4 * Config.dies s.variant) && testsRun s && dueAgain 1 array 50000000 s)
      (fun s =>
        let a := recordEvent (evRegion 0x0504 (array / 4 + 256 * (array % 4)) vector 0 array array)
          (bump (.fltGoldenFail array) (runNow 1 array s))
        setFlag 3 true { a with pair := { a.pair with goldenFail := s.pair.goldenFail + 1 } }))
  ∧ (∀ array vector ok, Answers (.goldenVectorRun array vector ok)
      (fun s => decide (4 * Config.dies s.variant ≤ array) || !testsRun s || !dueAgain 1 array 50000000 s) id)
  ∧ (∀ ok, Answers (.katRun ok) (fun s => !testsRun s) id)
  ∧ (∀ l p, Answers (.leashLoopback l (.request p)) (leashTagged l) (fun s => laneControl l.lane (.loopback true p) (leashPassed l s)))
  ∧ (∀ l p, p ≠ loopPattern → Answers (.leashLoopback l (.echo p))
      (fun s => leashTagged l s && (laneSt s l.lane).loopSent && decide ((laneSt s l.lane).loopFail < 2))
      (fun s =>
        let a := leashPassed l s
        setLane l.lane { laneSt a l.lane with loopFail := (laneSt a l.lane).loopFail + 1, loopSent := false } { a with pair := { a.pair with
          loopFails := s.tim.raw :: s.pair.loopFails.filter (fun r => decide (s.tim.raw ≤ r + 30000000000)) } }))
  ∧ (∀ l p, p ≠ loopPattern → Answers (.leashLoopback l (.echo p))
      (fun s => leashTagged l s && (laneSt s l.lane).loopSent && decide (2 ≤ (laneSt s l.lane).loopFail))
      (fun s =>
        let a := leashPassed l s
        laneDown l.lane 2 (setLane l.lane { laneSt a l.lane with loopFail := (laneSt a l.lane).loopFail + 1, loopSent := false } { a with
          pair := { a.pair with loopFails := s.tim.raw :: s.pair.loopFails.filter (fun r => decide (s.tim.raw ≤ r + 30000000000)) } })))
  ∧ (∀ l p, Answers (.leashLoopback l (.echo p)) (fun s => leashTagged l s && !(laneSt s l.lane).loopSent) (leashPassed l))

/-! ### Functions, keys, backup domain, power -/

/-- Functions: a VF starts, quiesces, is reset and opens again; SR-IOV changes and the PF's reset (15 R457 to R472). -/
def Obligations.FunctionRowsAct : Prop :=
  (∀ vf, Answers (.vfStarted vf) (fun s => decide ((vfSt s vf).o = ⟨.starting, false, false⟩))
      (fun s => changeVf vf 0 { vfSt s vf with o := ⟨.on, false, false⟩, admission := .open_ } s))
  ∧ (∀ vf, Answers (.vfStarted vf) (fun s => decide ((vfSt s vf).o.obj ≠ .starting)) id)
  ∧ (∀ vf b, Answers (.vfQuiesceComplete vf)
      (fun s => decide ((vfSt s vf).o.obj = .on ∧ (vfSt s vf).admission = .quiescing)
        && !s.cmd.outst.any (fun o => o.func == vf + 1) && (vfSt s vf).quiesceCmd == some b)
      (fun s => completeCmd b.jseq stOk 0 (changeVf vf 0 { vfSt s vf with admission := .quiesced, quiesceCmd := none } s)))
  ∧ (∀ vf, Answers (.vfQuiesceComplete vf)
      (fun s => decide ((vfSt s vf).admission ≠ .quiescing) || s.cmd.outst.any (fun o => o.func == vf + 1)) id)
  ∧ (∀ vf, Answers (.vfFlr vf)
      (fun s => vfExists s vf && decide ((vfSt s vf).admission ≠ .resetting ∧ (vfSt s vf).o.obj ≠ .on))
      (fun s => resetFunc (vf + 1) (bump (.vfn vf 2) s)))
  ∧ (∀ vf, Answers (.vfFlr vf)
      (fun s => vfExists s vf && decide ((vfSt s vf).admission = .quiesced ∧ (vfSt s vf).o.obj = .on))
      (fun s => cancelOn (plainGraphs s vf) (cancelActions vf (partGraphs vf false (resetFunc (vf + 1)
        (changeVf vf 1 { vfSt s vf with admission := .resetting, flrRaw := s.tim.raw } (bump (.vfn vf 2) s)))))))
  ∧ (∀ vf, Answers (.vfFlr vf) (fun s => !vfExists s vf || decide ((vfSt s vf).admission = .resetting)) id)
  ∧ (∀ vf, Answers (.vfFlrComplete vf) (fun s => decide ((vfSt s vf).o.obj = .on ∧ (vfSt s vf).admission = .resetting))
      (fun s => changeVf vf 1 { vfSt s vf with admission := .open_ } s))
  ∧ (∀ vf, Answers (.vfFlrComplete vf) (fun s => decide ((vfSt s vf).o.obj ≠ .on ∨ (vfSt s vf).admission ≠ .resetting)) id)
  ∧ (∀ en n, Answers (.sriovChange en n) always (sriov 2 en n))
  ∧ Answers .pfReset always
      (fun s =>
        let a := dropPairs 0 (fun _ => true) (setFlag 1 false (failAccepted 0 s).1)
        let b := { a with cmd := { a.cmd with aq := tset a.cmd.aq 0 { aqOf a 0 with en := false, releasing := false }, staging := tdel a.cmd.staging 0 } }
        sriov 3 false b.vfn.numVfs b)

/-- Keys: a rolled key goes, a key is masked again, firmware activation completes, and a tamper trip zeroises (17 R511, R515,
R522 to R530). When periodic work is due is the model's choice of log entry 138. -/
def Obligations.KeyRowsAct : Prop :=
  (∀ slot k r, k.engine ≠ 0 → Answers (.rollMsExpiry slot)
      (fun s => (slotSt s slot).rolled == some (k, r) && decide (500000000 ≤ s.tim.raw - r))
      (fun s => setSlot slot { slotSt s slot with rolled := none } s))
  ∧ (∀ slot k r, k.engine = 0 → Answers (.rollMsExpiry slot)
      (fun s => (slotSt s slot).rolled == some (k, r) && decide (500000 * s.cfg.rollMs ≤ s.tim.raw - r))
      (fun s => setSlot slot { slotSt s slot with rolled := none } s))
  ∧ (∀ slot, Answers (.rollMsExpiry slot) (fun s => (slotSt s slot).rolled.isNone) id)
  ∧ (∀ slot k, k.persist = true → Answers (.keyRemask slot true)
      (fun s => decide (s.pwr.phase = .running) && (slotSt s slot).current == some k && (slotSt s slot).pending.isNone
        && (slotSt s slot).rolled.isNone && (slotSt s slot).cur.isNone && dueAgain 14 slot 500000000 s)
      (fun s => remaskPersist k slot (runNow 14 slot s)))
  ∧ (∀ slot k, k.persist = true → Answers (.keyRemask slot true)
      (fun s => decide (s.pwr.phase = .running) && (slotSt s slot).current == some k && (slotSt s slot).pending.isNone
        && (slotSt s slot).rolled.isNone && (slotSt s slot).cur.isNone && !dueAgain 14 slot 500000000 s) id)
  ∧ (∀ slot, Answers (.keyRemask slot true)
      (fun s => decide (s.pwr.phase = .running) && ((slotSt s slot).cur.isSome || (slotSt s slot).pending.isSome)
        && ((slotSt s slot).bankOf (slotSt s slot).bank).isNone && dueAgain 13 slot 50000000 s)
      (fun s => remaskVolatile slot (runNow 13 slot s)))
  ∧ (∀ slot, Answers (.keyRemask slot true)
      (fun s => decide (s.pwr.phase = .running) && ((slotSt s slot).cur.isSome || (slotSt s slot).pending.isSome)
        && ((slotSt s slot).bankOf (slotSt s slot).bank).isNone && !dueAgain 13 slot 50000000 s) id)
  ∧ (∀ slot, Answers (.keyRemask slot false) (fun s => decide (s.pwr.phase = .running) && (slotSt s slot).current.isSome)
      (fun s => raiseFatal 13 { s with key := { s.key with katFail := true } }))
  ∧ (∀ slot ok, Answers (.keyRemask slot ok)
      (fun s => decide (s.pwr.phase ≠ .running) || ((slotSt s slot).current.isNone && (slotSt s slot).pending.isNone
        && (slotSt s slot).rolled.isNone)) id)
  ∧ (∀ sign svn release b, Answers (.fwActivateComplete sign svn release)
      (fun s => s.key.activate == some b && fwSigned (fwImage s (otherImage s)) sign && decide (s.key.rollback ≤ svn ∧ svn ≤ 64))
      (fun s =>
        let a := keyDone (setFw (otherImage s) ⟨true, svn, release, (fwImage s (otherImage s)).written, sign⟩
          { s with key := { s.key with activate := none } })
        completeCmd b.jseq stOk (resB 0 0) (raise 0x0E04 (otherImage s) svn 0 { a with key := { a.key with preferred := otherImage s } })))
  ∧ (∀ sign svn release b, Answers (.fwActivateComplete sign svn release)
      (fun s => s.key.activate == some b && fwSigned (fwImage s (otherImage s)) sign && decide (svn < s.key.rollback ∨ 64 < svn))
      (fun s => completeCmd b.jseq stFailed (resB 0 2) (raise 0x0E04 (otherImage s) svn 2 { s with key := { s.key with activate := none } })))
  ∧ (∀ sign svn release b, Answers (.fwActivateComplete sign svn release)
      (fun s => s.key.activate == some b && !fwSigned (fwImage s (otherImage s)) sign)
      (fun s => completeCmd b.jseq stFailed (resB 0 1) (raise 0x0E04 (otherImage s) svn 1 { s with key := { s.key with activate := none } })))
  ∧ (∀ sign svn release, Answers (.fwActivateComplete sign svn release) (fun s => s.key.activate.isNone) id)
  ∧ (∀ cause, Answers (.tamperTrip cause)
      (fun s => decide (s.pwr.phase = .running) && sourceArmed cause s && !securityRetained s)
      (fun s =>
        let a := latchTrip cause (rtcStamp s) s
        let b := { a with key := { a.key with tripped := true } }
        recordEvent (evPkg 0x0E01 b.key.cause b.key.count 0 0) (zeroise b)))
  ∧ (∀ cause, Answers (.tamperTrip cause)
      (fun s => decide (s.pwr.phase = .running) && sourceArmed cause s && securityRetained s)
      (fun s =>
        let a := latchTrip cause (rtcStamp s) s
        abortWaiting (zeroisePersist { a with key := { a.key with tripped := true, pendTamperEvent := true } })))
  ∧ (∀ cause, Answers (.tamperTrip cause) (fun s => !sourceArmed cause s) id)
  ∧ (∀ cause, Answers (.tamperTripUnpowered cause)
      (fun s => decide (s.pwr.phase = .waiting) && sourceArmed cause s && !rtcGood s)
      (fun s =>
        let a := latchTrip cause 0 s
        { a with key := { a.key with slots := [], pendTamperEvent := true } }))
  ∧ (∀ cause, Answers (.tamperTripUnpowered cause) (fun s => decide (s.pwr.phase = .running)) id)

/-- Alarms, requests, the halt, the leap second, the trim, the supply and the cell (18 R539 to R555). When periodic work is
due is the model's choice of log entry 138. -/
def Obligations.BackupRowsAct : Prop :=
  (∀ c, Answers .alarmFire
      (fun s => s.bkd.alarm == some c && mainGood s && !s.bkd.halted && decide (calTicks c ≤ calPlace (rtcNow s)))
      (fun s => assertPwrOn 0 (rtcMtime s c).sec { s with bkd := { s.bkd with alarm := none } }))
  ∧ (∀ c, Answers .alarmFire
      (fun s => s.bkd.alarm == some c && mainGood s && decide (calPlace (rtcNow s) < calTicks c)) id)
  ∧ Answers .alarmFire (fun s => s.bkd.alarm.isNone) id
  ∧ (∀ d, Answers .pwrOnReqExpiry (fun s => s.bkd.req == some d && mainGood s && decide (d ≤ (trimCount s.bkd (rtcTicks s)).1))
      (fun s => assertPwrOn 1 (rtcMtime s (calAdvance (rtcNow s) 0)).sec { s with bkd := { s.bkd with req := none } }))
  ∧ (∀ d, Answers .pwrOnReqExpiry (fun s => s.bkd.req == some d && mainGood s && decide ((trimCount s.bkd (rtcTicks s)).1 < d)) id)
  ∧ Answers .rtcHaltTimeout (fun s => s.bkd.halted && decide (5000000000 ≤ s.tim.raw - s.bkd.haltRaw)) (endRtcHalt 2)
  ∧ Answers .rtcHaltTimeout (fun s => !(s.bkd.halted && decide (5000000000 ≤ s.tim.raw - s.bkd.haltRaw))) id
  ∧ Answers .rtcOverrange mainGood holdLast
  ∧ Answers .rtcOverrange (fun s => !mainGood s) id
  ∧ Answers .evBkdLeap
      (fun s => decide (s.tim.state = .locked) && s.bkd.valid && !s.bkd.halted && mainGood s && s.tim.leap61
        && decide ((rtcNow s).hour = 0 ∧ (rtcNow s).min = 0 ∧ (rtcNow s).sec = 0)
        && decide (s.bkd.leapDay ≠ dayNumber (rtcNow s).year (rtcNow s).month (rtcNow s).day - 1))
      (fun s =>
        let d := dayNumber (rtcNow s).year (rtcNow s).month (rtcNow s).day
        let c := { calOfTicks (((d - 1) * 86400 + 86399) * 32768 + (rtcNow s).subsec) with sec := 60 }
        raise 0x0F06 0 (ps (s.bkd.ofs + 1)) 0
          { s with bkd := { (rtcSync s).bkd with rtc := c, ofs := s.bkd.ofs + 1, leapDay := d - 1, trimStart := some ((now s).sec + 1) } })
  ∧ Answers .evBkdLeap (fun s => decide (s.tim.state ≠ .locked) || !s.bkd.valid || s.bkd.halted) id
  ∧ (∀ ticks, Answers (.trimIntervalEnd ticks)
      (fun s => decide (s.cfg.trimEn = 1 ∧ s.tim.state = .locked) && s.bkd.valid && !s.bkd.halted && mainGood s
        && decide (max (lockedSince s) (s.bkd.trimStart.getD 0) + 1024 ≤ (now s).sec))
      (fun s =>
        let a := rtcSync s
        let e : Int := 33554432 - (ticks : Int)
        let t := clampI (-17179) 17179 (a.bkd.trim + e)
        rtcAlign (raise 0x0F05 (ps s.bkd.trim) (ps t) (ps e)
          { a with bkd := { a.bkd with trim := t, trimErr := e, trimStart := some (now s).sec } })))
  ∧ (∀ ticks, Answers (.trimIntervalEnd ticks) (fun s => decide (s.cfg.trimEn ≠ 1)) id)
  ∧ (∀ vmain vcell, Answers (.bkdSupplySwitch vmain vcell) (fun s => s.bkd.onCell)
      (fun s => { s with bkd := { s.bkd with onCell := !(decide (3000 < vmain) && decide (vcell + 100 < vmain)) } }))
  ∧ (∀ vmain vcell, Answers (.bkdSupplySwitch vmain vcell) (fun s => !s.bkd.onCell)
      (fun s => { s with bkd := { s.bkd with onCell := decide (vmain < 2900) || decide (vmain < vcell) } }))
  ∧ (∀ mv, mv < 2700 → Answers (.cellMeasure mv) (fun s => mainGood s && dueAgain 10 0 1800000000000 s)
      (fun s =>
        let a := runNow 10 0 s
        raise 0x0F02 mv 0 0 { a with bkd := { a.bkd with vcell := mv, lastCell := mv, cellLow := true } }))
  ∧ (∀ mv, 2800 ≤ mv → Answers (.cellMeasure mv) (fun s => mainGood s && dueAgain 10 0 1800000000000 s)
      (fun s =>
        let a := runNow 10 0 s
        { a with bkd := { a.bkd with vcell := mv, lastCell := mv, cellLow := false } }))
  ∧ (∀ mv, 2700 ≤ mv → mv < 2800 → Answers (.cellMeasure mv) (fun s => mainGood s && dueAgain 10 0 1800000000000 s)
      (fun s =>
        let a := runNow 10 0 s
        { a with bkd := { a.bkd with vcell := mv, lastCell := mv } }))
  ∧ (∀ mv, Answers (.cellMeasure mv) (fun s => !dueAgain 10 0 1800000000000 s) id)
  ∧ (∀ mv, Answers (.cellMeasure mv) (fun s => !mainGood s) id)
  ∧ Answers .backupDomainReset (fun s => !mainGood s)
      (fun s =>
        let a := domainReset s
        { a with key := { a.key with slots := [], pendTamperEvent := true } })
  ∧ Answers .backupDomainReset mainGood
      (fun s =>
        let a := domainReset s
        let b := zeroise { a with key := { a.key with tripped := true } }
        recordEvent (evPkg 0x0E01 b.key.cause b.key.count 0 0) b)

/-- Power: power good starts a module whose die 0 passed and an image of which verifies, the configuration is restored,
power-fail runs its sequence, and domains change state (19 R556 to R590). When periodic work is due is the model's choice of
log entry 138. -/
def Obligations.PowerRowsAct : Prop :=
  (∀ aOk bOk dies clusters out i, dies.contains 0 = false → Answers (.powerGood aOk bOk dies clusters out)
      (fun s => decide (s.pwr.phase ≠ .running ∧ s.pwr.phase ≠ .flushing) && bootImage s aOk bOk == some i) (startUp i dies clusters out))
  ∧ (∀ aOk bOk dies clusters out, Answers (.powerGood aOk bOk dies clusters out)
      (fun s => decide (s.pwr.phase ≠ .running ∧ s.pwr.phase ≠ .flushing) && ((bootImage s aOk bOk).isNone || dies.contains 0))
      deadStart)
  ∧ (∀ aOk bOk dies clusters out, Answers (.powerGood aOk bOk dies clusters out)
      (fun s => decide (s.pwr.phase = .running ∨ s.pwr.phase = .flushing)) id)
  ∧ (∀ t, Answers (.configRestore true)
      (fun s => decide (s.pwr.phase = .running) && !s.pwr.restored && !s.key.restricted && restoreTrigger s == some t)
      (fun s => restore t (markedBank s) s))
  ∧ (∀ t, Answers (.configRestore false)
      (fun s => decide (s.pwr.phase = .running) && !s.pwr.restored && !s.key.restricted && restoreTrigger s == some t)
      (restore t none))
  ∧ (∀ ok, Answers (.configRestore ok)
      (fun s => decide (s.pwr.phase ≠ .running) || s.pwr.restored || s.key.restricted || (restoreTrigger s).isNone) id)
  ∧ (∀ source, source ≤ 1 → Answers (.powerFail source) (fun s => decide (s.pwr.phase = .running)) (powerFailSeq source))
  ∧ (∀ r, Answers (.powerFail 2) (fun s => decide (s.pwr.phase = .running ∧ s.pwr.restartBooked = some r ∧ r ≤ s.tim.raw)) (powerFailSeq 2))
  ∧ (∀ r, Answers (.powerFail 2) (fun s => decide (s.pwr.restartBooked = some r ∧ s.tim.raw < r)) id)
  ∧ Answers (.powerFail 2) (fun s => s.pwr.restartBooked.isNone) id
  ∧ (∀ source, Answers (.powerFail source) (fun s => decide (s.pwr.phase ≠ .running ∨ 2 < source)) id)
  ∧ Answers .ejectLever (fun s => decide (s.pwr.phase = .running)) (fun s => powerFailSeq 0 { s with hwi := { s.hwi with eject := true } })
  ∧ Answers .ejectLever (fun s => decide (s.pwr.phase ≠ .running)) (fun s => { s with hwi := { s.hwi with eject := true } })
  ∧ (∀ die dom until_, Answers (.domainFree die dom until_)
      (fun s => decide (s.pwr.phase = .running ∧ dom ≤ 11 ∧ chooseState s die dom until_ ≠ (domainSt s die dom).1) && hasDie s die
        && !s.plm.exclDies.contains die)
      (fun s => setDomain die dom (chooseState s die dom until_) s))
  ∧ (∀ die dom until_, Answers (.domainFree die dom until_)
      (fun s => decide (s.pwr.phase ≠ .running ∨ 11 < dom) || decide (chooseState s die dom until_ = (domainSt s die dom).1)) id)
  ∧ (∀ die dom waited t, Answers (.domainWake die dom waited)
      (fun s => decide (s.pwr.phase = .running ∧ dom ≤ 11 ∧ (domainSt s die dom).1 ≠ 0) && hasDie s die && !s.plm.exclDies.contains die
        && domainTol s die dom == some t && decide (waited ≤ t))
      (fun s => bump (.pwrWake die dom) (setDomain die dom 0 s)))
  ∧ (∀ die dom waited t, Answers (.domainWake die dom waited)
      (fun s => decide (s.pwr.phase = .running ∧ dom ≤ 11 ∧ (domainSt s die dom).1 ≠ 0) && hasDie s die && !s.plm.exclDies.contains die
        && domainTol s die dom == some t && decide (t < waited))
      (fun s => lateWake die dom waited (bump (.pwrWake die dom) (setDomain die dom 0 s))))
  ∧ (∀ die dom waited, Answers (.domainWake die dom waited)
      (fun s => decide (s.pwr.phase ≠ .running ∨ 11 < dom ∨ (domainSt s die dom).1 = 0)) id)
  ∧ (∀ vin iin, Answers (.pwrInputSample vin iin) (fun s => decide (s.pwr.phase = .running) && dueAgain 12 0 5000000 s)
      (fun s =>
        let a := runNow 12 0 s
        { a with pwr := { a.pwr with vin := vin % 65536, iin := iin % 65536 } }))
  ∧ (∀ vin iin, Answers (.pwrInputSample vin iin)
      (fun s => (decide (s.pwr.phase ≠ .running) && (decide (vin < 3500) || s.pwr.ext))
        || (decide (s.pwr.phase = .running) && !dueAgain 12 0 5000000 s)) id)
  ∧ (∀ vin iin, 3500 ≤ vin → Answers (.pwrInputSample vin iin) (fun s => decide (s.pwr.phase ≠ .running) && !s.pwr.ext) releaseFail)
  ∧ (∀ air tj, Answers (.tempMeasure air tj) (fun s => decide (s.pwr.phase = .running) && dueAgain 11 0 5000000 s)
      (fun s =>
        let a := runNow 11 0 s
        (List.range (Config.dies s.variant)).foldl coolDie
          ((List.zip (List.range (Config.dies s.variant)) tj).foldl dieTemp { a with hwi := { a.hwi with inlet := air.inlet, ocxo := air.ocxo } })))
  ∧ (∀ air tj, Answers (.tempMeasure air tj) (fun s => decide (s.pwr.phase ≠ .running) || !dueAgain 11 0 5000000 s) id)

/-! ### The machine -/

/-- A step takes the command at the front of the queue and is exec of it with the queue's rest. -/
def Obligations.StepTakesFrontCommand : Prop :=
  ∀ c l (s : State), step { s with pending := c :: l } = exec c { s with pending := l }

/-- A step on an empty queue is one tick of CLK_TIME: RAW counts while the module runs, and nothing else changes. That a tick
stands in the place of idling is the model's choice (log entry 2). -/
def Obligations.IdleStepCountsRaw : Prop :=
  (∀ s, s.pending = [] → (s.pwr.phase = .running ∨ s.pwr.phase = .flushing) →
    step s = .next { s with tim := { s.tim with raw := (s.tim.raw + 1) % 2 ^ 64 } })
  ∧ (∀ s, s.pending = [] → (s.pwr.phase = .reset ∨ s.pwr.phase = .waiting ∨ s.pwr.phase = .dead) → step s = .next s)

/-- After reset, before power good: registers whose reset value the register maps give, the heel reference, the queue, and the
sequence numbers, from 1 by the model's choice of log entry 4 (02 Table CMD-1; 03 Table TIM-1; 07 R217; 14 Table PAIR-10; 16 Table
EVR-4; 17 Table KEY-10). That no counter is listed says that each reads 0. -/
def Obligations.ResetLeavesGivenValues : Prop :=
  State.reset.cmd.gen = 0 ∧ State.reset.cmd.ready = false ∧ State.reset.cmd.jnlNext = 1 ∧ State.reset.cmd.jnlOldest = 1
  ∧ State.reset.tim.raw = 0 ∧ State.reset.tim.state = .freerun ∧ tqWord State.reset = 0xFF05 ∧ State.reset.tim.utcOffset = 0
  ∧ State.reset.cfg.heel = ⟨0, 0, 0⟩ ∧ State.reset.evr.next = 1 ∧ State.reset.evr.oldest = 1 ∧ State.reset.evr.cursor = 0
  ∧ State.reset.key.rollback = 0 ∧ State.reset.pair.state = .init ∧ State.reset.pair.epoch = 0
  ∧ State.reset.counters = [] ∧ State.reset.pending = []

/-- No command stops the machine: each answers a next state in every state. -/
def Obligations.NoCommandStops : Prop := ∀ c s, ∃ t, exec c s = .next t

/-- Numbers that the module never takes back: the anti-rollback counter of fuses and the journal's next sequence number are never
lower after a step than before it, not over a restart or a loss of power either (02 R88; 17 R523). -/
def Obligations.NumbersNeverGoBack : Prop :=
  ∀ s t, step s = .next t → s.key.rollback ≤ t.key.rollback ∧ s.cmd.jnlNext ≤ t.cmd.jnlNext

/-! ### Commands and their completions (02) -/

/-- GENCHK (02 R81). -/
def Obligations.GenerationIsChecked : Prop :=
  (∀ i p s, packetOf i = some p → servable p.h s = true → p.unsupported (taken p.h s) = false →
    ((p.pfOnly && decide (p.h.func ≠ 0)) || p.denied (taken p.h s)) = false →
    ((s.key.restricted && !(isRead p.opcode || p.restrictedOk)) || (s.key.tripped && p.needsKey (taken p.h s))) = false →
    p.h.genchk = true → p.h.expGen ≠ s.cmd.gen → isResume i = false →
      exec i s = .next (pushDone p 0 stGenMismatch 0 (taken p.h s)))
  ∧ (∀ p s, p.h.genchk = false ∨ p.h.expGen = s.cmd.gen → acceptCheck p s ≠ some stGenMismatch)
  ∧ (∀ p s l, acceptCheck p s = some stGenMismatch →
      (∀ x, p.unsupported { s with cmd := { s.cmd with staging := x } } = p.unsupported s) →
      (∀ x, p.denied { s with cmd := { s.cmd with staging := x } } = p.denied s) →
      (∀ x, p.needsKey { s with cmd := { s.cmd with staging := x } } = p.needsKey s) →
      acceptCheck p { s with cmd := { s.cmd with staging := l } } = some stGenMismatch)
  ∧ (∀ func s, (commitStaging func s).cmd.gen = s.cmd.gen + 1)

/-- The acceptance checks are made in their order, and the first that fails gives the status. The command is then refused before
acceptance: it is not journalled, its completion carries JSEQ 0, and nothing has changed but its queue pair, what waited to be
posted, and the VF's count of refusals (02 R82, R89, Table CMD-6; 15 R464, Table VFN-6). -/
def Obligations.RefusalsAreNotAccepted : Prop :=
  (∀ p s,
    let c1 := p.unsupported s
    let c2 := (p.pfOnly && decide (p.h.func ≠ 0)) || p.denied s
    let c3 := (s.key.restricted && !(isRead p.opcode || p.restrictedOk)) || (s.key.tripped && p.needsKey s)
    let c4 := p.h.genchk && decide (p.h.expGen ≠ s.cmd.gen)
    let c5 := decide (share s p.h.func 2 < queueUse s p.h.func + 1
      ∨ share s p.h.func 3 < tgetD s.vfn.cells p.h.func 0 + cellsFor p.isLoad p.h.pblkLen p.outBytes)
    (∀ st, acceptCheck p s = some st → st ∈ [stNotSupported, stDenied, stTamper, stGenMismatch, stQueueFull])
    ∧ (acceptCheck p s = some stNotSupported ↔ c1 = true)
    ∧ (acceptCheck p s = some stDenied ↔ c1 = false ∧ c2 = true)
    ∧ (acceptCheck p s = some stTamper ↔ c1 = false ∧ c2 = false ∧ c3 = true)
    ∧ (acceptCheck p s = some stGenMismatch ↔ c1 = false ∧ c2 = false ∧ c3 = false ∧ c4 = true)
    ∧ (acceptCheck p s = some stQueueFull ↔ c1 = false ∧ c2 = false ∧ c3 = false ∧ c4 = false ∧ c5 = true)
    ∧ (acceptCheck p s = none ↔ c1 = false ∧ c2 = false ∧ c3 = false ∧ c4 = false ∧ c5 = false))
  ∧ (∀ i p s st, packetOf i = some p → isResume i = false → servable p.h s = true → acceptCheck p (taken p.h s) = some st →
    exec i s = .next (pushDone p 0 st 0 (countRefusal p st (taken p.h s)))
    ∧ ∀ t, exec i s = .next t →
      t.cmd.jnl = s.cmd.jnl ∧ t.cmd.jnlNext = s.cmd.jnlNext ∧ t.cmd.gen = s.cmd.gen ∧ t.cmd.staging = s.cmd.staging
      ∧ t = { s with cmd := t.cmd, counters := t.counters }
      ∧ (p.h.func = 0 ∨ st ≠ stQueueFull → t.counters = s.counters))

/-- A command that is accepted and completes with a status of 0x10 or above has changed nothing but its journal entry and its
completion, and, for a VF's setting that its share refuses, the VF's count of refusals; a setting that finds its staging area full
completes with ST_QUEUE_FULL, whatever else would fail (02 R82); the commands whose failure itself acts, or is recorded, are those
named (02 R83; 15 Table VFN-2; that a record of the failure is no change is log entry 111, that a setting takes an entry of its own
is log entry 118). -/
def Obligations.FailuresChangeNothing : Prop :=
  (∀ i p s t st res, packetOf i = some p → isResume i = false → goes p s = true → p.failActs = false → 0x10 ≤ st →
    runEff p (jseqOf p s) (afterAccept p s) = .done st res t → exec i s = .next (finished p st res s (countStageRefusal p st (afterAccept p s))))
  ∧ (∀ p st s, p.h.func = 0 ∨ st ≠ stQueueFull ∨ isConfig p.opcode = false → countStageRefusal p st s = s)
  ∧ (∀ i p s, packetOf i = some p → isResume i = false → goes p s = true → isConfig p.opcode = true → p.noRoom (afterAccept p s) = true →
      exec i s = .next (finished p stQueueFull 0 s (countStageRefusal p stQueueFull (afterAccept p s))))
  ∧ (∀ i p, packetOf i = some p → p.failActs = true →
      (∃ h, i = .bkdRtcHaltRelease h) ∨ (∃ h, i = .configCommit h) ∨ (∃ h n b x, i = .keyImport h n b x)
        ∨ (∃ h n x, i = .keyLoad h n x) ∨ (∃ h x, i = .keyGenerate h x) ∨ (∃ h n m v r, i = .keyVerify h n m v r)
        ∨ (∃ h n g x b, i = .keyAttest h n g x b))

/-- A READ-kind command changes nothing, in any state: only the command interface moves, and there neither the generation nor the
staging areas; a refused VF's count may rise (02 Table CMD-5). -/
def Obligations.ReadsChangeNothing : Prop :=
  ∀ i p s, packetOf i = some p → isRead p.opcode = true → ∃ t, exec i s = .next t
    ∧ t = { s with cmd := t.cmd, counters := t.counters }
    ∧ t.cmd.gen = s.cmd.gen ∧ t.cmd.staging = s.cmd.staging ∧ t.cmd.ready = s.cmd.ready ∧ t.cmd.aq = s.cmd.aq
    ∧ (p.h.func = 0 → t.counters = s.counters)

/-- A CONFIG-kind command has no effect on the running module, in any state: only the command interface moves, and of the staging
areas only the issuing function's; a refused VF's count may rise (02 R75). -/
def Obligations.ConfigOnlyStages : Prop :=
  ∀ i p s, packetOf i = some p → isConfig p.opcode = true → ∃ t, exec i s = .next t
    ∧ t = { s with cmd := t.cmd, counters := t.counters }
    ∧ t.cmd.gen = s.cmd.gen ∧ t.cmd.ready = s.cmd.ready ∧ t.cmd.aq = s.cmd.aq
    ∧ (∀ f, f ≠ p.h.func → staged t f = staged s f)
    ∧ (p.h.func = 0 → t.counters = s.counters)

/-- A completion, when no packet of its pair is before it and nothing else has waited completed: it is the last of those posted,
with the packet's TAG and OPCODE, the pair's PHASE, its JSEQ, STATUS and RESULT; the tail advances and PHASE inverts on the wrap;
the vector is raised when COALESCE_COUNT completions are unsignalled, or at each with COALESCE_COUNT 0 (02 R65, R66, R70). The function's Bus
Master Enable is 1 (15 R461). -/
def Obligations.CompletionIsPosted : Prop :=
  ∀ p j st res s q, tget s.cmd.qps (p.h.func, p.h.qp) = some q → busMasterOn s p.h.func = true →
    (∀ o ∈ s.cmd.outst, o.done = none ∧ (o.func, o.qp) ≠ (p.h.func, p.h.qp)) →
    let t := pushDone p j st res s
    t.cmd.cpls = s.cmd.cpls ++ [⟨p.h.func, p.h.qp, p.h.tag, st, q.phase, p.opcode, j, res⟩]
    ∧ t.cmd.outst = s.cmd.outst
    ∧ (∃ q1, tget t.cmd.qps (p.h.func, p.h.qp) = some q1 ∧ q1.cqTail = (q.cqTail + 1) % 2 ^ q.cqLog2
        ∧ q1.phase = (if q1.cqTail = 0 then !q.phase else q.phase) ∧ q1.sqHead = q.sqHead ∧ q1.sqTail = q.sqTail
        ∧ q1.unsignalled = (if q.coalCount ≤ q.unsignalled + 1 then 0 else q.unsignalled + 1))
    ∧ tgetD t.cmd.msix (p.h.func, q.vector) 0
        = tgetD s.cmd.msix (p.h.func, q.vector) 0 + (if q.coalCount ≤ q.unsignalled + 1 then 1 else 0)
    ∧ (∀ k, k ≠ (p.h.func, p.h.qp) → tget t.cmd.qps k = tget s.cmd.qps k)
    ∧ (∀ k, k ≠ (p.h.func, q.vector) → tget t.cmd.msix k = tget s.cmd.msix k)
    ∧ t = { s with cmd := { s.cmd with cpls := t.cmd.cpls, qps := t.cmd.qps, msix := t.cmd.msix } }

/-- Two commands of one pair that wait complete in any order, and their completions are posted in ring order (02 R64). -/
def Obligations.CompletionsKeepRingOrder : Prop :=
  ∀ s a b q x y sa sb, s.cmd.outst = [a, b] → a.done = none → b.done = none → (a.func, a.qp) = (b.func, b.qp) → a.jseq ≠ b.jseq →
    tget s.cmd.qps (a.func, a.qp) = some q → busMasterOn s a.func = true →
    (completeCmd b.jseq sb y s).cmd.cpls = s.cmd.cpls
    ∧ ∃ pa pb,
      (completeCmd a.jseq sa x (completeCmd b.jseq sb y s)).cmd.cpls
        = s.cmd.cpls ++ [⟨a.func, a.qp, a.tag, sa, pa, a.opcode, a.jseq, x⟩, ⟨b.func, b.qp, b.tag, sb, pb, b.opcode, b.jseq, y⟩]
      ∧ (completeCmd b.jseq sb y (completeCmd a.jseq sa x s)).cmd.cpls
        = (completeCmd a.jseq sa x (completeCmd b.jseq sb y s)).cmd.cpls

/-- The journal: an accepted command's entry stands in slot JSEQ mod 131,072 with CMD_GEN as it was and ACCEPT, and holds STATUS
and DONE once it has completed; every other slot is as it was, the next number is one above, and the oldest entry gives way when
the ring is full (02 R88 to R90, Table CMD-10). -/
def Obligations.JournalHoldsEachCommand : Prop :=
  (∀ p s, journalled p.opcode p.h = true →
    let t := afterAccept p s
    (∃ e, tget t.cmd.jnl (s.cmd.jnlNext % 131072) = some e ∧ e.seq = s.cmd.jnlNext ∧ e.gen = s.cmd.gen ∧ e.tag = p.h.tag
      ∧ e.opcode = p.opcode ∧ e.func = p.h.func ∧ e.qp = p.h.qp ∧ e.accept = 0xA5 ∧ e.done = 0)
    ∧ t.cmd.jnlNext = s.cmd.jnlNext + 1
    ∧ t.cmd.jnlOldest = max s.cmd.jnlOldest (s.cmd.jnlNext + 1 - 131072)
    ∧ (∀ k, k ≠ s.cmd.jnlNext % 131072 → tget t.cmd.jnl k = tget s.cmd.jnl k))
  ∧ (∀ p st res s t, journalled p.opcode p.h = true → t.cmd.jnl = (afterAccept p s).cmd.jnl →
    ∃ e, tget (finished p st res s t).cmd.jnl (s.cmd.jnlNext % 131072) = some e ∧ e.seq = s.cmd.jnlNext ∧ e.status = st
      ∧ e.accept = 0xA5 ∧ e.done = 0x5A ∧ e.opcode = p.opcode ∧ e.tag = p.h.tag)
  ∧ (∀ p s, journalled p.opcode p.h = false → (afterAccept p s).cmd.jnl = s.cmd.jnl ∧ (afterAccept p s).cmd.jnlNext = s.cmd.jnlNext
      ∧ jseqOf p s = 0)
  ∧ (∀ op h, journalled op h = false ↔ isRead op = true ∧ h.nojournal = true)

/-! ### Logic (12) -/

/-- Words written out from Table LGC-3: OPCODE in bits [31:25], OPERAND in bits [24:0] (12 R362). -/
def Obligations.LogicWordsReadRight : Prop :=
  decodeLogic 0b0000000_0000000000000000000000000#32 = some (.nop, 0)
  ∧ decodeLogic 0b0000001_0000000000000000000000000#32 = some (.end_, 0)
  ∧ decodeLogic 0b0000010_0000000000000000000000101#32 = some (.ld, 5)
  ∧ decodeLogic 0b0001010_1000000000000000000000000#32 = some (.ldk, 16777216)
  ∧ decodeLogic 0b0010011_1111111111111111111111111#32 = some (.rst, 33554431)
  ∧ decodeLogic 0b0011101_0000000000000000000000000#32 = some (.close, 0)
  ∧ decodeLogic 0b0101010_0000000000001000000000000#32 = some (.tp, 4096)
  ∧ decodeLogic 0b0110001_0000000000000000000000011#32 = some (.ctd, 3)
  ∧ decodeLogic 0b0111010_0000000000000000000001001#32 = some (.jmpcn, 9)
  ∧ decodeLogic 0b1000101_0000000000000000000000001#32 = some (.qsubst, 1)
  ∧ decodeLogic 0b1011111_0000000000000000000000010#32 = some (.cmplek, 2)
  ∧ decodeLogic 0b1100001_0000000000000000000000111#32 = some (.stwc, 7)
  ∧ decodeLogic 0b0001100_0000000000000000000000000#32 = none
  ∧ decodeLogic 0b1100010_0000000000000000000000000#32 = none
  ∧ decodeLogic 0b0001011_0000000000000000000000001#32 = none

/-- Decode of encode is the instruction itself, for each logic instruction with each OPERAND that its word admits (12 R362). -/
def Obligations.LogicDecodeUndoesEncode : Prop :=
  ∀ op x, x < 33554432 → (logicKind op = .none → x = 0) → decodeLogic (encodeLogic op x) = some (op, x)

/-- A word that decodes is the encoding of what it decodes to, and its fields stand where R362 puts them (12 R362). -/
def Obligations.LogicFieldsStandInPlace : Prop :=
  (∀ w op x, decodeLogic w = some (op, x) →
    encodeLogic op x = w ∧ (w.extractLsb 31 25).toNat = logicCode op ∧ (w.extractLsb 24 0).toNat = x
      ∧ (logicKind op = .none → x = 0))
  ∧ (∀ w, decodeLogic w = none ↔ ∀ op, logicCode op = (w.extractLsb 31 25).toNat → logicKind op = .none ∧ (w.extractLsb 24 0).toNat ≠ 0)

/-- Counters (12 R373): CTU and CTD change CV by one on a rising edge of ACC and saturate, and both use the counter's one edge
memory; a primed counter takes its input and does not count (R368). -/
def Obligations.CountersCountEdges : Prop :=
  (∀ s x sc (t : LTables) (c : LCounter), t.counters[x]? = some c → -2147483648 ≤ c.cv → c.cv ≤ 2147483647 →
    ∃ c1, (runOp s .ctu x sc t).2 = { t with counters := t.counters.set x c1 } ∧ c1.pv = c.pv ∧ c1.prev = sc.acc ∧ c1.primed = false
      ∧ c1.cv = (if sc.acc && !c.prev && !c.primed then min (c.cv + 1) 2147483647 else c.cv)
      ∧ (runOp s .ctu x sc t).1 = { sc with acc := decide (c.pv ≤ c1.cv) })
  ∧ (∀ s x sc (t : LTables) (c : LCounter), t.counters[x]? = some c → -2147483648 ≤ c.cv → c.cv ≤ 2147483647 →
    ∃ c1, (runOp s .ctd x sc t).2 = { t with counters := t.counters.set x c1 } ∧ c1.pv = c.pv ∧ c1.prev = sc.acc ∧ c1.primed = false
      ∧ c1.cv = (if sc.acc && !c.prev && !c.primed then max (c.cv - 1) (-2147483648) else c.cv)
      ∧ (runOp s .ctd x sc t).1 = { sc with acc := decide (c1.cv ≤ 0) })

/-- What a scan writes: a store puts its value into the working image with QUAL bit [13], bit [15] by the time quality at the
scan-start stamp, every other bit 0, and that stamp; SET, RST and STWC with ACC 0 write nothing, and no other instruction writes a
signal (12 R365, R366). -/
def Obligations.StoresWriteTheImage : Prop :=
  let rec_ := fun (s : State) (sc : Scan) (v : BitVec 128) =>
    ({ value := v, qual := if holdAt s sc.stamp then 0xA000 else 0x2000, stamp := sc.stamp } : SigRec)
  let put := fun (s : State) (x : Nat) (v : BitVec 128) (sc : Scan) =>
    ({ sc with image := tset sc.image x (rec_ s sc v),
               written := if sc.written.contains x then sc.written else sc.written ++ [x] } : Scan)
  (∀ s x sc t, (runOp s .st x sc t) = (put s x (if sc.acc then 1 else 0) sc, t))
  ∧ (∀ s x sc t, (runOp s .stn x sc t) = (put s x (if sc.acc then 0 else 1) sc, t))
  ∧ (∀ s x sc t, sc.acc = true → runOp s .set x sc t = (put s x 1 sc, t) ∧ runOp s .rst x sc t = (put s x 0 sc, t))
  ∧ (∀ s x sc t, sc.acc = false → runOp s .set x sc t = (sc, t) ∧ runOp s .rst x sc t = (sc, t) ∧ runOp s .stwc x sc t = (sc, t))
  ∧ (∀ s x sc t, runOp s .stw x sc t = (put s x (waccTo (sigType s x) sc.wacc) sc, t))
  ∧ (∀ s x sc t, sc.acc = true → runOp s .stwc x sc t = (put s x (waccTo (sigType s x) sc.wacc) sc, t))
  ∧ (∀ s op x sc t, op ∉ [LogicOp.st, .stn, .set, .rst, .stw, .stwc] →
      (runOp s op x sc t).1.image = sc.image ∧ (runOp s op x sc t).1.written = sc.written)
  ∧ (∀ s x sc r, tget sc.image x = some r → scanRec s sc x = r)
  ∧ (∀ s x sc, tget sc.image x = none → scanRec s sc x = recAt s x sc.cycle)

/-! ### Operators (10) -/

/-- No F output of an operator is an infinity or not a number: it is finite, or, in class F, it is the node's last F output, with
validity 01; what replaces a bad result carries validity 01 and overflow (10 R316, Table OPL-3). -/
def Obligations.OperatorOutputsAreFinite : Prop :=
  ∀ op row fn prm t late hold x ops (k : Nat) (v : Val),
    (operate op row fn prm t late hold x ops).1[k]? = some v → v.type = .f →
      fbad (bitsF v.bits) = false
      ∨ (row.cls = .f ∧ v.bits = (nth x.outs k ⟨.f, 0, 0⟩).bits ∧ validity v.qual = 1)
end

