-- ==== Sys2Proof/Laws/Keys.lean ====
section
/-! SUPPORT. What masking and the share banks of KENNEL can do (17 R509, R510). -/
namespace Sys2Proof.Machine

/-- The exclusive or with a text of the same length, twice, gives the text back. -/
theorem xorBytes_cancel (f m : Bytes) (h : f.length = m.length) : xorBytes f (xorBytes m f) = m := by
  induction m generalizing f with
  | nil => cases f <;> simp_all [xorBytes]
  | cons a l ih =>
    cases f with
    | nil => simp at h
    | cons b f =>
      have := ih f (by simpa using h)
      simp only [xorBytes, List.zipWith_cons_cons] at this ⊢
      rw [this, Nat.xor_comm a b, ← Nat.xor_assoc, Nat.xor_self, Nat.zero_xor]

/-- `fixLen` brings a text to its length. -/
@[simp] theorem fixLen_length (n : Nat) (l : Bytes) : (fixLen n l).length = n := by simp [fixLen]

/-- A key held under any mask is the key. -/
@[simp] theorem newKey_material (t e : Nat) (p g : Bool) (m mask : Bytes) : (newKey t e p g m mask).material = m :=
  xorBytes_cancel _ _ (fixLen_length ..)

/-- A fresh mask leaves the key as it is (R509). -/
@[simp] theorem maskKey_material (mask : Bytes) (k : Key) : (maskKey mask k).material = k.material := newKey_material ..

/-- Until the marker is written the old bank is in force (R510). -/
@[simp] theorem writeBank_current (k : Key) (x : SlotSt) : (x.writeBank k).current = x.current := by
  by_cases h : x.bank = 0 <;> simp [SlotSt.writeBank, SlotSt.current, SlotSt.bankOf, h]

/-- Once the marker is written, the key that was written is in force (R510). -/
@[simp] theorem flipMarker_current (k : Key) (x : SlotSt) : (x.writeBank k).flipMarker.current = some k := by
  by_cases h : x.bank = 0 <;> simp [SlotSt.writeBank, SlotSt.flipMarker, SlotSt.current, SlotSt.bankOf, h]

/-- A commit makes its key CURRENT (R516). -/
@[simp] theorem setCurrent_current (k : Key) (x : SlotSt) : (x.setCurrent k).current = some k := by
  by_cases h : x.bank = 0 <;> by_cases hp : k.persist = true <;>
    simp [SlotSt.setCurrent, SlotSt.writeBank, SlotSt.flipMarker, SlotSt.dropOther, SlotSt.dropBanks, SlotSt.current, SlotSt.bankOf, h, hp]

end Sys2Proof.Machine
end

