-- ==== Sys2Proof/Laws/Serve.lean ====
section
/-! SUPPORT. What serving a packet can do, said once: a packet that can be taken is served at once, and its status, result and
state are those of its acceptance checks and its effect. -/
namespace Sys2Proof.Machine

open Safety

/-- Every opcode of the index but VF_RESUME is submitted with its packet and nothing more. -/
theorem exec_packet {i : Instr} {p : Packet} (hp : packetOf i = some p) (hi : isResume i = false) (s : State) :
    exec i s = .next (submit i p s) := by
  cases i <;> simp only [packetOf, Option.some.injEq, reduceCtorEq] at hp <;> first | (subst hp; rfl) | cases hi

theorem tget_tset_self {κ α : Type} [DecidableEq κ] (t : Tbl κ α) (k : κ) (a : α) : tget (tset t k a) k = some a := by
  induction t with
  | nil => simp [tset, tget]
  | cons e t ih =>
    obtain ⟨k', a'⟩ := e
    by_cases hk : k' = k
    · simp [tset, tget, hk]
    · simp [tset, tget, hk, ih]

theorem tset_tset_self {κ α : Type} [DecidableEq κ] (t : Tbl κ α) (k : κ) (a b : α) : tset (tset t k a) k b = tset t k b := by
  induction t with
  | nil => simp [tset]
  | cons e t ih =>
    obtain ⟨k', a'⟩ := e
    by_cases hk : k' = k
    · simp [tset, hk]
    · simp [tset, hk, ih]

/-- A packet that nothing keeps waiting is taken and served. -/
theorem submit_servable {p : Packet} {s : State} (hs : servable p.h s = true) (i : Instr) :
    submit i p s = serve p (taken p.h s) := by
  unfold servable at hs
  split at hs
  case h_2 => simp at hs
  case h_1 q hq =>
    simp only [Bool.and_eq_true, beq_iff_eq, decide_eq_true_eq] at hs
    obtain ⟨⟨hh, hc⟩, hw, hr⟩ := hs
    simp only [submit, hq, hh, hw, hc, taken, Bool.not_true, Bool.false_eq_true, if_false]
    rw [if_neg (by omega)]
    simp only [BEq.rfl, Bool.and_self, if_true, takeServe, tget_tset_self, tset_tset_self]

/-- A refusal before acceptance (02 R89): no journal entry, JSEQ 0. -/
theorem serve_refused {p : Packet} {s : State} {st : Nat} (h : acceptCheck p s = some st) :
    serve p s = pushDone p 0 st 0 (countRefusal p st s) := by
  simp only [serve, h]

/-- An accepted command that completes with a status below 0x10, or whose failure itself acts (02 R83, R90). -/
theorem exec_done {i : Instr} {p : Packet} {s t : State} {st : Nat} {res : Result} (hp : packetOf i = some p) (hi : isResume i = false)
    (hg : goes p s = true) (he : runEff p (jseqOf p s) (afterAccept p s) = .done st res t) (hst : st < 0x10 ∨ p.failActs = true) :
    exec i s = .next (finished p st res s t) := by
  simp only [goes, Bool.and_eq_true, Option.isNone_iff_eq_none] at hg
  rw [exec_packet hp hi, submit_servable hg.1]
  have hj : (taken p.h s).cmd.jnlNext = s.cmd.jnlNext := by
    unfold taken; split <;> rfl
  simp only [serve, hg.2]
  simp only [jseqOf, afterAccept] at he
  have hc : (decide (st < 0x10) || p.failActs) = true := by
    rcases hst with h | h <;> simp [h]
  by_cases hjl : journalled p.opcode p.h = true
  · simp only [hjl, if_true] at he
    simp only [hjl, if_true, hj, he, finished, jseqOf]
    rcases hst with h | h <;> simp [h]
  · simp only [Bool.not_eq_true] at hjl
    simp only [hjl, Bool.false_eq_true, if_false] at he
    simp only [hjl, Bool.false_eq_true, if_false, he, finished, jseqOf]
    rcases hst with h | h <;> simp [h]

/-- An accepted command that fails changes nothing but its journal entry and its completion (02 R83), and a VF's count of refusals
for its share (15 Table VFN-6). -/
theorem exec_failed {i : Instr} {p : Packet} {s t : State} {st : Nat} {res : Result} (hp : packetOf i = some p) (hi : isResume i = false)
    (hg : goes p s = true) (he : runEff p (jseqOf p s) (afterAccept p s) = .done st res t) (hst : 0x10 ≤ st)
    (hf : p.failActs = false) : exec i s = .next (finished p st res s (countStageRefusal p st (afterAccept p s))) := by
  simp only [goes, Bool.and_eq_true, Option.isNone_iff_eq_none] at hg
  rw [exec_packet hp hi, submit_servable hg.1]
  have hj : (taken p.h s).cmd.jnlNext = s.cmd.jnlNext := by
    unfold taken; split <;> rfl
  have hn : ¬ st < 0x10 := by omega
  simp only [serve, hg.2]
  simp only [jseqOf, afterAccept] at he
  by_cases hjl : journalled p.opcode p.h = true
  · simp only [hjl, if_true] at he
    simp only [hjl, if_true, hj, he, finished, jseqOf, afterAccept, hf]
    simp [hn]
  · simp only [Bool.not_eq_true] at hjl
    simp only [hjl, Bool.false_eq_true, if_false] at he
    simp only [hjl, Bool.false_eq_true, if_false, he, finished, jseqOf, afterAccept, hf]
    simp [hn]

/-- An accepted command that waits. -/
theorem exec_waits {i : Instr} {p : Packet} {s t : State} (hp : packetOf i = some p) (hi : isResume i = false)
    (hg : goes p s = true) (he : runEff p (jseqOf p s) (afterAccept p s) = .wait t) :
    exec i s = .next (waiting p s t) := by
  simp only [goes, Bool.and_eq_true, Option.isNone_iff_eq_none] at hg
  rw [exec_packet hp hi, submit_servable hg.1]
  have hj : (taken p.h s).cmd.jnlNext = s.cmd.jnlNext := by
    unfold taken; split <;> rfl
  simp only [serve, hg.2]
  simp only [jseqOf, afterAccept] at he
  by_cases hjl : journalled p.opcode p.h = true
  · simp only [hjl, if_true] at he
    simp only [hjl, if_true, hj, he, waiting, jseqOf]
  · simp only [Bool.not_eq_true] at hjl
    simp only [hjl, Bool.false_eq_true, if_false] at he
    simp only [hjl, Bool.false_eq_true, if_false, he, waiting, jseqOf]

/-- An accepted command only changes the command interface. -/
theorem afterAccept_eq (p : Packet) (s : State) : afterAccept p s = { s with cmd := (afterAccept p s).cmd } := by
  unfold afterAccept taken
  split <;> split <;> rfl

/-- A configuration command whose fields are in range stages its setting (02 R75). -/
theorem exec_staged {i : Instr} {p : Packet} {x : Setting} {s : State}
    (hp : packetOf i = some p) (hi : isResume i = false) (hg : goesConfig p s = true)
    (he : p.eff (jseqOf p s) (afterAccept p s) = stageRes p.h (jseqOf p s) p.opcode x (afterAccept p s)) :
    exec i s = .next (finished p stOk 0 s (stagedIn p x s)) := by
  simp only [goesConfig, Bool.and_eq_true, Bool.not_eq_true'] at hg
  refine exec_done hp hi hg.1.1 ?_ (Or.inl (by decide))
  have hres : (afterAccept p s).pwr.restored = true := by
    rw [afterAccept_eq]; exact hg.2
  simp only [runEff, hg.1.2, hres, he, Bool.not_true, Bool.and_false, Bool.false_eq_true, if_false, stageRes]
  rfl

/-- A command that stages a setting finds its function's staging area full: it completes with ST_QUEUE_FULL and has changed nothing
but a VF's count of refusals for its share (02 R82, R83; 15 Table VFN-6). -/
theorem exec_noRoom {i : Instr} {p : Packet} {s : State} (hp : packetOf i = some p) (hi : isResume i = false)
    (hg : goes p s = true) (hr : p.noRoom (afterAccept p s) = true) (hf : p.failActs = false) :
    exec i s = .next (finished p stQueueFull 0 s (countStageRefusal p stQueueFull (afterAccept p s))) :=
  exec_failed (t := afterAccept p s) hp hi hg (by simp only [runEff, hr, if_true]; rfl) (by decide) hf

/-- The configuration is restored in the accepted state when it was before. -/
theorem afterAccept_restored (p : Packet) (s : State) : (afterAccept p s).pwr.restored = s.pwr.restored := by
  rw [afterAccept_eq]

/-- What a running packet does is its effect. -/
theorem runEff_of_runs {p : Packet} {s : State} (h : runs p s = true) :
    runEff p (jseqOf p s) (afterAccept p s) = p.eff (jseqOf p s) (afterAccept p s) := by
  simp only [runs, Bool.and_eq_true, Bool.or_eq_true, Bool.not_eq_true'] at h
  unfold runEff
  simp only [h.1.2, Bool.false_eq_true, if_false]
  rw [if_neg]
  rw [afterAccept_restored]
  rcases h.2 with h | h <;> simp [h]

/-- A command does what its packet's effect answers. -/
theorem does_of_eff {i : Instr} {p : Packet} {c : State → Bool} {st : Nat} {res : State → Result} {f : Nat → State → State}
    (hp : packetOf i = some p) (hi : isResume i = false) (hst : st < 0x10 ∨ p.failActs = true)
    (he : ∀ j a, c a = true → p.eff j a = .done st (res a) (f j a)) : Does i c st res f := by
  intro q s hq hr hc
  rw [hp] at hq; cases hq
  refine exec_done hp hi ?_ ?_ hst
  · simp only [runs, Bool.and_eq_true] at hr; exact hr.1.1
  · rw [runEff_of_runs hr, he _ _ hc]

/-- Only a CONFIG-kind command that its function's share refuses is counted (15 Table VFN-2). -/
theorem countStageRefusal_eq {p : Packet} {st : Nat} (h : st ≠ stQueueFull ∨ isConfig p.opcode = false) (s : State) :
    countStageRefusal p st s = s := by
  rcases h with h | h <;> simp [countStageRefusal, countRefusal, h]

/-- A command whose effect answers a failure has changed nothing. -/
theorem fails_of_eff {i : Instr} {p : Packet} {c : State → Bool} {st : Nat} {res : Result}
    (hp : packetOf i = some p) (hi : isResume i = false) (hst : 0x10 ≤ st) (hf : p.failActs = false)
    (hq : st ≠ stQueueFull ∨ isConfig p.opcode = false) (he : ∀ j a, c a = true → ∃ b, p.eff j a = .done st res b) : Fails i c st res := by
  intro q s hp' hr hc
  rw [hp] at hp'; cases hp'
  obtain ⟨b, hb⟩ := he (jseqOf p s) (afterAccept p s) hc
  refine (exec_failed (t := b) hp hi ?_ ?_ hst hf).trans (by rw [countStageRefusal_eq hq]; rfl)
  · simp only [runs, Bool.and_eq_true] at hr; exact hr.1.1
  · rw [runEff_of_runs hr, hb]

/-- A command whose effect waits. -/
theorem waits_of_eff {i : Instr} {p : Packet} {c : State → Bool} {f : Nat → State → State}
    (hp : packetOf i = some p) (hi : isResume i = false) (he : ∀ j a, c a = true → p.eff j a = .wait (f j a)) : Waits i c f := by
  intro q s hq hr hc
  rw [hp] at hq; cases hq
  refine exec_waits hp hi ?_ ?_
  · simp only [runs, Bool.and_eq_true] at hr; exact hr.1.1
  · rw [runEff_of_runs hr, he _ _ hc]

/-- A configuration command stages its setting or fails by its range check. -/
theorem stagesWhen_of_eff {i : Instr} {p : Packet} {c : State → Bool} {x : Setting}
    (hp : packetOf i = some p) (hi : isResume i = false) (hf : p.failActs = false)
    (he : ∀ j a, p.eff j a = if c a = true then stageRes p.h j p.opcode x a else failRes stFailed a) : StagesWhen i c x := by
  constructor
  · intro q s hq hg hc
    rw [hp] at hq; cases hq
    exact exec_staged hp hi hg (by rw [he, if_pos hc])
  · refine fails_of_eff hp hi (by decide) hf (Or.inl (by decide)) (fun j a hc => ⟨a, ?_⟩)
    rw [he, if_neg]; rfl
    simpa using hc

end Sys2Proof.Machine
end

