-- ==== Sys2Proof/Laws/State.lean ====
section
/-! SUPPORT. Each named update of State beside each field of State: the fields that an update leaves alone, by its definition. -/
namespace Sys2Proof.Machine

/-! ### setPort writes `net` only -/

@[simp] theorem setPort_variant (p : Nat) (x : PortSt) (s : State) : (setPort p x s).variant = s.variant := rfl
@[simp] theorem setPort_counters (p : Nat) (x : PortSt) (s : State) : (setPort p x s).counters = s.counters := rfl
@[simp] theorem setPort_latches (p : Nat) (x : PortSt) (s : State) : (setPort p x s).latches = s.latches := rfl
@[simp] theorem setPort_readOut (p : Nat) (x : PortSt) (s : State) : (setPort p x s).readOut = s.readOut := rfl
@[simp] theorem setPort_cfg (p : Nat) (x : PortSt) (s : State) : (setPort p x s).cfg = s.cfg := rfl
@[simp] theorem setPort_commits (p : Nat) (x : PortSt) (s : State) : (setPort p x s).commits = s.commits := rfl
@[simp] theorem setPort_bankA (p : Nat) (x : PortSt) (s : State) : (setPort p x s).bankA = s.bankA := rfl
@[simp] theorem setPort_bankB (p : Nat) (x : PortSt) (s : State) : (setPort p x s).bankB = s.bankB := rfl
@[simp] theorem setPort_marker (p : Nat) (x : PortSt) (s : State) : (setPort p x s).marker = s.marker := rfl
@[simp] theorem setPort_cycleNum (p : Nat) (x : PortSt) (s : State) : (setPort p x s).cycleNum = s.cycleNum := rfl
@[simp] theorem setPort_cmd (p : Nat) (x : PortSt) (s : State) : (setPort p x s).cmd = s.cmd := rfl
@[simp] theorem setPort_tim (p : Nat) (x : PortSt) (s : State) : (setPort p x s).tim = s.tim := rfl
@[simp] theorem setPort_swc (p : Nat) (x : PortSt) (s : State) : (setPort p x s).swc = s.swc := rfl
@[simp] theorem setPort_svi (p : Nat) (x : PortSt) (s : State) : (setPort p x s).svi = s.svi := rfl
@[simp] theorem setPort_flt (p : Nat) (x : PortSt) (s : State) : (setPort p x s).flt = s.flt := rfl
@[simp] theorem setPort_sig (p : Nat) (x : PortSt) (s : State) : (setPort p x s).sig = s.sig := rfl
@[simp] theorem setPort_grf (p : Nat) (x : PortSt) (s : State) : (setPort p x s).grf = s.grf := rfl
@[simp] theorem setPort_plm (p : Nat) (x : PortSt) (s : State) : (setPort p x s).plm = s.plm := rfl
@[simp] theorem setPort_lgc (p : Nat) (x : PortSt) (s : State) : (setPort p x s).lgc = s.lgc := rfl
@[simp] theorem setPort_lop (p : Nat) (x : PortSt) (s : State) : (setPort p x s).lop = s.lop := rfl
@[simp] theorem setPort_pair (p : Nat) (x : PortSt) (s : State) : (setPort p x s).pair = s.pair := rfl
@[simp] theorem setPort_vfn (p : Nat) (x : PortSt) (s : State) : (setPort p x s).vfn = s.vfn := rfl
@[simp] theorem setPort_evr (p : Nat) (x : PortSt) (s : State) : (setPort p x s).evr = s.evr := rfl
@[simp] theorem setPort_key (p : Nat) (x : PortSt) (s : State) : (setPort p x s).key = s.key := rfl
@[simp] theorem setPort_bkd (p : Nat) (x : PortSt) (s : State) : (setPort p x s).bkd = s.bkd := rfl
@[simp] theorem setPort_pwr (p : Nat) (x : PortSt) (s : State) : (setPort p x s).pwr = s.pwr := rfl
@[simp] theorem setPort_hwi (p : Nat) (x : PortSt) (s : State) : (setPort p x s).hwi = s.hwi := rfl
@[simp] theorem setPort_free (p : Nat) (x : PortSt) (s : State) : (setPort p x s).free = s.free := rfl
@[simp] theorem setPort_pending (p : Nat) (x : PortSt) (s : State) : (setPort p x s).pending = s.pending := rfl

/-! ### setMgmt writes `net` only -/

@[simp] theorem setMgmt_variant (m : Nat) (x : MgmtSt) (s : State) : (setMgmt m x s).variant = s.variant := rfl
@[simp] theorem setMgmt_counters (m : Nat) (x : MgmtSt) (s : State) : (setMgmt m x s).counters = s.counters := rfl
@[simp] theorem setMgmt_latches (m : Nat) (x : MgmtSt) (s : State) : (setMgmt m x s).latches = s.latches := rfl
@[simp] theorem setMgmt_readOut (m : Nat) (x : MgmtSt) (s : State) : (setMgmt m x s).readOut = s.readOut := rfl
@[simp] theorem setMgmt_cfg (m : Nat) (x : MgmtSt) (s : State) : (setMgmt m x s).cfg = s.cfg := rfl
@[simp] theorem setMgmt_commits (m : Nat) (x : MgmtSt) (s : State) : (setMgmt m x s).commits = s.commits := rfl
@[simp] theorem setMgmt_bankA (m : Nat) (x : MgmtSt) (s : State) : (setMgmt m x s).bankA = s.bankA := rfl
@[simp] theorem setMgmt_bankB (m : Nat) (x : MgmtSt) (s : State) : (setMgmt m x s).bankB = s.bankB := rfl
@[simp] theorem setMgmt_marker (m : Nat) (x : MgmtSt) (s : State) : (setMgmt m x s).marker = s.marker := rfl
@[simp] theorem setMgmt_cycleNum (m : Nat) (x : MgmtSt) (s : State) : (setMgmt m x s).cycleNum = s.cycleNum := rfl
@[simp] theorem setMgmt_cmd (m : Nat) (x : MgmtSt) (s : State) : (setMgmt m x s).cmd = s.cmd := rfl
@[simp] theorem setMgmt_tim (m : Nat) (x : MgmtSt) (s : State) : (setMgmt m x s).tim = s.tim := rfl
@[simp] theorem setMgmt_swc (m : Nat) (x : MgmtSt) (s : State) : (setMgmt m x s).swc = s.swc := rfl
@[simp] theorem setMgmt_svi (m : Nat) (x : MgmtSt) (s : State) : (setMgmt m x s).svi = s.svi := rfl
@[simp] theorem setMgmt_flt (m : Nat) (x : MgmtSt) (s : State) : (setMgmt m x s).flt = s.flt := rfl
@[simp] theorem setMgmt_sig (m : Nat) (x : MgmtSt) (s : State) : (setMgmt m x s).sig = s.sig := rfl
@[simp] theorem setMgmt_grf (m : Nat) (x : MgmtSt) (s : State) : (setMgmt m x s).grf = s.grf := rfl
@[simp] theorem setMgmt_plm (m : Nat) (x : MgmtSt) (s : State) : (setMgmt m x s).plm = s.plm := rfl
@[simp] theorem setMgmt_lgc (m : Nat) (x : MgmtSt) (s : State) : (setMgmt m x s).lgc = s.lgc := rfl
@[simp] theorem setMgmt_lop (m : Nat) (x : MgmtSt) (s : State) : (setMgmt m x s).lop = s.lop := rfl
@[simp] theorem setMgmt_pair (m : Nat) (x : MgmtSt) (s : State) : (setMgmt m x s).pair = s.pair := rfl
@[simp] theorem setMgmt_vfn (m : Nat) (x : MgmtSt) (s : State) : (setMgmt m x s).vfn = s.vfn := rfl
@[simp] theorem setMgmt_evr (m : Nat) (x : MgmtSt) (s : State) : (setMgmt m x s).evr = s.evr := rfl
@[simp] theorem setMgmt_key (m : Nat) (x : MgmtSt) (s : State) : (setMgmt m x s).key = s.key := rfl
@[simp] theorem setMgmt_bkd (m : Nat) (x : MgmtSt) (s : State) : (setMgmt m x s).bkd = s.bkd := rfl
@[simp] theorem setMgmt_pwr (m : Nat) (x : MgmtSt) (s : State) : (setMgmt m x s).pwr = s.pwr := rfl
@[simp] theorem setMgmt_hwi (m : Nat) (x : MgmtSt) (s : State) : (setMgmt m x s).hwi = s.hwi := rfl
@[simp] theorem setMgmt_free (m : Nat) (x : MgmtSt) (s : State) : (setMgmt m x s).free = s.free := rfl
@[simp] theorem setMgmt_pending (m : Nat) (x : MgmtSt) (s : State) : (setMgmt m x s).pending = s.pending := rfl

/-! ### setStr writes `svi` only -/

@[simp] theorem setStr_variant (n : Nat) (x : StreamSt) (s : State) : (setStr n x s).variant = s.variant := rfl
@[simp] theorem setStr_counters (n : Nat) (x : StreamSt) (s : State) : (setStr n x s).counters = s.counters := rfl
@[simp] theorem setStr_latches (n : Nat) (x : StreamSt) (s : State) : (setStr n x s).latches = s.latches := rfl
@[simp] theorem setStr_readOut (n : Nat) (x : StreamSt) (s : State) : (setStr n x s).readOut = s.readOut := rfl
@[simp] theorem setStr_cfg (n : Nat) (x : StreamSt) (s : State) : (setStr n x s).cfg = s.cfg := rfl
@[simp] theorem setStr_commits (n : Nat) (x : StreamSt) (s : State) : (setStr n x s).commits = s.commits := rfl
@[simp] theorem setStr_bankA (n : Nat) (x : StreamSt) (s : State) : (setStr n x s).bankA = s.bankA := rfl
@[simp] theorem setStr_bankB (n : Nat) (x : StreamSt) (s : State) : (setStr n x s).bankB = s.bankB := rfl
@[simp] theorem setStr_marker (n : Nat) (x : StreamSt) (s : State) : (setStr n x s).marker = s.marker := rfl
@[simp] theorem setStr_cycleNum (n : Nat) (x : StreamSt) (s : State) : (setStr n x s).cycleNum = s.cycleNum := rfl
@[simp] theorem setStr_cmd (n : Nat) (x : StreamSt) (s : State) : (setStr n x s).cmd = s.cmd := rfl
@[simp] theorem setStr_tim (n : Nat) (x : StreamSt) (s : State) : (setStr n x s).tim = s.tim := rfl
@[simp] theorem setStr_net (n : Nat) (x : StreamSt) (s : State) : (setStr n x s).net = s.net := rfl
@[simp] theorem setStr_swc (n : Nat) (x : StreamSt) (s : State) : (setStr n x s).swc = s.swc := rfl
@[simp] theorem setStr_flt (n : Nat) (x : StreamSt) (s : State) : (setStr n x s).flt = s.flt := rfl
@[simp] theorem setStr_sig (n : Nat) (x : StreamSt) (s : State) : (setStr n x s).sig = s.sig := rfl
@[simp] theorem setStr_grf (n : Nat) (x : StreamSt) (s : State) : (setStr n x s).grf = s.grf := rfl
@[simp] theorem setStr_plm (n : Nat) (x : StreamSt) (s : State) : (setStr n x s).plm = s.plm := rfl
@[simp] theorem setStr_lgc (n : Nat) (x : StreamSt) (s : State) : (setStr n x s).lgc = s.lgc := rfl
@[simp] theorem setStr_lop (n : Nat) (x : StreamSt) (s : State) : (setStr n x s).lop = s.lop := rfl
@[simp] theorem setStr_pair (n : Nat) (x : StreamSt) (s : State) : (setStr n x s).pair = s.pair := rfl
@[simp] theorem setStr_vfn (n : Nat) (x : StreamSt) (s : State) : (setStr n x s).vfn = s.vfn := rfl
@[simp] theorem setStr_evr (n : Nat) (x : StreamSt) (s : State) : (setStr n x s).evr = s.evr := rfl
@[simp] theorem setStr_key (n : Nat) (x : StreamSt) (s : State) : (setStr n x s).key = s.key := rfl
@[simp] theorem setStr_bkd (n : Nat) (x : StreamSt) (s : State) : (setStr n x s).bkd = s.bkd := rfl
@[simp] theorem setStr_pwr (n : Nat) (x : StreamSt) (s : State) : (setStr n x s).pwr = s.pwr := rfl
@[simp] theorem setStr_hwi (n : Nat) (x : StreamSt) (s : State) : (setStr n x s).hwi = s.hwi := rfl
@[simp] theorem setStr_free (n : Nat) (x : StreamSt) (s : State) : (setStr n x s).free = s.free := rfl
@[simp] theorem setStr_pending (n : Nat) (x : StreamSt) (s : State) : (setStr n x s).pending = s.pending := rfl

/-! ### setChain writes `flt` only -/

@[simp] theorem setChain_variant (c : Nat) (x : ChainSt) (s : State) : (setChain c x s).variant = s.variant := rfl
@[simp] theorem setChain_counters (c : Nat) (x : ChainSt) (s : State) : (setChain c x s).counters = s.counters := rfl
@[simp] theorem setChain_latches (c : Nat) (x : ChainSt) (s : State) : (setChain c x s).latches = s.latches := rfl
@[simp] theorem setChain_readOut (c : Nat) (x : ChainSt) (s : State) : (setChain c x s).readOut = s.readOut := rfl
@[simp] theorem setChain_cfg (c : Nat) (x : ChainSt) (s : State) : (setChain c x s).cfg = s.cfg := rfl
@[simp] theorem setChain_commits (c : Nat) (x : ChainSt) (s : State) : (setChain c x s).commits = s.commits := rfl
@[simp] theorem setChain_bankA (c : Nat) (x : ChainSt) (s : State) : (setChain c x s).bankA = s.bankA := rfl
@[simp] theorem setChain_bankB (c : Nat) (x : ChainSt) (s : State) : (setChain c x s).bankB = s.bankB := rfl
@[simp] theorem setChain_marker (c : Nat) (x : ChainSt) (s : State) : (setChain c x s).marker = s.marker := rfl
@[simp] theorem setChain_cycleNum (c : Nat) (x : ChainSt) (s : State) : (setChain c x s).cycleNum = s.cycleNum := rfl
@[simp] theorem setChain_cmd (c : Nat) (x : ChainSt) (s : State) : (setChain c x s).cmd = s.cmd := rfl
@[simp] theorem setChain_tim (c : Nat) (x : ChainSt) (s : State) : (setChain c x s).tim = s.tim := rfl
@[simp] theorem setChain_net (c : Nat) (x : ChainSt) (s : State) : (setChain c x s).net = s.net := rfl
@[simp] theorem setChain_swc (c : Nat) (x : ChainSt) (s : State) : (setChain c x s).swc = s.swc := rfl
@[simp] theorem setChain_svi (c : Nat) (x : ChainSt) (s : State) : (setChain c x s).svi = s.svi := rfl
@[simp] theorem setChain_sig (c : Nat) (x : ChainSt) (s : State) : (setChain c x s).sig = s.sig := rfl
@[simp] theorem setChain_grf (c : Nat) (x : ChainSt) (s : State) : (setChain c x s).grf = s.grf := rfl
@[simp] theorem setChain_plm (c : Nat) (x : ChainSt) (s : State) : (setChain c x s).plm = s.plm := rfl
@[simp] theorem setChain_lgc (c : Nat) (x : ChainSt) (s : State) : (setChain c x s).lgc = s.lgc := rfl
@[simp] theorem setChain_lop (c : Nat) (x : ChainSt) (s : State) : (setChain c x s).lop = s.lop := rfl
@[simp] theorem setChain_pair (c : Nat) (x : ChainSt) (s : State) : (setChain c x s).pair = s.pair := rfl
@[simp] theorem setChain_vfn (c : Nat) (x : ChainSt) (s : State) : (setChain c x s).vfn = s.vfn := rfl
@[simp] theorem setChain_evr (c : Nat) (x : ChainSt) (s : State) : (setChain c x s).evr = s.evr := rfl
@[simp] theorem setChain_key (c : Nat) (x : ChainSt) (s : State) : (setChain c x s).key = s.key := rfl
@[simp] theorem setChain_bkd (c : Nat) (x : ChainSt) (s : State) : (setChain c x s).bkd = s.bkd := rfl
@[simp] theorem setChain_pwr (c : Nat) (x : ChainSt) (s : State) : (setChain c x s).pwr = s.pwr := rfl
@[simp] theorem setChain_hwi (c : Nat) (x : ChainSt) (s : State) : (setChain c x s).hwi = s.hwi := rfl
@[simp] theorem setChain_free (c : Nat) (x : ChainSt) (s : State) : (setChain c x s).free = s.free := rfl
@[simp] theorem setChain_pending (c : Nat) (x : ChainSt) (s : State) : (setChain c x s).pending = s.pending := rfl

/-! ### setGs writes `sig` only -/

@[simp] theorem setGs_variant (n : Nat) (x : GsSt) (s : State) : (setGs n x s).variant = s.variant := rfl
@[simp] theorem setGs_counters (n : Nat) (x : GsSt) (s : State) : (setGs n x s).counters = s.counters := rfl
@[simp] theorem setGs_latches (n : Nat) (x : GsSt) (s : State) : (setGs n x s).latches = s.latches := rfl
@[simp] theorem setGs_readOut (n : Nat) (x : GsSt) (s : State) : (setGs n x s).readOut = s.readOut := rfl
@[simp] theorem setGs_cfg (n : Nat) (x : GsSt) (s : State) : (setGs n x s).cfg = s.cfg := rfl
@[simp] theorem setGs_commits (n : Nat) (x : GsSt) (s : State) : (setGs n x s).commits = s.commits := rfl
@[simp] theorem setGs_bankA (n : Nat) (x : GsSt) (s : State) : (setGs n x s).bankA = s.bankA := rfl
@[simp] theorem setGs_bankB (n : Nat) (x : GsSt) (s : State) : (setGs n x s).bankB = s.bankB := rfl
@[simp] theorem setGs_marker (n : Nat) (x : GsSt) (s : State) : (setGs n x s).marker = s.marker := rfl
@[simp] theorem setGs_cycleNum (n : Nat) (x : GsSt) (s : State) : (setGs n x s).cycleNum = s.cycleNum := rfl
@[simp] theorem setGs_cmd (n : Nat) (x : GsSt) (s : State) : (setGs n x s).cmd = s.cmd := rfl
@[simp] theorem setGs_tim (n : Nat) (x : GsSt) (s : State) : (setGs n x s).tim = s.tim := rfl
@[simp] theorem setGs_net (n : Nat) (x : GsSt) (s : State) : (setGs n x s).net = s.net := rfl
@[simp] theorem setGs_swc (n : Nat) (x : GsSt) (s : State) : (setGs n x s).swc = s.swc := rfl
@[simp] theorem setGs_svi (n : Nat) (x : GsSt) (s : State) : (setGs n x s).svi = s.svi := rfl
@[simp] theorem setGs_flt (n : Nat) (x : GsSt) (s : State) : (setGs n x s).flt = s.flt := rfl
@[simp] theorem setGs_grf (n : Nat) (x : GsSt) (s : State) : (setGs n x s).grf = s.grf := rfl
@[simp] theorem setGs_plm (n : Nat) (x : GsSt) (s : State) : (setGs n x s).plm = s.plm := rfl
@[simp] theorem setGs_lgc (n : Nat) (x : GsSt) (s : State) : (setGs n x s).lgc = s.lgc := rfl
@[simp] theorem setGs_lop (n : Nat) (x : GsSt) (s : State) : (setGs n x s).lop = s.lop := rfl
@[simp] theorem setGs_pair (n : Nat) (x : GsSt) (s : State) : (setGs n x s).pair = s.pair := rfl
@[simp] theorem setGs_vfn (n : Nat) (x : GsSt) (s : State) : (setGs n x s).vfn = s.vfn := rfl
@[simp] theorem setGs_evr (n : Nat) (x : GsSt) (s : State) : (setGs n x s).evr = s.evr := rfl
@[simp] theorem setGs_key (n : Nat) (x : GsSt) (s : State) : (setGs n x s).key = s.key := rfl
@[simp] theorem setGs_bkd (n : Nat) (x : GsSt) (s : State) : (setGs n x s).bkd = s.bkd := rfl
@[simp] theorem setGs_pwr (n : Nat) (x : GsSt) (s : State) : (setGs n x s).pwr = s.pwr := rfl
@[simp] theorem setGs_hwi (n : Nat) (x : GsSt) (s : State) : (setGs n x s).hwi = s.hwi := rfl
@[simp] theorem setGs_free (n : Nat) (x : GsSt) (s : State) : (setGs n x s).free = s.free := rfl
@[simp] theorem setGs_pending (n : Nat) (x : GsSt) (s : State) : (setGs n x s).pending = s.pending := rfl

/-! ### setGp writes `sig` only -/

@[simp] theorem setGp_variant (n : Nat) (x : GpSt) (s : State) : (setGp n x s).variant = s.variant := rfl
@[simp] theorem setGp_counters (n : Nat) (x : GpSt) (s : State) : (setGp n x s).counters = s.counters := rfl
@[simp] theorem setGp_latches (n : Nat) (x : GpSt) (s : State) : (setGp n x s).latches = s.latches := rfl
@[simp] theorem setGp_readOut (n : Nat) (x : GpSt) (s : State) : (setGp n x s).readOut = s.readOut := rfl
@[simp] theorem setGp_cfg (n : Nat) (x : GpSt) (s : State) : (setGp n x s).cfg = s.cfg := rfl
@[simp] theorem setGp_commits (n : Nat) (x : GpSt) (s : State) : (setGp n x s).commits = s.commits := rfl
@[simp] theorem setGp_bankA (n : Nat) (x : GpSt) (s : State) : (setGp n x s).bankA = s.bankA := rfl
@[simp] theorem setGp_bankB (n : Nat) (x : GpSt) (s : State) : (setGp n x s).bankB = s.bankB := rfl
@[simp] theorem setGp_marker (n : Nat) (x : GpSt) (s : State) : (setGp n x s).marker = s.marker := rfl
@[simp] theorem setGp_cycleNum (n : Nat) (x : GpSt) (s : State) : (setGp n x s).cycleNum = s.cycleNum := rfl
@[simp] theorem setGp_cmd (n : Nat) (x : GpSt) (s : State) : (setGp n x s).cmd = s.cmd := rfl
@[simp] theorem setGp_tim (n : Nat) (x : GpSt) (s : State) : (setGp n x s).tim = s.tim := rfl
@[simp] theorem setGp_net (n : Nat) (x : GpSt) (s : State) : (setGp n x s).net = s.net := rfl
@[simp] theorem setGp_swc (n : Nat) (x : GpSt) (s : State) : (setGp n x s).swc = s.swc := rfl
@[simp] theorem setGp_svi (n : Nat) (x : GpSt) (s : State) : (setGp n x s).svi = s.svi := rfl
@[simp] theorem setGp_flt (n : Nat) (x : GpSt) (s : State) : (setGp n x s).flt = s.flt := rfl
@[simp] theorem setGp_grf (n : Nat) (x : GpSt) (s : State) : (setGp n x s).grf = s.grf := rfl
@[simp] theorem setGp_plm (n : Nat) (x : GpSt) (s : State) : (setGp n x s).plm = s.plm := rfl
@[simp] theorem setGp_lgc (n : Nat) (x : GpSt) (s : State) : (setGp n x s).lgc = s.lgc := rfl
@[simp] theorem setGp_lop (n : Nat) (x : GpSt) (s : State) : (setGp n x s).lop = s.lop := rfl
@[simp] theorem setGp_pair (n : Nat) (x : GpSt) (s : State) : (setGp n x s).pair = s.pair := rfl
@[simp] theorem setGp_vfn (n : Nat) (x : GpSt) (s : State) : (setGp n x s).vfn = s.vfn := rfl
@[simp] theorem setGp_evr (n : Nat) (x : GpSt) (s : State) : (setGp n x s).evr = s.evr := rfl
@[simp] theorem setGp_key (n : Nat) (x : GpSt) (s : State) : (setGp n x s).key = s.key := rfl
@[simp] theorem setGp_bkd (n : Nat) (x : GpSt) (s : State) : (setGp n x s).bkd = s.bkd := rfl
@[simp] theorem setGp_pwr (n : Nat) (x : GpSt) (s : State) : (setGp n x s).pwr = s.pwr := rfl
@[simp] theorem setGp_hwi (n : Nat) (x : GpSt) (s : State) : (setGp n x s).hwi = s.hwi := rfl
@[simp] theorem setGp_free (n : Nat) (x : GpSt) (s : State) : (setGp n x s).free = s.free := rfl
@[simp] theorem setGp_pending (n : Nat) (x : GpSt) (s : State) : (setGp n x s).pending = s.pending := rfl

/-! ### setSvp writes `sig` only -/

@[simp] theorem setSvp_variant (n : Nat) (x : SvpSt) (s : State) : (setSvp n x s).variant = s.variant := rfl
@[simp] theorem setSvp_counters (n : Nat) (x : SvpSt) (s : State) : (setSvp n x s).counters = s.counters := rfl
@[simp] theorem setSvp_latches (n : Nat) (x : SvpSt) (s : State) : (setSvp n x s).latches = s.latches := rfl
@[simp] theorem setSvp_readOut (n : Nat) (x : SvpSt) (s : State) : (setSvp n x s).readOut = s.readOut := rfl
@[simp] theorem setSvp_cfg (n : Nat) (x : SvpSt) (s : State) : (setSvp n x s).cfg = s.cfg := rfl
@[simp] theorem setSvp_commits (n : Nat) (x : SvpSt) (s : State) : (setSvp n x s).commits = s.commits := rfl
@[simp] theorem setSvp_bankA (n : Nat) (x : SvpSt) (s : State) : (setSvp n x s).bankA = s.bankA := rfl
@[simp] theorem setSvp_bankB (n : Nat) (x : SvpSt) (s : State) : (setSvp n x s).bankB = s.bankB := rfl
@[simp] theorem setSvp_marker (n : Nat) (x : SvpSt) (s : State) : (setSvp n x s).marker = s.marker := rfl
@[simp] theorem setSvp_cycleNum (n : Nat) (x : SvpSt) (s : State) : (setSvp n x s).cycleNum = s.cycleNum := rfl
@[simp] theorem setSvp_cmd (n : Nat) (x : SvpSt) (s : State) : (setSvp n x s).cmd = s.cmd := rfl
@[simp] theorem setSvp_tim (n : Nat) (x : SvpSt) (s : State) : (setSvp n x s).tim = s.tim := rfl
@[simp] theorem setSvp_net (n : Nat) (x : SvpSt) (s : State) : (setSvp n x s).net = s.net := rfl
@[simp] theorem setSvp_swc (n : Nat) (x : SvpSt) (s : State) : (setSvp n x s).swc = s.swc := rfl
@[simp] theorem setSvp_svi (n : Nat) (x : SvpSt) (s : State) : (setSvp n x s).svi = s.svi := rfl
@[simp] theorem setSvp_flt (n : Nat) (x : SvpSt) (s : State) : (setSvp n x s).flt = s.flt := rfl
@[simp] theorem setSvp_grf (n : Nat) (x : SvpSt) (s : State) : (setSvp n x s).grf = s.grf := rfl
@[simp] theorem setSvp_plm (n : Nat) (x : SvpSt) (s : State) : (setSvp n x s).plm = s.plm := rfl
@[simp] theorem setSvp_lgc (n : Nat) (x : SvpSt) (s : State) : (setSvp n x s).lgc = s.lgc := rfl
@[simp] theorem setSvp_lop (n : Nat) (x : SvpSt) (s : State) : (setSvp n x s).lop = s.lop := rfl
@[simp] theorem setSvp_pair (n : Nat) (x : SvpSt) (s : State) : (setSvp n x s).pair = s.pair := rfl
@[simp] theorem setSvp_vfn (n : Nat) (x : SvpSt) (s : State) : (setSvp n x s).vfn = s.vfn := rfl
@[simp] theorem setSvp_evr (n : Nat) (x : SvpSt) (s : State) : (setSvp n x s).evr = s.evr := rfl
@[simp] theorem setSvp_key (n : Nat) (x : SvpSt) (s : State) : (setSvp n x s).key = s.key := rfl
@[simp] theorem setSvp_bkd (n : Nat) (x : SvpSt) (s : State) : (setSvp n x s).bkd = s.bkd := rfl
@[simp] theorem setSvp_pwr (n : Nat) (x : SvpSt) (s : State) : (setSvp n x s).pwr = s.pwr := rfl
@[simp] theorem setSvp_hwi (n : Nat) (x : SvpSt) (s : State) : (setSvp n x s).hwi = s.hwi := rfl
@[simp] theorem setSvp_free (n : Nat) (x : SvpSt) (s : State) : (setSvp n x s).free = s.free := rfl
@[simp] theorem setSvp_pending (n : Nat) (x : SvpSt) (s : State) : (setSvp n x s).pending = s.pending := rfl

/-! ### setGraph writes `grf` only -/

@[simp] theorem setGraph_variant (g : Nat) (x : GraphSt) (s : State) : (setGraph g x s).variant = s.variant := rfl
@[simp] theorem setGraph_counters (g : Nat) (x : GraphSt) (s : State) : (setGraph g x s).counters = s.counters := rfl
@[simp] theorem setGraph_latches (g : Nat) (x : GraphSt) (s : State) : (setGraph g x s).latches = s.latches := rfl
@[simp] theorem setGraph_readOut (g : Nat) (x : GraphSt) (s : State) : (setGraph g x s).readOut = s.readOut := rfl
@[simp] theorem setGraph_cfg (g : Nat) (x : GraphSt) (s : State) : (setGraph g x s).cfg = s.cfg := rfl
@[simp] theorem setGraph_commits (g : Nat) (x : GraphSt) (s : State) : (setGraph g x s).commits = s.commits := rfl
@[simp] theorem setGraph_bankA (g : Nat) (x : GraphSt) (s : State) : (setGraph g x s).bankA = s.bankA := rfl
@[simp] theorem setGraph_bankB (g : Nat) (x : GraphSt) (s : State) : (setGraph g x s).bankB = s.bankB := rfl
@[simp] theorem setGraph_marker (g : Nat) (x : GraphSt) (s : State) : (setGraph g x s).marker = s.marker := rfl
@[simp] theorem setGraph_cycleNum (g : Nat) (x : GraphSt) (s : State) : (setGraph g x s).cycleNum = s.cycleNum := rfl
@[simp] theorem setGraph_cmd (g : Nat) (x : GraphSt) (s : State) : (setGraph g x s).cmd = s.cmd := rfl
@[simp] theorem setGraph_tim (g : Nat) (x : GraphSt) (s : State) : (setGraph g x s).tim = s.tim := rfl
@[simp] theorem setGraph_net (g : Nat) (x : GraphSt) (s : State) : (setGraph g x s).net = s.net := rfl
@[simp] theorem setGraph_swc (g : Nat) (x : GraphSt) (s : State) : (setGraph g x s).swc = s.swc := rfl
@[simp] theorem setGraph_svi (g : Nat) (x : GraphSt) (s : State) : (setGraph g x s).svi = s.svi := rfl
@[simp] theorem setGraph_flt (g : Nat) (x : GraphSt) (s : State) : (setGraph g x s).flt = s.flt := rfl
@[simp] theorem setGraph_sig (g : Nat) (x : GraphSt) (s : State) : (setGraph g x s).sig = s.sig := rfl
@[simp] theorem setGraph_plm (g : Nat) (x : GraphSt) (s : State) : (setGraph g x s).plm = s.plm := rfl
@[simp] theorem setGraph_lgc (g : Nat) (x : GraphSt) (s : State) : (setGraph g x s).lgc = s.lgc := rfl
@[simp] theorem setGraph_lop (g : Nat) (x : GraphSt) (s : State) : (setGraph g x s).lop = s.lop := rfl
@[simp] theorem setGraph_pair (g : Nat) (x : GraphSt) (s : State) : (setGraph g x s).pair = s.pair := rfl
@[simp] theorem setGraph_vfn (g : Nat) (x : GraphSt) (s : State) : (setGraph g x s).vfn = s.vfn := rfl
@[simp] theorem setGraph_evr (g : Nat) (x : GraphSt) (s : State) : (setGraph g x s).evr = s.evr := rfl
@[simp] theorem setGraph_key (g : Nat) (x : GraphSt) (s : State) : (setGraph g x s).key = s.key := rfl
@[simp] theorem setGraph_bkd (g : Nat) (x : GraphSt) (s : State) : (setGraph g x s).bkd = s.bkd := rfl
@[simp] theorem setGraph_pwr (g : Nat) (x : GraphSt) (s : State) : (setGraph g x s).pwr = s.pwr := rfl
@[simp] theorem setGraph_hwi (g : Nat) (x : GraphSt) (s : State) : (setGraph g x s).hwi = s.hwi := rfl
@[simp] theorem setGraph_free (g : Nat) (x : GraphSt) (s : State) : (setGraph g x s).free = s.free := rfl
@[simp] theorem setGraph_pending (g : Nat) (x : GraphSt) (s : State) : (setGraph g x s).pending = s.pending := rfl

/-! ### setNode writes `grf` only -/

@[simp] theorem setNode_variant (i : Nat) (x : NodeSt) (s : State) : (setNode i x s).variant = s.variant := rfl
@[simp] theorem setNode_counters (i : Nat) (x : NodeSt) (s : State) : (setNode i x s).counters = s.counters := rfl
@[simp] theorem setNode_latches (i : Nat) (x : NodeSt) (s : State) : (setNode i x s).latches = s.latches := rfl
@[simp] theorem setNode_readOut (i : Nat) (x : NodeSt) (s : State) : (setNode i x s).readOut = s.readOut := rfl
@[simp] theorem setNode_cfg (i : Nat) (x : NodeSt) (s : State) : (setNode i x s).cfg = s.cfg := rfl
@[simp] theorem setNode_commits (i : Nat) (x : NodeSt) (s : State) : (setNode i x s).commits = s.commits := rfl
@[simp] theorem setNode_bankA (i : Nat) (x : NodeSt) (s : State) : (setNode i x s).bankA = s.bankA := rfl
@[simp] theorem setNode_bankB (i : Nat) (x : NodeSt) (s : State) : (setNode i x s).bankB = s.bankB := rfl
@[simp] theorem setNode_marker (i : Nat) (x : NodeSt) (s : State) : (setNode i x s).marker = s.marker := rfl
@[simp] theorem setNode_cycleNum (i : Nat) (x : NodeSt) (s : State) : (setNode i x s).cycleNum = s.cycleNum := rfl
@[simp] theorem setNode_cmd (i : Nat) (x : NodeSt) (s : State) : (setNode i x s).cmd = s.cmd := rfl
@[simp] theorem setNode_tim (i : Nat) (x : NodeSt) (s : State) : (setNode i x s).tim = s.tim := rfl
@[simp] theorem setNode_net (i : Nat) (x : NodeSt) (s : State) : (setNode i x s).net = s.net := rfl
@[simp] theorem setNode_swc (i : Nat) (x : NodeSt) (s : State) : (setNode i x s).swc = s.swc := rfl
@[simp] theorem setNode_svi (i : Nat) (x : NodeSt) (s : State) : (setNode i x s).svi = s.svi := rfl
@[simp] theorem setNode_flt (i : Nat) (x : NodeSt) (s : State) : (setNode i x s).flt = s.flt := rfl
@[simp] theorem setNode_sig (i : Nat) (x : NodeSt) (s : State) : (setNode i x s).sig = s.sig := rfl
@[simp] theorem setNode_plm (i : Nat) (x : NodeSt) (s : State) : (setNode i x s).plm = s.plm := rfl
@[simp] theorem setNode_lgc (i : Nat) (x : NodeSt) (s : State) : (setNode i x s).lgc = s.lgc := rfl
@[simp] theorem setNode_lop (i : Nat) (x : NodeSt) (s : State) : (setNode i x s).lop = s.lop := rfl
@[simp] theorem setNode_pair (i : Nat) (x : NodeSt) (s : State) : (setNode i x s).pair = s.pair := rfl
@[simp] theorem setNode_vfn (i : Nat) (x : NodeSt) (s : State) : (setNode i x s).vfn = s.vfn := rfl
@[simp] theorem setNode_evr (i : Nat) (x : NodeSt) (s : State) : (setNode i x s).evr = s.evr := rfl
@[simp] theorem setNode_key (i : Nat) (x : NodeSt) (s : State) : (setNode i x s).key = s.key := rfl
@[simp] theorem setNode_bkd (i : Nat) (x : NodeSt) (s : State) : (setNode i x s).bkd = s.bkd := rfl
@[simp] theorem setNode_pwr (i : Nat) (x : NodeSt) (s : State) : (setNode i x s).pwr = s.pwr := rfl
@[simp] theorem setNode_hwi (i : Nat) (x : NodeSt) (s : State) : (setNode i x s).hwi = s.hwi := rfl
@[simp] theorem setNode_free (i : Nat) (x : NodeSt) (s : State) : (setNode i x s).free = s.free := rfl
@[simp] theorem setNode_pending (i : Nat) (x : NodeSt) (s : State) : (setNode i x s).pending = s.pending := rfl

/-! ### setVf writes `vfn` only -/

@[simp] theorem setVf_variant (v : Nat) (x : VfSt) (s : State) : (setVf v x s).variant = s.variant := rfl
@[simp] theorem setVf_counters (v : Nat) (x : VfSt) (s : State) : (setVf v x s).counters = s.counters := rfl
@[simp] theorem setVf_latches (v : Nat) (x : VfSt) (s : State) : (setVf v x s).latches = s.latches := rfl
@[simp] theorem setVf_readOut (v : Nat) (x : VfSt) (s : State) : (setVf v x s).readOut = s.readOut := rfl
@[simp] theorem setVf_cfg (v : Nat) (x : VfSt) (s : State) : (setVf v x s).cfg = s.cfg := rfl
@[simp] theorem setVf_commits (v : Nat) (x : VfSt) (s : State) : (setVf v x s).commits = s.commits := rfl
@[simp] theorem setVf_bankA (v : Nat) (x : VfSt) (s : State) : (setVf v x s).bankA = s.bankA := rfl
@[simp] theorem setVf_bankB (v : Nat) (x : VfSt) (s : State) : (setVf v x s).bankB = s.bankB := rfl
@[simp] theorem setVf_marker (v : Nat) (x : VfSt) (s : State) : (setVf v x s).marker = s.marker := rfl
@[simp] theorem setVf_cycleNum (v : Nat) (x : VfSt) (s : State) : (setVf v x s).cycleNum = s.cycleNum := rfl
@[simp] theorem setVf_cmd (v : Nat) (x : VfSt) (s : State) : (setVf v x s).cmd = s.cmd := rfl
@[simp] theorem setVf_tim (v : Nat) (x : VfSt) (s : State) : (setVf v x s).tim = s.tim := rfl
@[simp] theorem setVf_net (v : Nat) (x : VfSt) (s : State) : (setVf v x s).net = s.net := rfl
@[simp] theorem setVf_swc (v : Nat) (x : VfSt) (s : State) : (setVf v x s).swc = s.swc := rfl
@[simp] theorem setVf_svi (v : Nat) (x : VfSt) (s : State) : (setVf v x s).svi = s.svi := rfl
@[simp] theorem setVf_flt (v : Nat) (x : VfSt) (s : State) : (setVf v x s).flt = s.flt := rfl
@[simp] theorem setVf_sig (v : Nat) (x : VfSt) (s : State) : (setVf v x s).sig = s.sig := rfl
@[simp] theorem setVf_grf (v : Nat) (x : VfSt) (s : State) : (setVf v x s).grf = s.grf := rfl
@[simp] theorem setVf_plm (v : Nat) (x : VfSt) (s : State) : (setVf v x s).plm = s.plm := rfl
@[simp] theorem setVf_lgc (v : Nat) (x : VfSt) (s : State) : (setVf v x s).lgc = s.lgc := rfl
@[simp] theorem setVf_lop (v : Nat) (x : VfSt) (s : State) : (setVf v x s).lop = s.lop := rfl
@[simp] theorem setVf_pair (v : Nat) (x : VfSt) (s : State) : (setVf v x s).pair = s.pair := rfl
@[simp] theorem setVf_evr (v : Nat) (x : VfSt) (s : State) : (setVf v x s).evr = s.evr := rfl
@[simp] theorem setVf_key (v : Nat) (x : VfSt) (s : State) : (setVf v x s).key = s.key := rfl
@[simp] theorem setVf_bkd (v : Nat) (x : VfSt) (s : State) : (setVf v x s).bkd = s.bkd := rfl
@[simp] theorem setVf_pwr (v : Nat) (x : VfSt) (s : State) : (setVf v x s).pwr = s.pwr := rfl
@[simp] theorem setVf_hwi (v : Nat) (x : VfSt) (s : State) : (setVf v x s).hwi = s.hwi := rfl
@[simp] theorem setVf_free (v : Nat) (x : VfSt) (s : State) : (setVf v x s).free = s.free := rfl
@[simp] theorem setVf_pending (v : Nat) (x : VfSt) (s : State) : (setVf v x s).pending = s.pending := rfl

/-! ### setTask writes `lgc` only -/

@[simp] theorem setTask_variant (t : Nat) (x : TaskSt) (s : State) : (setTask t x s).variant = s.variant := rfl
@[simp] theorem setTask_counters (t : Nat) (x : TaskSt) (s : State) : (setTask t x s).counters = s.counters := rfl
@[simp] theorem setTask_latches (t : Nat) (x : TaskSt) (s : State) : (setTask t x s).latches = s.latches := rfl
@[simp] theorem setTask_readOut (t : Nat) (x : TaskSt) (s : State) : (setTask t x s).readOut = s.readOut := rfl
@[simp] theorem setTask_cfg (t : Nat) (x : TaskSt) (s : State) : (setTask t x s).cfg = s.cfg := rfl
@[simp] theorem setTask_commits (t : Nat) (x : TaskSt) (s : State) : (setTask t x s).commits = s.commits := rfl
@[simp] theorem setTask_bankA (t : Nat) (x : TaskSt) (s : State) : (setTask t x s).bankA = s.bankA := rfl
@[simp] theorem setTask_bankB (t : Nat) (x : TaskSt) (s : State) : (setTask t x s).bankB = s.bankB := rfl
@[simp] theorem setTask_marker (t : Nat) (x : TaskSt) (s : State) : (setTask t x s).marker = s.marker := rfl
@[simp] theorem setTask_cycleNum (t : Nat) (x : TaskSt) (s : State) : (setTask t x s).cycleNum = s.cycleNum := rfl
@[simp] theorem setTask_cmd (t : Nat) (x : TaskSt) (s : State) : (setTask t x s).cmd = s.cmd := rfl
@[simp] theorem setTask_tim (t : Nat) (x : TaskSt) (s : State) : (setTask t x s).tim = s.tim := rfl
@[simp] theorem setTask_net (t : Nat) (x : TaskSt) (s : State) : (setTask t x s).net = s.net := rfl
@[simp] theorem setTask_swc (t : Nat) (x : TaskSt) (s : State) : (setTask t x s).swc = s.swc := rfl
@[simp] theorem setTask_svi (t : Nat) (x : TaskSt) (s : State) : (setTask t x s).svi = s.svi := rfl
@[simp] theorem setTask_flt (t : Nat) (x : TaskSt) (s : State) : (setTask t x s).flt = s.flt := rfl
@[simp] theorem setTask_sig (t : Nat) (x : TaskSt) (s : State) : (setTask t x s).sig = s.sig := rfl
@[simp] theorem setTask_grf (t : Nat) (x : TaskSt) (s : State) : (setTask t x s).grf = s.grf := rfl
@[simp] theorem setTask_plm (t : Nat) (x : TaskSt) (s : State) : (setTask t x s).plm = s.plm := rfl
@[simp] theorem setTask_lop (t : Nat) (x : TaskSt) (s : State) : (setTask t x s).lop = s.lop := rfl
@[simp] theorem setTask_pair (t : Nat) (x : TaskSt) (s : State) : (setTask t x s).pair = s.pair := rfl
@[simp] theorem setTask_vfn (t : Nat) (x : TaskSt) (s : State) : (setTask t x s).vfn = s.vfn := rfl
@[simp] theorem setTask_evr (t : Nat) (x : TaskSt) (s : State) : (setTask t x s).evr = s.evr := rfl
@[simp] theorem setTask_key (t : Nat) (x : TaskSt) (s : State) : (setTask t x s).key = s.key := rfl
@[simp] theorem setTask_bkd (t : Nat) (x : TaskSt) (s : State) : (setTask t x s).bkd = s.bkd := rfl
@[simp] theorem setTask_pwr (t : Nat) (x : TaskSt) (s : State) : (setTask t x s).pwr = s.pwr := rfl
@[simp] theorem setTask_hwi (t : Nat) (x : TaskSt) (s : State) : (setTask t x s).hwi = s.hwi := rfl
@[simp] theorem setTask_free (t : Nat) (x : TaskSt) (s : State) : (setTask t x s).free = s.free := rfl
@[simp] theorem setTask_pending (t : Nat) (x : TaskSt) (s : State) : (setTask t x s).pending = s.pending := rfl

/-! ### setLane writes `pair` only -/

@[simp] theorem setLane_variant (l : Nat) (x : LaneSt) (s : State) : (setLane l x s).variant = s.variant := rfl
@[simp] theorem setLane_counters (l : Nat) (x : LaneSt) (s : State) : (setLane l x s).counters = s.counters := rfl
@[simp] theorem setLane_latches (l : Nat) (x : LaneSt) (s : State) : (setLane l x s).latches = s.latches := rfl
@[simp] theorem setLane_readOut (l : Nat) (x : LaneSt) (s : State) : (setLane l x s).readOut = s.readOut := rfl
@[simp] theorem setLane_cfg (l : Nat) (x : LaneSt) (s : State) : (setLane l x s).cfg = s.cfg := rfl
@[simp] theorem setLane_commits (l : Nat) (x : LaneSt) (s : State) : (setLane l x s).commits = s.commits := rfl
@[simp] theorem setLane_bankA (l : Nat) (x : LaneSt) (s : State) : (setLane l x s).bankA = s.bankA := rfl
@[simp] theorem setLane_bankB (l : Nat) (x : LaneSt) (s : State) : (setLane l x s).bankB = s.bankB := rfl
@[simp] theorem setLane_marker (l : Nat) (x : LaneSt) (s : State) : (setLane l x s).marker = s.marker := rfl
@[simp] theorem setLane_cycleNum (l : Nat) (x : LaneSt) (s : State) : (setLane l x s).cycleNum = s.cycleNum := rfl
@[simp] theorem setLane_cmd (l : Nat) (x : LaneSt) (s : State) : (setLane l x s).cmd = s.cmd := rfl
@[simp] theorem setLane_tim (l : Nat) (x : LaneSt) (s : State) : (setLane l x s).tim = s.tim := rfl
@[simp] theorem setLane_net (l : Nat) (x : LaneSt) (s : State) : (setLane l x s).net = s.net := rfl
@[simp] theorem setLane_swc (l : Nat) (x : LaneSt) (s : State) : (setLane l x s).swc = s.swc := rfl
@[simp] theorem setLane_svi (l : Nat) (x : LaneSt) (s : State) : (setLane l x s).svi = s.svi := rfl
@[simp] theorem setLane_flt (l : Nat) (x : LaneSt) (s : State) : (setLane l x s).flt = s.flt := rfl
@[simp] theorem setLane_sig (l : Nat) (x : LaneSt) (s : State) : (setLane l x s).sig = s.sig := rfl
@[simp] theorem setLane_grf (l : Nat) (x : LaneSt) (s : State) : (setLane l x s).grf = s.grf := rfl
@[simp] theorem setLane_plm (l : Nat) (x : LaneSt) (s : State) : (setLane l x s).plm = s.plm := rfl
@[simp] theorem setLane_lgc (l : Nat) (x : LaneSt) (s : State) : (setLane l x s).lgc = s.lgc := rfl
@[simp] theorem setLane_lop (l : Nat) (x : LaneSt) (s : State) : (setLane l x s).lop = s.lop := rfl
@[simp] theorem setLane_vfn (l : Nat) (x : LaneSt) (s : State) : (setLane l x s).vfn = s.vfn := rfl
@[simp] theorem setLane_evr (l : Nat) (x : LaneSt) (s : State) : (setLane l x s).evr = s.evr := rfl
@[simp] theorem setLane_key (l : Nat) (x : LaneSt) (s : State) : (setLane l x s).key = s.key := rfl
@[simp] theorem setLane_bkd (l : Nat) (x : LaneSt) (s : State) : (setLane l x s).bkd = s.bkd := rfl
@[simp] theorem setLane_pwr (l : Nat) (x : LaneSt) (s : State) : (setLane l x s).pwr = s.pwr := rfl
@[simp] theorem setLane_hwi (l : Nat) (x : LaneSt) (s : State) : (setLane l x s).hwi = s.hwi := rfl
@[simp] theorem setLane_free (l : Nat) (x : LaneSt) (s : State) : (setLane l x s).free = s.free := rfl
@[simp] theorem setLane_pending (l : Nat) (x : LaneSt) (s : State) : (setLane l x s).pending = s.pending := rfl

/-! ### setSlot writes `key` only -/

@[simp] theorem setSlot_variant (n : Nat) (x : SlotSt) (s : State) : (setSlot n x s).variant = s.variant := rfl
@[simp] theorem setSlot_counters (n : Nat) (x : SlotSt) (s : State) : (setSlot n x s).counters = s.counters := rfl
@[simp] theorem setSlot_latches (n : Nat) (x : SlotSt) (s : State) : (setSlot n x s).latches = s.latches := rfl
@[simp] theorem setSlot_readOut (n : Nat) (x : SlotSt) (s : State) : (setSlot n x s).readOut = s.readOut := rfl
@[simp] theorem setSlot_cfg (n : Nat) (x : SlotSt) (s : State) : (setSlot n x s).cfg = s.cfg := rfl
@[simp] theorem setSlot_commits (n : Nat) (x : SlotSt) (s : State) : (setSlot n x s).commits = s.commits := rfl
@[simp] theorem setSlot_bankA (n : Nat) (x : SlotSt) (s : State) : (setSlot n x s).bankA = s.bankA := rfl
@[simp] theorem setSlot_bankB (n : Nat) (x : SlotSt) (s : State) : (setSlot n x s).bankB = s.bankB := rfl
@[simp] theorem setSlot_marker (n : Nat) (x : SlotSt) (s : State) : (setSlot n x s).marker = s.marker := rfl
@[simp] theorem setSlot_cycleNum (n : Nat) (x : SlotSt) (s : State) : (setSlot n x s).cycleNum = s.cycleNum := rfl
@[simp] theorem setSlot_cmd (n : Nat) (x : SlotSt) (s : State) : (setSlot n x s).cmd = s.cmd := rfl
@[simp] theorem setSlot_tim (n : Nat) (x : SlotSt) (s : State) : (setSlot n x s).tim = s.tim := rfl
@[simp] theorem setSlot_net (n : Nat) (x : SlotSt) (s : State) : (setSlot n x s).net = s.net := rfl
@[simp] theorem setSlot_swc (n : Nat) (x : SlotSt) (s : State) : (setSlot n x s).swc = s.swc := rfl
@[simp] theorem setSlot_svi (n : Nat) (x : SlotSt) (s : State) : (setSlot n x s).svi = s.svi := rfl
@[simp] theorem setSlot_flt (n : Nat) (x : SlotSt) (s : State) : (setSlot n x s).flt = s.flt := rfl
@[simp] theorem setSlot_sig (n : Nat) (x : SlotSt) (s : State) : (setSlot n x s).sig = s.sig := rfl
@[simp] theorem setSlot_grf (n : Nat) (x : SlotSt) (s : State) : (setSlot n x s).grf = s.grf := rfl
@[simp] theorem setSlot_plm (n : Nat) (x : SlotSt) (s : State) : (setSlot n x s).plm = s.plm := rfl
@[simp] theorem setSlot_lgc (n : Nat) (x : SlotSt) (s : State) : (setSlot n x s).lgc = s.lgc := rfl
@[simp] theorem setSlot_lop (n : Nat) (x : SlotSt) (s : State) : (setSlot n x s).lop = s.lop := rfl
@[simp] theorem setSlot_pair (n : Nat) (x : SlotSt) (s : State) : (setSlot n x s).pair = s.pair := rfl
@[simp] theorem setSlot_vfn (n : Nat) (x : SlotSt) (s : State) : (setSlot n x s).vfn = s.vfn := rfl
@[simp] theorem setSlot_evr (n : Nat) (x : SlotSt) (s : State) : (setSlot n x s).evr = s.evr := rfl
@[simp] theorem setSlot_bkd (n : Nat) (x : SlotSt) (s : State) : (setSlot n x s).bkd = s.bkd := rfl
@[simp] theorem setSlot_pwr (n : Nat) (x : SlotSt) (s : State) : (setSlot n x s).pwr = s.pwr := rfl
@[simp] theorem setSlot_hwi (n : Nat) (x : SlotSt) (s : State) : (setSlot n x s).hwi = s.hwi := rfl
@[simp] theorem setSlot_free (n : Nat) (x : SlotSt) (s : State) : (setSlot n x s).free = s.free := rfl
@[simp] theorem setSlot_pending (n : Nat) (x : SlotSt) (s : State) : (setSlot n x s).pending = s.pending := rfl

/-! ### bump writes `counters` only -/

@[simp] theorem bump_variant (c : Ctr) (s : State) : (bump c s).variant = s.variant := rfl
@[simp] theorem bump_latches (c : Ctr) (s : State) : (bump c s).latches = s.latches := rfl
@[simp] theorem bump_readOut (c : Ctr) (s : State) : (bump c s).readOut = s.readOut := rfl
@[simp] theorem bump_cfg (c : Ctr) (s : State) : (bump c s).cfg = s.cfg := rfl
@[simp] theorem bump_commits (c : Ctr) (s : State) : (bump c s).commits = s.commits := rfl
@[simp] theorem bump_bankA (c : Ctr) (s : State) : (bump c s).bankA = s.bankA := rfl
@[simp] theorem bump_bankB (c : Ctr) (s : State) : (bump c s).bankB = s.bankB := rfl
@[simp] theorem bump_marker (c : Ctr) (s : State) : (bump c s).marker = s.marker := rfl
@[simp] theorem bump_cycleNum (c : Ctr) (s : State) : (bump c s).cycleNum = s.cycleNum := rfl
@[simp] theorem bump_cmd (c : Ctr) (s : State) : (bump c s).cmd = s.cmd := rfl
@[simp] theorem bump_tim (c : Ctr) (s : State) : (bump c s).tim = s.tim := rfl
@[simp] theorem bump_net (c : Ctr) (s : State) : (bump c s).net = s.net := rfl
@[simp] theorem bump_swc (c : Ctr) (s : State) : (bump c s).swc = s.swc := rfl
@[simp] theorem bump_svi (c : Ctr) (s : State) : (bump c s).svi = s.svi := rfl
@[simp] theorem bump_flt (c : Ctr) (s : State) : (bump c s).flt = s.flt := rfl
@[simp] theorem bump_sig (c : Ctr) (s : State) : (bump c s).sig = s.sig := rfl
@[simp] theorem bump_grf (c : Ctr) (s : State) : (bump c s).grf = s.grf := rfl
@[simp] theorem bump_plm (c : Ctr) (s : State) : (bump c s).plm = s.plm := rfl
@[simp] theorem bump_lgc (c : Ctr) (s : State) : (bump c s).lgc = s.lgc := rfl
@[simp] theorem bump_lop (c : Ctr) (s : State) : (bump c s).lop = s.lop := rfl
@[simp] theorem bump_pair (c : Ctr) (s : State) : (bump c s).pair = s.pair := rfl
@[simp] theorem bump_vfn (c : Ctr) (s : State) : (bump c s).vfn = s.vfn := rfl
@[simp] theorem bump_evr (c : Ctr) (s : State) : (bump c s).evr = s.evr := rfl
@[simp] theorem bump_key (c : Ctr) (s : State) : (bump c s).key = s.key := rfl
@[simp] theorem bump_bkd (c : Ctr) (s : State) : (bump c s).bkd = s.bkd := rfl
@[simp] theorem bump_pwr (c : Ctr) (s : State) : (bump c s).pwr = s.pwr := rfl
@[simp] theorem bump_hwi (c : Ctr) (s : State) : (bump c s).hwi = s.hwi := rfl
@[simp] theorem bump_free (c : Ctr) (s : State) : (bump c s).free = s.free := rfl
@[simp] theorem bump_pending (c : Ctr) (s : State) : (bump c s).pending = s.pending := rfl

/-! ### bumpBy writes `counters` only -/

@[simp] theorem bumpBy_variant (c : Ctr) (n : Nat) (s : State) : (bumpBy c n s).variant = s.variant := rfl
@[simp] theorem bumpBy_latches (c : Ctr) (n : Nat) (s : State) : (bumpBy c n s).latches = s.latches := rfl
@[simp] theorem bumpBy_readOut (c : Ctr) (n : Nat) (s : State) : (bumpBy c n s).readOut = s.readOut := rfl
@[simp] theorem bumpBy_cfg (c : Ctr) (n : Nat) (s : State) : (bumpBy c n s).cfg = s.cfg := rfl
@[simp] theorem bumpBy_commits (c : Ctr) (n : Nat) (s : State) : (bumpBy c n s).commits = s.commits := rfl
@[simp] theorem bumpBy_bankA (c : Ctr) (n : Nat) (s : State) : (bumpBy c n s).bankA = s.bankA := rfl
@[simp] theorem bumpBy_bankB (c : Ctr) (n : Nat) (s : State) : (bumpBy c n s).bankB = s.bankB := rfl
@[simp] theorem bumpBy_marker (c : Ctr) (n : Nat) (s : State) : (bumpBy c n s).marker = s.marker := rfl
@[simp] theorem bumpBy_cycleNum (c : Ctr) (n : Nat) (s : State) : (bumpBy c n s).cycleNum = s.cycleNum := rfl
@[simp] theorem bumpBy_cmd (c : Ctr) (n : Nat) (s : State) : (bumpBy c n s).cmd = s.cmd := rfl
@[simp] theorem bumpBy_tim (c : Ctr) (n : Nat) (s : State) : (bumpBy c n s).tim = s.tim := rfl
@[simp] theorem bumpBy_net (c : Ctr) (n : Nat) (s : State) : (bumpBy c n s).net = s.net := rfl
@[simp] theorem bumpBy_swc (c : Ctr) (n : Nat) (s : State) : (bumpBy c n s).swc = s.swc := rfl
@[simp] theorem bumpBy_svi (c : Ctr) (n : Nat) (s : State) : (bumpBy c n s).svi = s.svi := rfl
@[simp] theorem bumpBy_flt (c : Ctr) (n : Nat) (s : State) : (bumpBy c n s).flt = s.flt := rfl
@[simp] theorem bumpBy_sig (c : Ctr) (n : Nat) (s : State) : (bumpBy c n s).sig = s.sig := rfl
@[simp] theorem bumpBy_grf (c : Ctr) (n : Nat) (s : State) : (bumpBy c n s).grf = s.grf := rfl
@[simp] theorem bumpBy_plm (c : Ctr) (n : Nat) (s : State) : (bumpBy c n s).plm = s.plm := rfl
@[simp] theorem bumpBy_lgc (c : Ctr) (n : Nat) (s : State) : (bumpBy c n s).lgc = s.lgc := rfl
@[simp] theorem bumpBy_lop (c : Ctr) (n : Nat) (s : State) : (bumpBy c n s).lop = s.lop := rfl
@[simp] theorem bumpBy_pair (c : Ctr) (n : Nat) (s : State) : (bumpBy c n s).pair = s.pair := rfl
@[simp] theorem bumpBy_vfn (c : Ctr) (n : Nat) (s : State) : (bumpBy c n s).vfn = s.vfn := rfl
@[simp] theorem bumpBy_evr (c : Ctr) (n : Nat) (s : State) : (bumpBy c n s).evr = s.evr := rfl
@[simp] theorem bumpBy_key (c : Ctr) (n : Nat) (s : State) : (bumpBy c n s).key = s.key := rfl
@[simp] theorem bumpBy_bkd (c : Ctr) (n : Nat) (s : State) : (bumpBy c n s).bkd = s.bkd := rfl
@[simp] theorem bumpBy_pwr (c : Ctr) (n : Nat) (s : State) : (bumpBy c n s).pwr = s.pwr := rfl
@[simp] theorem bumpBy_hwi (c : Ctr) (n : Nat) (s : State) : (bumpBy c n s).hwi = s.hwi := rfl
@[simp] theorem bumpBy_free (c : Ctr) (n : Nat) (s : State) : (bumpBy c n s).free = s.free := rfl
@[simp] theorem bumpBy_pending (c : Ctr) (n : Nat) (s : State) : (bumpBy c n s).pending = s.pending := rfl

/-! ### peak writes `counters` only -/

@[simp] theorem peak_variant (c : Ctr) (n : Nat) (s : State) : (peak c n s).variant = s.variant := rfl
@[simp] theorem peak_latches (c : Ctr) (n : Nat) (s : State) : (peak c n s).latches = s.latches := rfl
@[simp] theorem peak_readOut (c : Ctr) (n : Nat) (s : State) : (peak c n s).readOut = s.readOut := rfl
@[simp] theorem peak_cfg (c : Ctr) (n : Nat) (s : State) : (peak c n s).cfg = s.cfg := rfl
@[simp] theorem peak_commits (c : Ctr) (n : Nat) (s : State) : (peak c n s).commits = s.commits := rfl
@[simp] theorem peak_bankA (c : Ctr) (n : Nat) (s : State) : (peak c n s).bankA = s.bankA := rfl
@[simp] theorem peak_bankB (c : Ctr) (n : Nat) (s : State) : (peak c n s).bankB = s.bankB := rfl
@[simp] theorem peak_marker (c : Ctr) (n : Nat) (s : State) : (peak c n s).marker = s.marker := rfl
@[simp] theorem peak_cycleNum (c : Ctr) (n : Nat) (s : State) : (peak c n s).cycleNum = s.cycleNum := rfl
@[simp] theorem peak_cmd (c : Ctr) (n : Nat) (s : State) : (peak c n s).cmd = s.cmd := rfl
@[simp] theorem peak_tim (c : Ctr) (n : Nat) (s : State) : (peak c n s).tim = s.tim := rfl
@[simp] theorem peak_net (c : Ctr) (n : Nat) (s : State) : (peak c n s).net = s.net := rfl
@[simp] theorem peak_swc (c : Ctr) (n : Nat) (s : State) : (peak c n s).swc = s.swc := rfl
@[simp] theorem peak_svi (c : Ctr) (n : Nat) (s : State) : (peak c n s).svi = s.svi := rfl
@[simp] theorem peak_flt (c : Ctr) (n : Nat) (s : State) : (peak c n s).flt = s.flt := rfl
@[simp] theorem peak_sig (c : Ctr) (n : Nat) (s : State) : (peak c n s).sig = s.sig := rfl
@[simp] theorem peak_grf (c : Ctr) (n : Nat) (s : State) : (peak c n s).grf = s.grf := rfl
@[simp] theorem peak_plm (c : Ctr) (n : Nat) (s : State) : (peak c n s).plm = s.plm := rfl
@[simp] theorem peak_lgc (c : Ctr) (n : Nat) (s : State) : (peak c n s).lgc = s.lgc := rfl
@[simp] theorem peak_lop (c : Ctr) (n : Nat) (s : State) : (peak c n s).lop = s.lop := rfl
@[simp] theorem peak_pair (c : Ctr) (n : Nat) (s : State) : (peak c n s).pair = s.pair := rfl
@[simp] theorem peak_vfn (c : Ctr) (n : Nat) (s : State) : (peak c n s).vfn = s.vfn := rfl
@[simp] theorem peak_evr (c : Ctr) (n : Nat) (s : State) : (peak c n s).evr = s.evr := rfl
@[simp] theorem peak_key (c : Ctr) (n : Nat) (s : State) : (peak c n s).key = s.key := rfl
@[simp] theorem peak_bkd (c : Ctr) (n : Nat) (s : State) : (peak c n s).bkd = s.bkd := rfl
@[simp] theorem peak_pwr (c : Ctr) (n : Nat) (s : State) : (peak c n s).pwr = s.pwr := rfl
@[simp] theorem peak_hwi (c : Ctr) (n : Nat) (s : State) : (peak c n s).hwi = s.hwi := rfl
@[simp] theorem peak_free (c : Ctr) (n : Nat) (s : State) : (peak c n s).free = s.free := rfl
@[simp] theorem peak_pending (c : Ctr) (n : Nat) (s : State) : (peak c n s).pending = s.pending := rfl

/-! ### jnlAccept writes `cmd` only -/

@[simp] theorem jnlAccept_variant (op : Nat) (h : Hdr) (s : State) : (jnlAccept op h s).variant = s.variant := rfl
@[simp] theorem jnlAccept_counters (op : Nat) (h : Hdr) (s : State) : (jnlAccept op h s).counters = s.counters := rfl
@[simp] theorem jnlAccept_latches (op : Nat) (h : Hdr) (s : State) : (jnlAccept op h s).latches = s.latches := rfl
@[simp] theorem jnlAccept_readOut (op : Nat) (h : Hdr) (s : State) : (jnlAccept op h s).readOut = s.readOut := rfl
@[simp] theorem jnlAccept_cfg (op : Nat) (h : Hdr) (s : State) : (jnlAccept op h s).cfg = s.cfg := rfl
@[simp] theorem jnlAccept_commits (op : Nat) (h : Hdr) (s : State) : (jnlAccept op h s).commits = s.commits := rfl
@[simp] theorem jnlAccept_bankA (op : Nat) (h : Hdr) (s : State) : (jnlAccept op h s).bankA = s.bankA := rfl
@[simp] theorem jnlAccept_bankB (op : Nat) (h : Hdr) (s : State) : (jnlAccept op h s).bankB = s.bankB := rfl
@[simp] theorem jnlAccept_marker (op : Nat) (h : Hdr) (s : State) : (jnlAccept op h s).marker = s.marker := rfl
@[simp] theorem jnlAccept_cycleNum (op : Nat) (h : Hdr) (s : State) : (jnlAccept op h s).cycleNum = s.cycleNum := rfl
@[simp] theorem jnlAccept_tim (op : Nat) (h : Hdr) (s : State) : (jnlAccept op h s).tim = s.tim := rfl
@[simp] theorem jnlAccept_net (op : Nat) (h : Hdr) (s : State) : (jnlAccept op h s).net = s.net := rfl
@[simp] theorem jnlAccept_swc (op : Nat) (h : Hdr) (s : State) : (jnlAccept op h s).swc = s.swc := rfl
@[simp] theorem jnlAccept_svi (op : Nat) (h : Hdr) (s : State) : (jnlAccept op h s).svi = s.svi := rfl
@[simp] theorem jnlAccept_flt (op : Nat) (h : Hdr) (s : State) : (jnlAccept op h s).flt = s.flt := rfl
@[simp] theorem jnlAccept_sig (op : Nat) (h : Hdr) (s : State) : (jnlAccept op h s).sig = s.sig := rfl
@[simp] theorem jnlAccept_grf (op : Nat) (h : Hdr) (s : State) : (jnlAccept op h s).grf = s.grf := rfl
@[simp] theorem jnlAccept_plm (op : Nat) (h : Hdr) (s : State) : (jnlAccept op h s).plm = s.plm := rfl
@[simp] theorem jnlAccept_lgc (op : Nat) (h : Hdr) (s : State) : (jnlAccept op h s).lgc = s.lgc := rfl
@[simp] theorem jnlAccept_lop (op : Nat) (h : Hdr) (s : State) : (jnlAccept op h s).lop = s.lop := rfl
@[simp] theorem jnlAccept_pair (op : Nat) (h : Hdr) (s : State) : (jnlAccept op h s).pair = s.pair := rfl
@[simp] theorem jnlAccept_vfn (op : Nat) (h : Hdr) (s : State) : (jnlAccept op h s).vfn = s.vfn := rfl
@[simp] theorem jnlAccept_evr (op : Nat) (h : Hdr) (s : State) : (jnlAccept op h s).evr = s.evr := rfl
@[simp] theorem jnlAccept_key (op : Nat) (h : Hdr) (s : State) : (jnlAccept op h s).key = s.key := rfl
@[simp] theorem jnlAccept_bkd (op : Nat) (h : Hdr) (s : State) : (jnlAccept op h s).bkd = s.bkd := rfl
@[simp] theorem jnlAccept_pwr (op : Nat) (h : Hdr) (s : State) : (jnlAccept op h s).pwr = s.pwr := rfl
@[simp] theorem jnlAccept_hwi (op : Nat) (h : Hdr) (s : State) : (jnlAccept op h s).hwi = s.hwi := rfl
@[simp] theorem jnlAccept_free (op : Nat) (h : Hdr) (s : State) : (jnlAccept op h s).free = s.free := rfl
@[simp] theorem jnlAccept_pending (op : Nat) (h : Hdr) (s : State) : (jnlAccept op h s).pending = s.pending := rfl

/-! ### msixRaise writes `cmd` only -/

@[simp] theorem msixRaise_variant (f v : Nat) (s : State) : (msixRaise f v s).variant = s.variant := rfl
@[simp] theorem msixRaise_counters (f v : Nat) (s : State) : (msixRaise f v s).counters = s.counters := rfl
@[simp] theorem msixRaise_latches (f v : Nat) (s : State) : (msixRaise f v s).latches = s.latches := rfl
@[simp] theorem msixRaise_readOut (f v : Nat) (s : State) : (msixRaise f v s).readOut = s.readOut := rfl
@[simp] theorem msixRaise_cfg (f v : Nat) (s : State) : (msixRaise f v s).cfg = s.cfg := rfl
@[simp] theorem msixRaise_commits (f v : Nat) (s : State) : (msixRaise f v s).commits = s.commits := rfl
@[simp] theorem msixRaise_bankA (f v : Nat) (s : State) : (msixRaise f v s).bankA = s.bankA := rfl
@[simp] theorem msixRaise_bankB (f v : Nat) (s : State) : (msixRaise f v s).bankB = s.bankB := rfl
@[simp] theorem msixRaise_marker (f v : Nat) (s : State) : (msixRaise f v s).marker = s.marker := rfl
@[simp] theorem msixRaise_cycleNum (f v : Nat) (s : State) : (msixRaise f v s).cycleNum = s.cycleNum := rfl
@[simp] theorem msixRaise_tim (f v : Nat) (s : State) : (msixRaise f v s).tim = s.tim := rfl
@[simp] theorem msixRaise_net (f v : Nat) (s : State) : (msixRaise f v s).net = s.net := rfl
@[simp] theorem msixRaise_swc (f v : Nat) (s : State) : (msixRaise f v s).swc = s.swc := rfl
@[simp] theorem msixRaise_svi (f v : Nat) (s : State) : (msixRaise f v s).svi = s.svi := rfl
@[simp] theorem msixRaise_flt (f v : Nat) (s : State) : (msixRaise f v s).flt = s.flt := rfl
@[simp] theorem msixRaise_sig (f v : Nat) (s : State) : (msixRaise f v s).sig = s.sig := rfl
@[simp] theorem msixRaise_grf (f v : Nat) (s : State) : (msixRaise f v s).grf = s.grf := rfl
@[simp] theorem msixRaise_plm (f v : Nat) (s : State) : (msixRaise f v s).plm = s.plm := rfl
@[simp] theorem msixRaise_lgc (f v : Nat) (s : State) : (msixRaise f v s).lgc = s.lgc := rfl
@[simp] theorem msixRaise_lop (f v : Nat) (s : State) : (msixRaise f v s).lop = s.lop := rfl
@[simp] theorem msixRaise_pair (f v : Nat) (s : State) : (msixRaise f v s).pair = s.pair := rfl
@[simp] theorem msixRaise_vfn (f v : Nat) (s : State) : (msixRaise f v s).vfn = s.vfn := rfl
@[simp] theorem msixRaise_evr (f v : Nat) (s : State) : (msixRaise f v s).evr = s.evr := rfl
@[simp] theorem msixRaise_key (f v : Nat) (s : State) : (msixRaise f v s).key = s.key := rfl
@[simp] theorem msixRaise_bkd (f v : Nat) (s : State) : (msixRaise f v s).bkd = s.bkd := rfl
@[simp] theorem msixRaise_pwr (f v : Nat) (s : State) : (msixRaise f v s).pwr = s.pwr := rfl
@[simp] theorem msixRaise_hwi (f v : Nat) (s : State) : (msixRaise f v s).hwi = s.hwi := rfl
@[simp] theorem msixRaise_free (f v : Nat) (s : State) : (msixRaise f v s).free = s.free := rfl
@[simp] theorem msixRaise_pending (f v : Nat) (s : State) : (msixRaise f v s).pending = s.pending := rfl

end Sys2Proof.Machine
end

