-- ==== Sys2Proof/Laws/Ops.lean ====
section
/-! SUPPORT. The shared operations, each with what it can do said once: tables read after write, events, journal, completions. -/
namespace Sys2Proof.Machine

open Safety

variable {κ α : Type} [DecidableEq κ]

/-- A write leaves every other key alone. -/
theorem tget_tset_ne (t : Tbl κ α) {k k' : κ} (a : α) (h : k ≠ k') : tget (tset t k a) k' = tget t k' := by
  induction t with
  | nil => simp [tset, tget, h]
  | cons e t ih =>
    obtain ⟨k1, a1⟩ := e
    by_cases h1 : k1 = k
    · subst h1; simp [tset, tget, h]
    · by_cases h2 : k1 = k'
      · subst h2; simp [tset, tget, h1]
      · simp [tset, tget, h1, h2, ih]

@[simp] theorem tgetD_tset_self (t : Tbl κ α) (k : κ) (a d : α) : tgetD (tset t k a) k d = a := by
  simp [tgetD, tget_tset_self]

theorem tgetD_tset_ne (t : Tbl κ α) {k k' : κ} (a d : α) (h : k ≠ k') : tgetD (tset t k a) k' d = tgetD t k' d := by
  simp [tgetD, tget_tset_ne t a h]

/-- A removed key is not listed. -/
theorem tget_tdel_self (t : Tbl κ α) (k : κ) : tget (tdel t k) k = none := by
  induction t with
  | nil => rfl
  | cons e t ih =>
    obtain ⟨k1, a1⟩ := e
    by_cases h : k1 = k
    · simp [tdel, h, ih]
    · simp [tdel, tget, h, ih]

/-- A removal leaves every other key alone. -/
theorem tget_tdel_ne (t : Tbl κ α) {k k' : κ} (h : k ≠ k') : tget (tdel t k) k' = tget t k' := by
  induction t with
  | nil => rfl
  | cons e t ih =>
    obtain ⟨k1, a1⟩ := e
    by_cases h1 : k1 = k
    · subst h1; simp [tdel, tget, ih, h]
    · by_cases h2 : k1 = k'
      · subst h2; simp [tdel, tget, h1]
      · simp [tdel, tget, h1, h2, ih]

/-- An event changes the recorder and its counters only (16). -/
theorem recordEvent_eq (e : Event) (s : State) :
    recordEvent e s = { s with evr := (recordEvent e s).evr, counters := (recordEvent e s).counters } := by
  unfold recordEvent; dsimp only; split <;> rfl

/-- DONE is written in the journal only (02 R90). -/
theorem jnlDone_eq (q st : Nat) (s : State) : jnlDone q st s = { s with cmd := (jnlDone q st s).cmd } := by
  unfold jnlDone; split
  · split <;> rfl
  · rfl

/-- A completion is posted in the command interface only (02 R70). -/
theorem postCompletion_eq (o : Outst) (st : Nat) (res : Result) (s : State) :
    postCompletion o st res s = { s with cmd := (postCompletion o st res s).cmd } := by
  unfold postCompletion; split
  · rfl
  · dsimp only; split <;> rfl

theorem postReady_eq (l : List Outst) (b : List (Nat × Nat)) (s : State) :
    postReady l b s = { s with cmd := (postReady l b s).cmd } := by
  induction l generalizing b s with
  | nil => rfl
  | cons o l ih =>
    simp only [postReady]
    split
    · rw [ih]
    · split
      · split
        · rw [ih, postCompletion_eq]
        · rw [ih]
      · rw [ih]

/-- Posting what can be posted changes the command interface only. -/
theorem flushOutst_eq (s : State) : flushOutst s = { s with cmd := (flushOutst s).cmd } := by
  unfold flushOutst; rw [postReady_eq]

/-- Pushing a taken packet with its completion changes the command interface only. -/
theorem pushDone_eq (p : Packet) (j st : Nat) (res : Result) (s : State) :
    pushDone p j st res s = { s with cmd := (pushDone p j st res s).cmd } := by
  unfold pushDone; rw [flushOutst_eq]

/-- Completing a command that has waited changes the command interface only. -/
theorem completeCmd_eq (j st : Nat) (res : Result) (s : State) :
    completeCmd j st res s = { s with cmd := (completeCmd j st res s).cmd } := by
  unfold completeCmd; dsimp only; rw [flushOutst_eq, jnlDone_eq]

end Sys2Proof.Machine
end

