-- ==== Sys2Proof/Machine/Registers.lean ====
section
/-! DEFINITION. What a read of each register returns: the blocks of PF BAR0 and of a VF's BAR0, as the chapters' register tables
lay them out (02 R58, R59, R61), the records of the two windows as bytes, and the LEDs (20 R582). A read changes nothing but
where the access is RC, and that change is RC_COUNTER_READ (00 R14, R16). -/
namespace Sys2Proof.Machine

/-! ### Words of a block -/

/-- A register of a block: its offset, its length in bytes, and the value it reads as. -/
structure Reg where
  offset : Nat
  size : Nat
  value : Nat
  deriving DecidableEq, Repr, Inhabited

/-- A register of 32 bits. -/
def r32 (offset value : Nat) : Reg := ⟨offset, 4, value⟩
/-- A register of 64 bits. -/
def r64 (offset value : Nat) : Reg := ⟨offset, 8, value⟩
/-- A counter. -/
def rCtr (s : State) (offset : Nat) (c : Ctr) : Reg := r64 offset (cval s c).toNat
/-- A row of registers from a base at a stride. -/
def row (base stride n : Nat) (f : Nat → Nat → Reg) : List Reg := (List.range n).map (fun i => f (base + stride * i) i)
/-- The 32-bit word at an offset of a block; what no register covers reads as zero. -/
def wordAt (l : List Reg) (off : Nat) : Nat :=
  match l.find? (fun r => decide (r.offset ≤ off ∧ off < r.offset + r.size)) with
  | some r => r.value / 2 ^ (8 * (off - r.offset)) % 2 ^ 32
  | none => 0

/-! ### Records as bytes -/

/-- The 32 bytes of a journal entry (02 Table CMD-10). -/
def jnlBytes : Option JEntry → List Nat
  | none => List.replicate 32 0
  | some e =>
    leBytes 8 e.seq ++ leBytes 8 e.gen ++ leBytes 4 e.tag ++ leBytes 2 e.opcode ++ leBytes 2 e.func
      ++ [e.qp % 256, e.jflags % 256, e.status % 256, 0, 0, 0, e.accept % 256, e.done % 256]

/-! ### The general block: cycle, commands, hardware (Tables ARC-9, CMD-1, HWI-10) -/

/-- ARC_CYCLE_REF (01 Table ARC-9). -/
def cycleRef (s : State) : Nat :=
  match slowestRate s.cfg with
  | some f => s.cfg.cycleLen * f / unitsPerSec * 65536 + f
  | none => 0
/-- CMD_STATUS of a function. -/
def cmdStatus (s : State) (func : Nat) : Nat :=
  bbit (!(staged s func).isEmpty) 3 + bbit s.key.restricted 2 + s.cmd.ctrlDie % 2 * 2 + bbit s.cmd.ready 0
/-- The command registers of a function; the tail and head doorbells are write-only. -/
def cmdRegs (s : State) (func : Nat) : List Reg :=
  let a := aqOf s func
  [r64 0x400 s.cmd.gen, r32 0x408 (cmdStatus s func), r64 0x410 a.sqBase, r64 0x418 a.cqBase,
   r32 0x420 (bbit a.en 31 + bbit a.releasing 30 + a.cqLog2 % 16 * 256 + a.sqLog2 % 16),
   r64 0x428 s.cmd.jnlOldest, r64 0x430 s.cmd.jnlNext, r64 0x438 (tgetD s.cmd.cursor func 0).toNat,
   ⟨0x800, 512, bytesNat ((jnlWindow s func).flatMap jnlBytes)⟩]
/-- HWI_PINS: HEEL_N is low from a fall until it is judged, and the key pins stand at their debounced levels (log entry 113). -/
def pinsWord (s : State) : Nat :=
  s.hwi.pinSide % 2 * 512 + bbit (s.hwi.collarExt && s.key.extArmed) 8 + bbit s.flt.heelFall.isNone 7 + bbit s.lgc.runN 6
    + bbit s.lgc.stopN 5 + bbit s.hwi.ppsIn 4 + bbit s.hwi.pwrFailN 3 + bbit s.hwi.barkN 2 + bbit s.bkd.pwrOn 1
/-- The hardware registers. -/
def hwiRegs (s : State) : List Reg :=
  [r32 0xC00 (Config.revLetter % 256 * 2 ^ 24 + Config.dies s.variant * 2 ^ 16 + Config.behaviourRev % 65536),
   r64 0xC08 Config.serial.toNat, r32 0xC10 (bbit s.hwi.eject 6 + s.pair.side % 2 * 32 + s.hwi.slotId % 32), r32 0xC18 (pinsWord s),
   r32 0xC20 (s.hwi.crit % 256 * 2 ^ 24 + s.hwi.warn % 256 * 2 ^ 16 + twos 16 s.hwi.inlet)]
  ++ row 0xC40 4 (Config.dies s.variant) (fun o d => r32 o ((cval s (.hwiTjPeak d)).toNat % 65536 * 65536 + twos 16 (tgetD s.hwi.tj d 0)))
  ++ [rCtr s 0xC80 .hwiArbRx, rCtr s 0xC88 .hwiArbCrc]
/-- The general block. -/
def generalRegs (s : State) (die : Nat) : List Reg :=
  if die = 0 then [r32 0x200 s.cfg.cycleLen, r64 0x208 s.cycleNum, r32 0x210 (cycleRef s)] ++ cmdRegs s 0 ++ hwiRegs s else []

/-! ### Time (03 Table TIM-1) -/

/-- The capture set of a function, at a base. -/
def capRegs (s : State) (func base : Nat) : List Reg :=
  let c := tgetD s.tim.caps func {}
  [r64 (base + 0x08) c.raw, r64 (base + 0x10) c.time.sec, r32 (base + 0x18) c.time.ns, r32 (base + 0x1C) c.time.frac, r32 (base + 0x20) c.tq]
/-- TIM_UTC. -/
def utcWord (s : State) : Nat :=
  bbit s.tim.freqTraceable 20 + bbit s.tim.timeTraceable 19 + bbit s.tim.leap59 18 + bbit s.tim.leap61 17 + bbit s.tim.utcValid 16
    + twos 16 s.tim.utcOffset
/-- TIM_PPSIN. DESIGN CHOICE (log entry 143): an error that its 31 bits of 250 ps cannot hold wraps. -/
def ppsWord (s : State) : Nat :=
  bbit (match s.tim.ppsRaw with | some r => decide (s.tim.raw - r ≤ rawSec 2) | none => false) 31 + twos 31 s.tim.ppsErr
/-- The time block. -/
def timeRegs (s : State) (die : Nat) : List Reg :=
  (if die = 0 then capRegs s 0 0 ++
    [r64 0x28 s.tim.raw, r64 0x30 (twos 40 (setAt s.tim s.tim.raw).rate), r32 0x38 (utcWord s), r64 0x40 (ps s.tim.lanA.ofs), r64 0x48 (ps s.tim.lanB.ofs),
     r64 0x50 (ps s.tim.lanA.dly), r64 0x58 (ps s.tim.lanB.dly), r32 0x60 (holdAge s), r32 0x68 (ppsWord s)] else [])
  ++ [r32 0x100 (twos 32 (tgetD s.tim.dieSkew die 0))]

/-! ### Ports and switch (04 Tables NET-3 and NET-4, 05 Table SWC-4) -/

/-- NET_PORT_STATE of a management port: PAUSE and the watchdog act on all classes together, and an enabled port is ON
(log entry 113). -/
def mgmtWord (s : State) (m : Nat) : Nat :=
  let x := tgetD s.net.mgmt m {}
  (if x.wdHold then 255 * 2 ^ 24 else 0) + (if x.paused then 255 * 2 ^ 16 else 0) + linkNum x.link * 16
    + (if (mgmtCfg s m).enable = 1 then 2 else 0)
/-- The window of a port, from its place in the block: its state and its 54 counters. -/
def portRegs (s : State) (base port word : Nat) : List Reg :=
  r32 base word :: row (base + 0x100) 8 54 (fun o k => rCtr s o (.net port k))
/-- The network block. -/
def netRegs (s : State) (die : Nat) : List Reg :=
  (List.range 4).flatMap (fun n => portRegs s (0x1000 * n) (4 * die + n) (portWord s (4 * die + n)))
    ++ (if die < 2 then portRegs s 0x8000 (mgmtPort die) (mgmtWord s die) else [])
/-- The switch block: eight destinations of eight classes. -/
def swcRegs (s : State) (die : Nat) : List Reg :=
  [r32 0 (poolFree s die), r32 8 (cval s (.swcPoolPeak die)).toNat]
  ++ row 0x100 4 64 (fun o q => r32 o (occupancy s die (q / 8) (q % 8)))
  ++ row 0x200 8 64 (fun o q => rCtr s o (.swcTailDrop die q))
  ++ row 0x400 8 8 (fun o d => rCtr s o (.swcParityDrop die d)) ++ row 0x440 8 8 (fun o d => rCtr s o (.swcBadCut die d))
  ++ [rCtr s 0x480 (.swcUnknownDrop die), rCtr s 0x488 (.swcDdDiscard die), rCtr s 0x490 (.swcDdForgot die),
      rCtr s 0x498 (.swcLearnFull die), rCtr s 0x4A0 (.swcCutThrough die), rCtr s 0x4A8 (.swcTableParity die)]

/-! ### Ingest and filters (06 Table SVI-7, 07 Table FLT-6) -/

/-- The ingest block; a context that is not defined reads as zero. -/
def sviRegs (s : State) (die : Nat) : List Reg :=
  let sel := tgetD s.svi.ctxSel die 0
  let n := 1024 * die + sel
  r32 0 sel :: (if (svCtx s n).isSome then
      [r32 8 (sviCtxState (strSt s n)), r64 0x10 (strSt s n).lastReleased] ++ row 0x100 8 14 (fun o k => rCtr s o (.svi n k)) else [])
  ++ row 0x800 8 5 (fun o k => rCtr s o (.sviDie die k))
  ++ row 0x1000 4 128 (fun o w => r32 o (sumN ((List.range 8).map (fun i =>
      (let x := strSt s (1024 * die + 8 * w + i); if x.o.obj = .on then supNum x.sup else 0) * 16 ^ i))))
/-- FLT_ARRAY_STATE. -/
def arrayWord (s : State) (a : Nat) : Nat :=
  let mine := s.cfg.chains.filter (fun e => e.1 / 2048 == a)
  countBy (fun e => arrayOf s e.1 == a && decide (16 ≤ e.2.lane.length)) s.svi.streams * 2 ^ 32 + mine.length * 2 ^ 16
    + countBy (fun e => e.2.priv == 1) mine
/-- FLT_HEEL_PEND_FLAGS and the pending H. -/
def heelRegs (s : State) : List Reg :=
  [r64 0x800 s.cfg.heel.sec, r32 0x808 s.cfg.heel.ns, rCtr s 0x820 .fltHeelCount, rCtr s 0x828 .fltHeelIgnored]
  ++ (match s.flt.pending with
      | some p => [r64 0x810 p.sec, r32 0x818 p.ns, r32 0x81C (p.src % 4 * 4 + bbit p.clear 1 + 1)]
      | none => [])
/-- The filter block. -/
def fltRegs (s : State) (die : Nat) : List Reg :=
  let sel := tgetD s.flt.chainSel die 0
  let c := 8192 * die + sel
  [r32 0 sel, r64 8 (fltChainState s c), r64 0x10 (chainSt s c).lastInst, r32 0x18 (twos 32 (chainSt s c).lastDet)]
  ++ row 0x100 8 4 (fun o a => rCtr s o (.fltSat (4 * die + a))) ++ row 0x120 8 4 (fun o a => rCtr s o (.fltStall (4 * die + a)))
  ++ row 0x140 8 4 (fun o a => rCtr s o (.fltParity (4 * die + a))) ++ row 0x160 8 4 (fun o a => rCtr s o (.fltGoldenFail (4 * die + a)))
  ++ row 0x180 8 4 (fun o a => r64 o (arrayWord s (4 * die + a)))
  ++ (if die = 0 then heelRegs s else [])

/-! ### Signals, dispatch and placement (08 Table SIG-11, 09 Table GRF-9, 11 Table PLM-5) -/

/-- The signal block. -/
def sigRegs (s : State) (die : Nat) : List Reg :=
  let sel := tgetD s.sig.gsSel die 0
  let x := gsSt s (4096 * die + sel)
  let psel := tgetD s.sig.gpSel die 0
  let y := gpSt s (1024 * die + psel)
  [r32 0 sel, r32 8 ((if x.o.obj = .on then liveNum x.live else 0) * 16 + objNum x.o.obj), r64 0x10 (x.stNum % 2 ^ 32 * 2 ^ 32 + x.sqNum % 2 ^ 32)]
  ++ row 0x100 8 9 (fun o k => rCtr s o (.gs (4096 * die + sel) k))
  ++ [r32 0x400 psel, r32 0x408 (y.echo % 4 * 4 + objNum y.o.obj), r64 0x410 (y.stNum % 2 ^ 32 * 2 ^ 32 + y.sqNum % 2 ^ 32),
      rCtr s 0x418 (.gpTx (1024 * die + psel))]
  ++ row 0x800 8 4 (fun o k => rCtr s o (.gsDie die k)) ++ [rCtr s 0x820 (.sigLateWrite die), rCtr s 0x828 (.sigSvpLate die)]
  ++ (if die = 0 then [r32 0x900 s.sig.forces.length] else [])
/-- GRF_NODE_STATE. -/
def nodeWord (s : State) (id : Nat) : Nat :=
  match nodeAt s id with
  | none => 0
  | some (g, r) =>
    let l := locOf s id
    2 ^ 31 + bbit r.mustRun 30 + bbit r.prot 29 + objNum (groupSt (graphSt s g) r.group).obj * 2 ^ 24 + l.die % 8 * 2 ^ 21
      + l.region % 4 * 2 ^ 19 + l.cluster % 8 * 2 ^ 16 + g % 512
/-- The registers of a region in the dispatch block. -/
def regionRegs (s : State) (die a : Nat) : List Reg :=
  let r := 4 * die + a
  [r32 (0x400 + 8 * a) ((cval s (.grfRdyPeak r)).toNat * 2 ^ 16 + (readyList s r).length),
   r64 (0x420 + 8 * a) (spillOf s r * 2 ^ 32 + (cval s (.grfMsPeak r)).toNat * 2 ^ 16 + occOf s r)]
  ++ row (0x800 + 128 * a) 8 16 (fun o k => rCtr s o (.grfWaitHist r k)) ++ row (0xA00 + 64 * a) 8 8 (fun o k => rCtr s o (.grf r k))
/-- The dispatch block. Which unit runs a firing, and so the share of its second, the spec leaves to the module (log entry
113). -/
def grfRegs (s : State) (die : Nat) : List Reg :=
  let n := s.grf.nodeSel
  row 0 4 256 (fun o u => r32 o (unitBusy s (256 * die + u)))
  ++ (List.range 4).flatMap (regionRegs s die)
  ++ (if die = 0 then [r32 0xC00 n, r32 0xC08 (nodeWord s n), rCtr s 0xC10 (.grfNodeLate n), rCtr s 0xC18 (.grfNodeSkip n),
        r32 0xC20 s.grf.sched.length] else [])
/-- PLM_CL_LOAD of a cluster, by its number in the package. -/
def clusterWord (s : State) (k : Nat) : Nat :=
  let l := clusterLoc k
  bbit (s.plm.exclClusters.contains k || s.plm.exclDies.contains l.die || s.plm.bist.any (fun b => b.2.cluster == k)) 31
    + bbit ((clusterNodes s l).any (isProt s)) 30 + measOf s k % 1024 * 2 ^ 20 + clusterPlan s l % 1024 * 1024
    + (clusterNodes s l).length % 512
/-- The placement block. -/
def plmRegs (s : State) (die : Nat) : List Reg :=
  row 0 4 32 (fun o k => r32 o (clusterWord s (32 * die + k)))
  ++ row 0x80 4 4 (fun o a => r32 o (regionPlan s die a % 8192 * 2 ^ 16 + logicPlan s (procTasks s (4 * die + a)) % 1024))
  ++ [rCtr s 0x100 (.plmMigrate die), rCtr s 0x108 (.plmDefer die), rCtr s 0x110 (.plmBistSkip die)]
  ++ (if die = 0 then [r64 0x800 s.plm.mapGen,
        r32 0x808 (sumN (s.plm.exclDies.map (fun d => 2 ^ (16 + d))) + s.cfg.consolidate % 2 * 2 + bbit s.plm.frozen 0)] else [])

/-! ### Logic and the loop (12 Table LGC-9, 13 Table LOP-4) -/

/-- LGC_PROC_STATE of a processor. -/
def procWord (s : State) (p : Nat) : Nat :=
  let ts := procTasks s p
  tgetD s.lgc.bank p 0 % 2 * 2 ^ 31 + bbit (ts.any (fun t => thas s.lgc.staged2 t)) 30 + ts.length % 128 * 2 ^ 19
    + sumN (ts.map (fun t => match taskImg s t with | some g => g.instr.length | none => 0))
/-- The logic registers of die 0. -/
def lgcRegs0 (s : State) : List Reg :=
  let t := s.lgc.taskSel
  [r32 0x800 (keyPosition s.lgc.runN s.lgc.stopN * 16 + s.cfg.modeSrc % 2 * 4 + bbit s.lgc.stopN 1 + bbit s.lgc.runN 0),
   r32 0x808 t, r32 0x810 (taskWord s t), r64 0x818 (taskSt s t).t.lt, rCtr s 0x820 (.lgcTaskScans t),
   r32 0x828 (bbit (decide (s.lgc.retainGen = s.cmd.gen) && !s.lgc.retainOpen && s.pwr.restored) 31
     + (s.lgc.retainSigs.length + s.lgc.retainCtrs.length))]
/-- The logic block. -/
def lgcRegs (s : State) (die : Nat) : List Reg :=
  row 0 8 4 (fun o a => r32 o (procWord s (4 * die + a))) ++ row 0x40 8 4 (fun o a => r32 o (cval s (.lgcScanMax (4 * die + a))).toNat)
  ++ row 0x80 8 4 (fun o a => rCtr s o (.lgcOverrun (4 * die + a))) ++ (if die = 0 then lgcRegs0 s else [])
/-- The loop block. -/
def lopRegs (s : State) : List Reg :=
  [r32 0 (loopWord s), r64 8 s.lop.last, r32 0x10 s.lop.yp.toNat, r32 0x14 s.lop.i.toNat]
  ++ row 0x100 4 37 (fun o i => r32 o (coefAt s.lop i).toNat) ++ row 0x200 8 6 (fun o k => rCtr s o (.lop k))

/-! ### The pair, the VFs, the recorder, keys (14 Table PAIR-10, 15 Table VFN-6, 16 Table EVR-4, 17 Table KEY-10) -/

/-- The pair block. -/
def pairRegs (s : State) : List Reg :=
  [r64 0 (pairWord s), r32 8 (leaseLeft s), r32 0x10 (lanesUp s), r32 0x18 (flagsNow s).toNat]
  ++ row 0x100 8 10 (fun o k => rCtr s o (.pair k)) ++ row 0x200 8 64 (fun o i => rCtr s o (.leash (i / 4) (i % 4)))
  ++ [⟨0x800, 256, bytesNat s.pair.report⟩]
/-- The VF block. -/
def vfnRegs (s : State) : List Reg :=
  let v := s.vfn.sel
  [r32 0 (s.cfg.fraction % 1024 * 2 ^ 16 + vfCount s), r32 0x100 v, r32 0x108 (vfWord s v), r32 0x110 (vfSt s v).tol]
  ++ row 0x40 8 4 (fun o r => r64 o (vfFloor s r)) ++ row 0x60 8 4 (fun o r => r64 o (share s 0 r - useOf s 0 r))
  ++ row 0x140 8 4 (fun o r => r64 o (share s (v + 1) r)) ++ row 0x160 8 4 (fun o r => r64 o (useOf s (v + 1) r))
  ++ row 0x200 8 4 (fun o k => rCtr s o (.vfn v k))
/-- The recorder block. -/
def evrRegs (s : State) : List Reg :=
  [r64 0 s.evr.oldest, r64 8 s.evr.next, r64 0x10 s.evr.durable, r64 0x18 s.evr.cursor.toNat, r32 0x20 (stagedCount s),
   r32 0x28 (cval s .evrStagePeak).toNat, rCtr s 0x30 .evrLost, rCtr s 0x38 .evrWritten,
   ⟨0x400, 1024, bytesNat ((evrWindow s).flatMap evrBytes)⟩]
/-- The keys block. -/
def keyRegs (s : State) : List Reg :=
  let n := s.key.slotSel
  [r32 0 (s.key.rollback % 128 * 2 ^ 16 + s.key.running % 2 * 1024 + bbit s.key.fallback 9 + bbit s.key.extArmed 8
     + bbit s.key.restricted 1 + bbit s.key.latch 0),
   r32 8 (s.key.count % 65536 * 65536 + s.key.cause % 128), r64 0x10 s.key.tamperTime, r32 0x18 n, r32 0x20 (slotWord s n),
   r64 0x28 (kcvOf (slotSt s n).current), rCtr s 0x100 .keyOps, rCtr s 0x108 .keyRemask, rCtr s 0x110 .keyTamperAbort,
   rCtr s 0x118 .keyUnwrapFail]

/-! ### The backup domain and power (18 Table BKD-3, 19 Table PWR-7) -/

/-- The backup block. -/
def bkdRegs (s : State) : List Reg :=
  let c := s.bkd.cap
  [r32 0x08 (c.date.year % 65536 * 65536 + c.date.month % 256 * 256 + c.date.day % 256),
   r32 0x0C (c.date.hour % 256 * 2 ^ 24 + c.date.min % 256 * 2 ^ 16 + c.date.sec % 256 * 256), r32 0x10 (c.date.subsec % 32768),
   r32 0x18 (bkdStatus s), r64 0x20 c.sec, r32 0x28 c.ns, r64 0x30 c.raw, r32 0x38 (twos 16 s.bkd.trim), r32 0x3C (twos 32 s.bkd.trimErr),
   r32 0x40 (s.bkd.vcell % 65536)]
/-- A word of two bits for each domain of a die. -/
def domWord (f : Nat → Nat) : Nat := sumN ((List.range 12).map (fun k => f k % 4 * 4 ^ k))
/-- The power block. ALLOW leaves out the time to the next known event, which is the happening's to give (log entry 113). -/
def pwrRegs (s : State) (die : Nat) : List Reg :=
  let k := tgetD s.pwr.domSel die 0
  [r32 0 (domWord (fun k => (domainSt s die k).1)), r32 8 (domWord (fun k => chooseState s die k none)), r32 0x10 k]
  ++ row 0x18 8 4 (fun o st => rCtr (settleCtr (.pwrResid die k st) s) o (.pwrResid die k st))
  ++ [rCtr s 0x40 (.pwrWake die k), rCtr s 0x48 (.pwrLateWake die k)]
  ++ (if die = 0 then
        [r32 0x800 (s.pwr.iin % 65536 * 65536 + s.pwr.vin % 65536), r32 0x808 (inputMw s), r32 0x810 (pwrWord s), r32 0x818 s.pwr.tReady,
         r32 0x81C s.pwr.tRestore, r32 0x820 s.pwr.lastFlush, rCtr s 0x828 .pwrRetainLag] else [])

/-! ### The two maps (02 R58, R59, R61; 03 Table TIM-1; 15 R477) -/

/-- The registers of a die's window in the block of a class. -/
def blockRegs (s : State) (cls die : Nat) : List Reg :=
  match cls with
  | 0x00 => generalRegs s die
  | 0x01 => timeRegs s die
  | 0x02 => netRegs s die
  | 0x03 => swcRegs s die
  | 0x04 => sviRegs s die
  | 0x05 => fltRegs s die
  | 0x06 => sigRegs s die
  | 0x07 => grfRegs s die
  | 0x08 => plmRegs s die
  | 0x09 => lgcRegs s die
  | 0x0A => if die = 0 then lopRegs s else []
  | 0x0B => if die = 0 then pairRegs s else []
  | 0x0C => if die = 0 then vfnRegs s else []
  | 0x0D => if die = 0 then evrRegs s else []
  | 0x0E => if die = 0 then keyRegs s else []
  | 0x0F => if die = 0 then bkdRegs s else []
  | 0x10 => pwrRegs s die
  | _ => []
/-- What a 4-byte read of PF BAR0 returns. -/
def pfRead (s : State) (off : Nat) : Nat :=
  let die := off % 0x100000 / 0x10000
  if hasDie s die then wordAt (blockRegs s (off / 0x100000) die) (off % 0x10000) else 0
/-- What a 4-byte read of a VF's BAR0 returns: its command registers, its capture set, and its own state, shares and uses. -/
def vfRead (s : State) (v off : Nat) : Nat :=
  wordAt (cmdRegs s (v + 1) ++ capRegs s (v + 1) 0x1000 ++ [r32 0x2000 (vfWord s v)]
    ++ row 0x2008 8 4 (fun o r => r64 o (share s (v + 1) r)) ++ row 0x2028 8 4 (fun o r => r64 o (useOf s (v + 1) r))) off

/-! ### Base address registers, and the command that an access is (02 R58 to R61) -/

/-- A memory BAR of a function. -/
structure Bar where
  number : Nat
  wide : Bool
  prefetchable : Bool
  size : Nat
  deriving DecidableEq, Repr, Inhabited
/-- The size of BAR0: 64 MiB for the PF, 64 KiB for a VF (R58). -/
def barSize (func : Nat) : Nat := if func = 0 then 0x4000000 else 0x10000
/-- The BARs of a function: BAR0, 64 bits wide and not prefetchable, and no other (R58). -/
def bars (func : Nat) : List Bar := [⟨0, true, false, barSize func⟩]
/-- An access that R60 admits, inside the function's BAR0: 4 or 8 bytes, naturally aligned. -/
def accessOk (func off size : Nat) : Bool :=
  (size == 4 || size == 8) && off % size == 0 && decide (off + size ≤ barSize func)
/-- A 4-byte read of a function's BAR0. -/
def wordRead (s : State) (func off : Nat) : Nat := if func = 0 then pfRead s off else vfRead s (func - 1) off
/-- What a read of a function's BAR0 returns; none for an access outside R60 or R58. -/
def barRead (s : State) (func off size : Nat) : Option Nat :=
  if !accessOk func off size then none
  else if size = 4 then some (wordRead s func off)
  else some (wordRead s func off + 2 ^ 32 * wordRead s func (off + 4))

/-- A write of CMD_AQ_CTRL: EN 1 enables, EN 0 disables, and the depths are set while EN stays 0 (R62, R63). -/
def aqCtrlWrite (s : State) (func v : Nat) : Instr :=
  match (aqOf s func).en, bitN v 31 with
  | false, true => .queuePair0Enable func (v % 16) (v / 256 % 16)
  | true, false => .queuePair0Disable func
  | false, false => .registerWrite (.aqDepths func) (BitVec.ofNat 64 v)
  | true, true => .registerWrite (.readOnly 0x420) (BitVec.ofNat 64 v)
/-- The command that a 4-byte write at an offset of a function's command registers is: the same offsets for every function
(R61, Table CMD-1). -/
def cmdWordWrite (s : State) (func off v : Nat) : Option Instr :=
  let u := BitVec.ofNat 64 v
  if off = 0x410 ∨ off = 0x414 then some (.registerWrite (.aqSqBaseHalf func (off == 0x414)) u)
  else if off = 0x418 ∨ off = 0x41C then some (.registerWrite (.aqCqBaseHalf func (off == 0x41C)) u)
  else if off = 0x420 then some (aqCtrlWrite s func v)
  else if off = 0x438 ∨ off = 0x43C then some (.registerWrite (.jnlCursorHalf func (off == 0x43C)) u)
  else if 0x8000 ≤ off ∧ off < 0x8080 then
    some (if off % 8 = 0 then .cmdSqTail func ((off - 0x8000) / 8) ⟨v % 65536, []⟩ else .cmdCqHead func ((off - 0x8000) / 8) (v % 65536))
  else none
/-- The command that a 4-byte write of the PF's BAR0 is, outside its command registers; a read-only or absent offset ignores it
(00 R13, R14; R59). -/
def pfWordWrite (s : State) (off v : Nat) : Instr :=
  let u := BitVec.ofNat 64 v
  let die := off % 0x100000 / 0x10000
  if !hasDie s die then .registerWrite (.readOnly off) u
  else match off / 0x100000, off % 0x10000, die with
    | 0x01, 0x00, 0 => .timCapture 0 v
    | 0x04, 0x00, d => .registerWrite (.sviCtxSel d) u
    | 0x05, 0x00, d => .registerWrite (.fltChainSel d) u
    | 0x06, 0x00, d => .registerWrite (.sigGsSel d) u
    | 0x06, 0x400, d => .registerWrite (.sigGpSel d) u
    | 0x07, 0xC00, 0 => .registerWrite .grfNodeSel u
    | 0x09, 0x808, 0 => .registerWrite .lgcTaskSel u
    | 0x0C, 0x100, 0 => .registerWrite .vfnSel u
    | 0x0D, 0x18, 0 => .registerWrite (.evrCursorHalf false) u
    | 0x0D, 0x1C, 0 => .registerWrite (.evrCursorHalf true) u
    | 0x0E, 0x18, 0 => .registerWrite .keySlotSel u
    | 0x0F, 0x00, 0 => .bkdCapture (v % 2)
    | 0x10, 0x10, d => .registerWrite (.pwrDomSel d) u
    | _, _, _ => .registerWrite (.readOnly off) u
/-- The command that a 4-byte write of a function's BAR0 is; a VF's capture register stands at 0x1000 (15 R477). -/
def wordWrite (s : State) (func off v : Nat) : Instr :=
  match (if func = 0 ∧ 0x10000 ≤ off then none else cmdWordWrite s func off v) with
  | some i => i
  | none =>
    if func = 0 then pfWordWrite s off v
    else if off = 0x1000 then .timCapture func v
    else .registerWrite (.readOnly off) (BitVec.ofNat 64 v)
/-- The command that an 8-byte write of a 64-bit register is. -/
def wholeWrite (func off v : Nat) : Option Instr :=
  let u := BitVec.ofNat 64 v
  if off = 0x410 then some (.registerWrite (.aqSqBase func) u)
  else if off = 0x418 then some (.registerWrite (.aqCqBase func) u)
  else if off = 0x438 then some (.cmdJnlCursor func u)
  else if func = 0 ∧ off = 0xD00018 then some (.evrCursor u)
  else none
/-- The commands that a write of a function's BAR0 is: one for 4 bytes or for a whole 64-bit register, the two words of 8 bytes
otherwise, the lower first; none for an access outside R60 or R58. -/
def barWrite (s : State) (func off size v : Nat) : List Instr :=
  if !accessOk func off size then []
  else if size = 4 then [wordWrite s func off (v % 2 ^ 32)]
  else match wholeWrite func off (v % 2 ^ 64) with
    | some i => [i]
    | none => [wordWrite s func off (v % 2 ^ 32), wordWrite s func (off + 4) (v / 2 ^ 32 % 2 ^ 32)]

/-! ### LEDs (20 Table HWI-3) -/

/-- What an LED shows. -/
inductive Led where
  | off | green | greenBlink | amber | amberBlink | red | redBlink
  deriving DecidableEq, Repr, Inhabited

/-- PWR. -/
def ledPwr (s : State) : Led :=
  match s.pwr.phase with
  | .reset => .off
  | .flushing | .waiting => .amber
  | .dead => .greenBlink
  | .running => if s.cmd.ready then .green else .greenBlink
/-- PAIR. -/
def ledPair (s : State) : Led :=
  match s.pair.state with
  | .silent | .failed => .red
  | .init | .syncing => .amberBlink
  | .solo => .amber
  | .standby => .greenBlink
  | .active => .green
/-- TIME. -/
def ledTime (s : State) : Led :=
  match s.tim.state with
  | .holdoverLimit | .freerun => .red
  | .holdover => .amber
  | .acquiring | .frozen => .greenBlink
  | .locked => .green
/-- ALARM. -/
def ledAlarm (s : State) : Led := if s.hwi.barkN then .off else .red
/-- TAMPER. -/
def ledTamper (s : State) : Led := if s.key.restricted then .redBlink else if s.key.latch then .red else .off
/-- A port's LED. -/
def ledPort (s : State) (p : Nat) : Led :=
  match (portSt s p).link with
  | .up => .green
  | .holding => .amber
  | .down => .off

end Sys2Proof.Machine
end

