-- ==== Sys2Proof/WellFormed.lean ====
section
/-! DEFINITION. Which commands can be written down in the block's encodings at all: a header whose fields fit the packet
(02 R71, R72), and operands that fit the number they name. Ranges that the module itself checks are no part of this. -/
namespace Sys2Proof.WellFormed

/-- A packet header: its function and queue pair exist in some variant (02 Table CMD-2), its fields fit (Table CMD-3), and its
parameter block has a length that R72 admits. -/
def hdrOk (h : Hdr) : Bool :=
  decide (h.func ≤ 256) && decide (h.qp ≤ (if h.func = 0 then 15 else 1)) && decide (h.tag < 2 ^ 32) && decide (h.expGen < 2 ^ 64)
    && decide (h.pblkLen % 64 = 0) && decide (h.pblkLen ≤ 1048576) && decide (h.pblkAddr % 64 = 0 ∧ h.pblkAddr < 2 ^ 64)
/-- A node number (00 Table SCP-1). -/
def nodeOk (n : Nat) : Bool := decide (n < 32768)
/-- A scheme logic processor: four on each die (12 R359). -/
def procOk (p : Nat) : Bool := decide (p < 32)
/-- OPERAND of a logic instruction, 25 bits (12 R362). -/
def operandOk (x : Nat) : Bool := decide (x < 2 ^ 25)
/-- An external port of the largest variant. -/
def portNoOk (p : Nat) : Bool := decide (p < 256)
/-- A die number, one byte. -/
def dieNoOk (d : Nat) : Bool := decide (d < 256)
/-- A stream number, two bytes. -/
def streamNoOk (n : Nat) : Bool := decide (n < 65536)
/-- A virtual function's number, two bytes. -/
def vfNoOk (v : Nat) : Bool := decide (v < 65536)

/-- The command is well formed. -/
def ok : Instr → Bool
  | .sysCycleSet h _ | .configCommit h | .configAbort h | .queueCreate h _ | .queueDelete h _ | .nop h | .identify h
  | .timPtpConfig h _ | .timAsymSet h _ | .timThreshSet h _ | .acceptPath h _ | .timStep h _ | .timStatus h
  | .netMgmtConfig h _ _ | .swcQueueConfig h _ | .swcAging h _ _ | .fltChainSet h _ _ _ | .fltHeelPin h _ _
  | .fltHeel h _ _ _ | .fltChainRead h _ | .sigDefine h _ | .sigGsSubscribe h _ _ | .sigGpDefine h _ _
  | .sigSharedId h _ | .sigWrite h _ | .sigForce h _ | .sigGsEnable h _ _ | .sigGpEnable h _ _ | .sigRead h _ _ _ _
  | .grfGraphLoad h _ _ _ | .grfGraphUnload h _ | .grfEnable h _ _ _ | .schedule h _ | .scheduleCancel h _
  | .grfSettingGroup h _ _ | .grfGraphRead h _ | .scheduleRead h _ | .grfShareRead h _ | .plmGroupSet h _ _ _
  | .plmOwnerDies h _ _ | .plmPolicy h _ _ _ | .plmFreeze h _ | .plmMapRead h _ _ _ _ | .lgcTaskDefine h _ _ _ _ _
  | .lgcConfig h _ _ | .lgcEnable h _ _ | .lgcMode h _ _ | .lgcStep h _ | .lgcValueWrite h _ | .lgcOnlineLoad h _ _ _
  | .lgcOnlineSwitch h _ | .lgcRestart h _ _ | .lgcTaskRead h _ | .loopConfig h _ | .loopEnable h _
  | .loopCoefWrite h _ _ | .loopRead h | .pairConfig h _ | .pairRelinquish h | .pairLeashRekey h _ _ | .pairStatus h
  | .pairHealthRead h _ | .vfnPolicy h _ | .vfLatencySet h _ _ | .evrClear h _ | .evrMark h _ _ _ | .evrRead h _ _ _
  | .keyConfig h _ _ | .keyImport h _ _ _ | .keyLoad h _ _ | .keyGenerate h _ | .keyVerify h _ _ _ _
  | .keyCommit h _ _ | .keyDiscard h _ _ | .keyAttest h _ _ _ _ | .keyFwWrite h _ _ | .keyFwActivate h
  | .keyRollbackAdvance h _ | .keyTamperClear h _ _ | .keyRecoverySet h _ | .keySlotRead h _ | .keyIdentityRead h _
  | .bkdConfig h _ _ | .bkdRtcHalt h | .bkdRtcHaltRelease h | .bkdRtcWrite h _ | .bkdAlarmSet h _ _ | .bkdPwrOnReq h _
  | .bkdRtcRead h | .pwrPolicy h _ | .pwrRestart h _ | .pwrRestoreNow h | .pwrStatus h => hdrOk h
  | .timStepApply | .timCapture _ _ | .bkdCapture _ | .cmdCqHead _ _ _ | .queuePair0Enable _ _ _
  | .queuePair0Disable _ | .queueReleaseDone _ | .cmdJnlCursor _ _ | .evrCursor _ | .rcCounterRead _ _
  | .registerWrite _ _ | .coalesceTimeout _ _ | .controllerTakeover _ | .parameterSetActivate | .ptpSync _
  | .ptpFollowUp _ _ _ | .ptpAnnounce _ | .announceReceiptTimeout _ | .pathStepHoldExpiry | .holdT1Expiry
  | .ppsInEdge _ _ | .ppsOutPulse | .cageInsert _ _ _ _ | .cageRemove _ | .mgmtLinkChange _ _ | .goldenVectorRun _ _ _
  | .heelApply | .heelNFall _ _ | .heelNQualify | .gsStarted _ | .gsDeadline _ | .gpRetransmit _ | .gpEchoTimeout _
  | .systemCycleBoundary | .configTakeForce | .dispatch _ _ _ | .scheduleExec _ | .migrationStart _
  | .rebalanceCheck _ _ _ | .keyPositionChange _ _ | .loopSample | .loopWaitExpiry | .healthReportSend
  | .tokenMessage _ | .leaseExpiry | .leashLaneState _ _ | .leashHead _ _ _ _ | .leashAdmit _ _ _ | .leashPage _ _ _ _
  | .leashCdigest _ _ _ | .leashEnd _ _ _ _ _ _ | .mirrorApply | .leashFdigest _ _ _ _ | .shadowLagExpiry _
  | .leashCoef _ _ _ _ | .leashPageReq _ _ | .leashPageResp _ _ _ | .leashSync _ _ _ _ | .leashLoopback _ _
  | .leashAck _ _ | .leashNak _ _ | .ackSend _ | .leashHeartbeat _ _ _ | .heartbeatSend _ | .heartbeatTimeout
  | .syncTimeoutExpiry | .relinquishTimeout | .eyeMonitor _ _ _ | .katRun _ | .sriovChange _ _ | .pfReset
  | .busMasterEnable _ _ | .eventRecord _ | .eventWrite | .eventWindowClose _ _ | .keyRemask _ _ | .rollMsExpiry _
  | .tamperTrip _ | .tamperTripUnpowered _ | .bkdSupplySwitch _ _ | .cellMeasure _ | .backupDomainReset
  | .rtcHaltTimeout | .rtcOverrange | .evBkdLeap | .trimIntervalEnd _ | .alarmFire | .pwrOnReqExpiry | .powerFail _
  | .ejectLever | .powerGood _ _ _ _ _ | .configRestore _ | .tempMeasure _ _ | .pwrInputSample _ _ | .gpStarted _
  | .holdTempExceeded _ | .fwActivateComplete _ _ _ | .bkdCaptureLatch => true
  | .netPortConfig h port _ | .netPortEnable h port _ | .netPortStatus h port | .swcPortFwd h port _
  | .swcLearnFlush h port => hdrOk h && portNoOk port
  | .swcMcastSet h die _ _ | .swcMcastRead h die _ => hdrOk h && dieNoOk die
  | .swcLookup h die port _ _ => hdrOk h && dieNoOk die && portNoOk port
  | .svSubscribe h stream _ | .svUnsubscribe h stream | .svStreamEnable h stream _ | .svResync h stream
  | .svStreamRead h stream | .sigSvpDefine h stream _ => hdrOk h && streamNoOk stream
  | .vfnVfConfig h vf _ | .vfEnable h vf _ | .vfQuiesce h vf | .vfResume h vf | .vfShareSet h vf _ _
  | .vfCustodyReturn h vf | .vfStatus h vf _ => hdrOk h && vfNoOk vf
  | .dieSkewExchange die _ | .staticEntryRewrite die _ | .fabricFrameArrive die _ _ _ _ | .learnedEntryAge die _ _
  | .ddEntryAge die _ _ | .consolidation die | .clusterBist die | .evPlmBistSkip die | .dieEvacuation die _
  | .dramScrub die _ | .domainFree die _ _ | .domainWake die _ _ | .clusterTestEnd die _ => dieNoOk die
  | .ptpPdelayReq port | .ptpPdelayResp port _ | .pdelayReqSend port | .frameReceive port _ _ _ _
  | .egressTransmit port _ _ | .prpSupervisionSend port | .portStarted port | .linkFault port _ | .linkClear port
  | .linkHoldExpiry port | .portDrainEnd port | .preemptRespond port | .preemptVerifyTimeout port
  | .pauseFrame port _ _ _ | .pauseExpiry port _ | .pauseWdTrip port | .pauseWdHoldEnd port => portNoOk port
  | .svFrameIngest die port _ _ _ | .gooseFrameCheck die port _ _ _ => dieNoOk die && portNoOk port
  | .instantDue stream | .streamOn stream | .filterOutput stream | .svpFrameSend stream | .matchOperand stream => streamNoOk stream
  | .graceFill node _ | .firingCommit node _ | .dftFull node | .dftHalf node | .cosine node | .seq node | .mag node
  | .magang node | .pqs3 node | .pqs1 node | .freq node | .angdiff node | .phSum node | .impPe node | .impPp node
  | .mho node | .quad node | .dir node | .diffBias node | .harmRatio node | .idmt node | .deft node | .uv node
  | .ov node | .bfCheck node | .freqProt node | .dcDidt node | .dcOc node | .stringImb node | .timerPd node
  | .pulse node | .cmpHyst node | .boolComb node | .latch node | .edge node | .count node | .scale node | .arith node
  | .sumw node | .minmax node | .limit node | .absf node | .select node | .movavg node | .delayk node
  | .sigReadNode node | .sigWriteNode node | .migrationComplete node | .deferWarnExpiry node => nodeOk node
  | .logicScan proc _ _ | .lgcNop proc | .lgcEnd proc | .lgcNot proc | .lgcCloseParen proc => procOk proc
  | .lgcLd proc x | .lgcLdn proc x | .lgcAnd proc x | .lgcAndn proc x | .lgcOr proc x | .lgcOrn proc x
  | .lgcXor proc x | .lgcXorn proc x | .lgcLdk proc x | .lgcSt proc x | .lgcStn proc x | .lgcSet proc x
  | .lgcRst proc x | .lgcAndParen proc x | .lgcAndnParen proc x | .lgcOrParen proc x | .lgcOrnParen proc x
  | .lgcXorParen proc x | .lgcRtrig proc x | .lgcFtrig proc x | .lgcTon proc x | .lgcTof proc x | .lgcTp proc x
  | .lgcTrst proc x | .lgcCtu proc x | .lgcCtd proc x | .lgcCrst proc x | .lgcCld proc x | .lgcJmp proc x
  | .lgcJmpc proc x | .lgcJmpcn proc x | .lgcQgood proc x | .lgcQinv proc x | .lgcQquest proc x | .lgcQold proc x
  | .lgcQtest proc x | .lgcQsubst proc x | .lgcLdw proc x | .lgcLdwk proc x | .lgcLdwc proc x | .lgcLdwt proc x
  | .lgcCmpeq proc x | .lgcCmpne proc x | .lgcCmpgt proc x | .lgcCmpge proc x | .lgcCmplt proc x | .lgcCmple proc x
  | .lgcCmpeqk proc x | .lgcCmpnek proc x | .lgcCmpgtk proc x | .lgcCmpgek proc x | .lgcCmpltk proc x
  | .lgcCmplek proc x | .lgcStw proc x | .lgcStwc proc x => procOk proc && operandOk x
  | .cmdSqTail _ _ w => w.packets.all (fun b => b.length == 64 && b.all (fun x => decide (x < 256)))
  | .vfQuiesceComplete vf | .vfFlr vf | .vfFlrComplete vf | .vfStarted vf => vfNoOk vf

end Sys2Proof.WellFormed
end

