-- ==== Sys2Proof/Tests/Slice0.lean ====
section
/-! SUPPORT. Tests: ill-formed commands that well-formedness refuses, worked examples of the spec, and for every statement of
the certificates states and commands that meet the hypotheses of each of its clauses. The expected results come from the spec;
no test takes more than one step. -/
namespace Sys2Proof.Tests

open Machine Safety

/-- A packet of the command runs on the state, and the accepted state meets the condition. -/
def meets (i : Instr) (c : State → Bool) (s : State) : Bool :=
  match packetOf i with
  | some p => runs p s && c (afterAccept p s)
  | none => false

/-- A CONFIG-kind command goes, and the accepted state meets the condition. -/
def meetsCfg (i : Instr) (c : State → Bool) (s : State) : Bool :=
  match packetOf i with
  | some p => goesConfig p s && c (afterAccept p s)
  | none => false

/-- The state meets the condition. -/
def given (_ : Instr) (c : State → Bool) (s : State) : Bool := c s

/-- A header of the PF's queue pair 0. -/
def hd : Hdr := ⟨0, 0, 7, false, false, false, 0, 0, 0⟩

/-- The PF's queue pair 0, with the rings of reset depth. -/
def qp0 : Qp := { sqLog2 := 4, cqLog2 := 4, vector := 0, coalCount := 0, coalTime := 0, sqBase := 0, cqBase := 0 }

/-- The module runs and is restored, and the PF's queue pair 0 is enabled. -/
def ready : State :=
  let r := State.reset
  { r with
    pwr := { r.pwr with phase := .running, restored := true }
    cmd := { r.cmd with ready := true, aq := [(0, { en := true })], qps := [((0, 0), qp0)] } }

/-- `ready` with another configuration. -/
def withC (f : Cfg → Cfg) : State := { ready with cfg := f ready.cfg }

/-- A volatile key under a mask of zeros. -/
def keyOf (type engine : Nat) (m : Bytes) : Key := newKey type engine false false m []
/-- A key of the image engine stands in slot 0. -/
def keyed : State := { ready with key.slots := [(0, { cur := some (keyOf 3 5 [4]) })] }
/-- A signature over a text by a key, with r and s 1. -/
def ones : Bytes := List.replicate 47 0 ++ [1] ++ List.replicate 47 0 ++ [1]
def signedBy (p : PubKey) (text : Bytes) : Signature := ⟨ones, p, text⟩
def signG (g : GraphImage) : GraphImage := { g with sign := signedBy (.point [4]) (graphBytes g) }
def signL (g : LogicImage) : LogicImage := { g with sign := signedBy (.point [4]) (logicBytes g) }

/-- One ABSF node, and one SIG_WRITE node that writes signal 7. -/
def absNode : NodeRec := ⟨0x0905, 0, false, false, false, 1000, 1, 1, 0, 0, 0, 128, 6, [⟨3, 0, 0⟩], [[]], true⟩
def wrNode : NodeRec := ⟨0x0A01, 0, false, false, false, 1000, 1, 1, 0, 0, 0, 128, 30, [⟨3, 0, 0⟩], [[7, 0, 0, 0]], true⟩
/-- An image of 352 bytes with one node. -/
def image (n : NodeRec) : GraphImage := signG ⟨0x4652475A, 1, 0, 1, 511, 1, 1, 0, 352, 64, 136, 8, 144, [n], [], default⟩
/-- An empty image of a logic task: one END. -/
def lgcImage : LogicImage :=
  signL ⟨0x43474C5A, 1, 0, 63, 1, [0x02000000#32], [], [], [], 0, [], 64, 64, 64, 64, 64, 168, [], default, true⟩
/-- Two VFs are enabled by the host; VF 1 is RESETTING. -/
def vfs : State :=
  { ready with
    vfn.vfEnable := true
    vfn.numVfs := 2
    vfn.vfs := [(0, { o := { obj := .on } }), (1, { admission := .resetting })] }
/-- `ready` with graph 511 of the PF in force. -/
def graphed : State := withC (fun c => { c with graphs := [(511, (0, image absNode))] })
def svCtx0 : SvContext := ⟨0, 2, 2 ^ 40, 0x4000, 1, 4800, 24, 1, 1, 15, 64, 0xFFFF, 100, 10, [1]⟩
/-- A strict header. -/
def hs : Hdr := { hd with strict := true }
/-- `ready` with task 63 of a processor defined. -/
def tasked : State := withC (fun c => { c with tasks := [(63, lgcImage)] })
def looped : State := withC (fun c => { c with loop := some ⟨4800, 0, 0, 0, 0, 50, 0, 1, coefReset⟩ })
def book : StepBook := ⟨2, 0, 0, 1⟩
def sKey : Key := keyOf 0 0 []
/-- Slot 255 holds a verified PENDING key. -/
def pendKey : State := { ready with key.slots := [(255, { pending := some sKey, verified := true })] }
/-- The header of a key blob. -/
def head0 : BlobHead := ⟨0x4C424B5A, 1, 0, 0, false, false, 0xFFFF, 32, []⟩
def blob0 : KeyBlob := ⟨head0, [], ⟨[], [], [], []⟩, {}⟩
/-- VF 0 is ON and in admission state `a`. -/
def vfIn (a : Admit) : State := { vfs with vfn.vfs := [(0, { o := { obj := .on }, admission := a })] }
def cal (y mo d h mi s : Nat) : Calendar := ⟨y, mo, d, h, mi, s, 0⟩
/-- `ready` with port 31 as given. -/
def portIs (x : PortSt) : State := { ready with net.ports := [(31, x)] }
def onPort : PortSt := { o := { obj := .on } }
/-- A copy queued to port 31 in class 7. -/
def copy0 : Copy := ⟨0, 7, 3, 7, ⟨0, 64, none, false, false, .other, none⟩⟩
def frame0 : Frame := { da := 0x0180C2000000, sa := 1, tag := none, len := 64, fcsOk := true, prp := none, body := .other }
/-- A stream's frame and a GOOSE frame that pass every check. -/
def svf : SvFrame := ⟨true, 2 ^ 40, 0x4000, 1, true, false, 100, [⟨[1], 1, 2, 4799, 192, [], []⟩]⟩
def gsCtx0 : GsContext := ⟨31, 1, 2 ^ 40, 5, 1, 0xFFFFFFFF, 1000, 0xFFFF, 1, [1], [2], [⟨0, 0xFF, 0, 9⟩]⟩
def gsf : GooseFrame := ⟨true, 2 ^ 40, 5, [1], [2], 1, 1, false, true, false, 1, 0, 1000, 0, 0, [.boolean true], 100⟩
/-- Stream 8191 as given. -/
def streamIs (x : StreamSt) : State :=
  { ready with cfg := { ready.cfg with streams := [(8191, svCtx0)] }, svi := { ready.svi with streams := [(8191, x)] } }
def onStr : StreamSt := { o := { obj := .on } }
/-- One copy stands in the queue of a consumer of die 7, in a chain that has failed parity. -/
def spoiled (dest : Nat) (b : Body) : State :=
  { ready with swc := { ready.swc with
      copies := [⟨0, 7, dest, 0, ⟨0, 64, none, false, false, b, none⟩⟩], chains := [⟨0, 7, 1, none, true⟩] } }
/-- The stream verifies its frames with a key that stands in slot 9, or with the key of slot 9 where none stands. -/
def svAuth : SvContext := { svCtx0 with keySlot := 9 }
def authStr (k : Option Key) : State :=
  { ready with
    cfg.streams := [(8191, svAuth)]
    svi.streams := [(8191, { o := { obj := .on } })]
    key.slots := [(9, { cur := k })] }
def rel0 : Released := ⟨1, [], [], ⟨0, 0, 0⟩, true⟩
def svpCtx0 : SvpContext := ⟨31, 1, 2 ^ 40, 0x7FFF, 4094, 7, 1, 4000, 8, 1000, [1], [⟨0, 0⟩]⟩
def svpIs (x : SvpSt) : State :=
  { ready with cfg := { ready.cfg with svp := [(2047, svpCtx0)] }, sig := { ready.sig with svp := [(2047, x)] } }
def gpIs (x : GpSt) : State :=
  { ready with cfg := { ready.cfg with gp := [(8191, default)] }, sig := { ready.sig with gp := [(8191, x)] } }
def gsIs (x : GsSt) : State :=
  { ready with cfg := { ready.cfg with gs := [(32767, gsCtx0)] }, sig := { ready.sig with gs := [(32767, x)] } }
def win0 : Window := ⟨0x0A03, 1, 0, 7, default, 0⟩
/-- A SCALE node of chain 0 whose graph and group are ON. -/
def scaleNode : NodeRec := ⟨0x0900, 0, false, false, false, 1000, 1, 1, 0, 0, 0, 128, 10, [⟨0, 0, 0⟩], [List.replicate 8 0], true⟩
def running : State :=
  { ready with
    cfg := { ready.cfg with graphs := [(511, (0, image scaleNode))], streams := [(0, svCtx0)], chains := [(0, ⟨0, 0, 0, 1, 1, 0, 0, 1, 0, 0⟩)] }
    grf := { ready.grf with graphs := [(511, { o := { obj := .on }, groups := [(0, { obj := .on })] })] } }
def fir0 : Firing := ⟨0, 1, [], false, 0, 0, none⟩
def ent0 : Entry := ⟨0, 1, [none], false, false, false, 0, false⟩
def cout : ChainOut := ⟨0, 1, 1, 5, 0, none, ⟨0, 0, 0⟩⟩
def serves (f : Firing) : State := { running with grf := { running.grf with service := [f] } }
def mig0 : Mig := ⟨0, ⟨7, 3, 0⟩, 0, 0, some 0, false, none, false, none⟩
def migWait : Mig := ⟨0, ⟨7, 3, 0⟩, 0, 0, none, true, some 0, false, none⟩
def bist0 : Bist := ⟨255, 0, [], false⟩
def withBist (b : Bist) : State := { ready with plm.bist := [(7, b)] }
/-- Task 63 stands on die 7, region 3, and consolidation is on. -/
def consol : State := { tasked with cfg.consolidate := 1, plm.taskLoc := [(63, ⟨7, 3, 0⟩)] }
/-- The loop is ON with a signal for its input; with a node that has not fired. -/
def sigLoop : LoopParams := ⟨4800, 1, 0, 0, 0, 50, 0, 1, coefReset⟩
def nodeLoop : LoopParams := { sigLoop with inputKind := 0 }
def loopOn (p : LoopParams) : State := { ready with cfg.loop := some p, lop.o.obj := .on }
/-- The key of the arbiter stands in slot 255. -/
def armed : State :=
  { ready with cfg.pair.arbSlot := 255, key.slots := [(255, { cur := some (keyOf 1 2 []) })] }
def paired_ (x : PState) : State := { ready with pair.state := x }
/-- Lane 15 is as given, the LEASH key stands in slot 255, and the pair is in a state. -/
def leashed (l : LaneSt) (x : PState) : State :=
  { ready with
    cfg.pair.leashSlot := 255
    key.slots := [(255, { cur := some (keyOf 0 2 []) })]
    pair.state := x
    pair.lanes := [(15, l)] }
def laneUp : LaneSt := { up := true }
/-- A good frame's link header on lane 15. -/
def link : LeashHdr := ⟨15, 0, 0, true, none⟩
def vf0 (o : ObjSt) (a : Admit) (q : Option StepBook) : State :=
  { vfs with vfn.vfs := [(0, { o, admission := a, quiesceCmd := q })] }
def rolled (k : Key) : State := { ready with key.slots := [(255, { rolled := some (k, 0) })] }
def waitingOff : State := { State.reset with pwr.phase := .waiting }
/-! ### Well-formedness refuses: one ill-formed command for each check -/

theorem test_wf_good : WellFormed.ok (.nop hd) = true := by decide
theorem test_wf_func : WellFormed.ok (.nop { hd with func := 257 }) = false := by decide
theorem test_wf_qp : WellFormed.ok (.nop { hd with qp := 16 }) = false := by decide
theorem test_wf_vf_qp : WellFormed.ok (.nop { hd with func := 1, qp := 2 }) = false := by decide
theorem test_wf_tag : WellFormed.ok (.nop { hd with tag := 2 ^ 32 }) = false := by decide
theorem test_wf_expgen : WellFormed.ok (.nop { hd with expGen := 2 ^ 64 }) = false := by decide
theorem test_wf_block : WellFormed.ok (.nop { hd with pblkLen := 65 }) = false := by decide
theorem test_wf_block_long : WellFormed.ok (.nop { hd with pblkLen := 1048640 }) = false := by decide
theorem test_wf_node : WellFormed.ok (.mag 32768) = false := by decide
theorem test_wf_proc : WellFormed.ok (.lgcNop 32) = false := by decide
theorem test_wf_operand : WellFormed.ok (.lgcLd 0 (2 ^ 25)) = false := by decide
theorem test_wf_port : WellFormed.ok (.linkClear 256) = false := by decide
theorem test_wf_die : WellFormed.ok (.clusterBist 256) = false := by decide
theorem test_wf_stream : WellFormed.ok (.instantDue 65536) = false := by decide
theorem test_wf_vf : WellFormed.ok (.vfFlr 65536) = false := by decide

/-! ### Worked examples of the spec -/

/-- 12 Table LGC-7: the words of task 9's program. -/
theorem test_lgc7_words :
    ([0x05000031#32, 0x09000032#32, 0x31000033#32, 0x0D000034#32, 0x3A000000#32, 0x33000040#32, 0x35000041#32, 0x0B000042#32,
      0x21000050#32, 0x54000004#32, 0x02000000#32].map decodeLogic)
      = [some (.ld, 0x1000031), some (.and_, 0x1000032), some (.andParen, 0x1000033), some (.or_, 0x1000034), some (.close, 0),
         some (.andnParen, 0x1000040), some (.orParen, 0x1000041), some (.andn, 0x1000042), some (.st, 0x1000050), some (.tp, 4),
         some (.end_, 0)] := by decide +kernel

/-- A working image of a scan. -/
def signalsAre (l : List (Nat × Bool)) : Scan :=
  { (default : Scan) with image := l.map (fun e => (e.1, ⟨if e.2 then 1 else 0, 0, ⟨0, 0, 0⟩⟩)) }
/-- ACC after each instruction. -/
def accs : List (LogicOp × Nat) → Scan → List Bool
  | [], _ => []
  | (op, x) :: l, sc => let r := (runOp State.reset op x sc {}).1; r.acc :: accs l r

/-- 12 Table LGC-7: ACC after the instructions at PC 0 to 9, and the stack is empty again. -/
theorem test_lgc7_trace :
    accs [(.ld, 1), (.and_, 2), (.andParen, 3), (.or_, 4), (.close, 0), (.andnParen, 5), (.orParen, 6), (.andn, 7), (.close, 0),
      (.close, 0)] (signalsAre [(1, true), (2, true), (3, false), (4, true), (5, true), (6, true), (7, false)])
      = [true, true, false, true, true, false, true, true, true, true] := by decide +kernel

/-- 10 Table OPL-13: DIFF_BIAS for the external and for the internal fault: OP, OPH, ID and IR. -/
def diffBias (z5 : Int) : List Int :=
  (opDiffBias ⟨[0x43960000, 0x3E99999A, 0x453B8000, 0x3F333333, 0x469C4000, 0x3F800000, 0x3F800000, 0x3F800000, 0x3F800000, 0x3F800000],
    [0x45DAC000, 0, 0x43C80000, 0, 0x43C80000, 0, z5, 0, 0x43C80000, 0], 0, 0, ⟨0, 0, 0⟩, {}, ⟨.f, 0, 0⟩, (0, 0, 0)⟩).outs.map (·.2.1)
theorem test_diff_bias_external : diffBias 0xC5E74000 = [0, 0, 0x44480000, 0x45F3C000] := by decide +kernel
theorem test_diff_bias_internal : diffBias 0x43C80000 = [1, 0, 0x46066000, 0x45866000] := by decide +kernel

/-- 13 Table LOP-3: channel 0 with K0 12.5 and channel 1 with K1 10.0, at samples 1, 2 and 228. -/
def rampOuts (y : F32) : List Int :=
  ((loopOuts { State.reset.lop with coef := (coefReset.set 21 0x41480000#32).set 22 0x41200000#32 } y 0 false).map (·.1)).take 2
theorem test_loop_sample_1 : rampOuts 0x3F800000#32 = [12, 10] := by decide +kernel
theorem test_loop_sample_2 : rampOuts 0x40000000#32 = [25, 20] := by decide +kernel
theorem test_loop_sample_228 : rampOuts 0x4363FFD9#32 = [2850, 2280] := by decide +kernel

/-- 00: location 5:2:6 is cluster 182 of the package. -/
theorem test_cluster_number : clusterNo ⟨5, 2, 6⟩ = 182 := by decide
/-- 01: traffic from die 3 to die 5 runs over two hops, from die 3 to die 4 over one. -/
theorem test_hops : (hops .zv8 3 5, hops .zv8 3 4) = (2, 1) := by decide +kernel
/-- 00 R19 and 01 R53: instant 8,160,000,001,203 lies in cycle 200 of its second, at 0.250625 s; that cycle starts at 0.25 s and its
first instant is 8,160,000,001,200. The cycle number is the example's own product, 1,700,000,000 × 800 + 200. -/
theorem test_instant_time : instantTime 4800 8160000001203 = ⟨1700000000, 250625000, 0⟩ := by decide +kernel
theorem test_instant_cycle : cycleOf 1440 (instantTime 4800 8160000001203) = 1360000000200 := by decide +kernel
theorem test_cycle_start : boundaryTime 1440 1360000000200 = ⟨1700000000, 250000000, 0⟩ := by decide +kernel
theorem test_cycle_first : instantFrom 4800 (boundaryTime 1440 1360000000200) = 8160000001200 := by decide +kernel
/-- 07 R214: the coefficients of K 2, M 4 and of K 4, M 2. -/
theorem test_stage_k2_m4 : stageCoef 4 2 = [1, 2, 3, 4, 3, 2, 1] := by decide +kernel
theorem test_stage_k4_m2 : stageCoef 2 4 = [1, 4, 6, 4, 1] := by decide +kernel
/-- 15 Table VFN-3: capacity and floor of FXU time with four VFs, FRACTION 500 and PLACE_LIMIT 700. -/
theorem test_vfn3 : (capacity State.reset 0, floorFor State.reset 500 4 0) = (2293760000000, 286720000000) := by decide +kernel
/-- 18 R541: 2000 is a leap year, 2100 and 2023 are not. -/
theorem test_leap_years : (dateValid (cal 2000 2 29 0 0 0), dateValid (cal 2100 2 29 0 0 0), dateValid (cal 2023 2 29 0 0 0))
    = (true, false, false) := by decide +kernel
/-- 18 R543: the second after an inserted second 60 opens the next day. -/
theorem test_leap_second_ends : calAdvance (cal 2016 12 31 23 59 60) 32768 = cal 2017 1 1 0 0 0 := by decide +kernel


/-- ObjectStatesMove: the six rows of Table GRF-6 are six states. -/
theorem test_meets_objectStatesMove : ([⟨.off, false, false⟩, ⟨.starting, false, false⟩, ⟨.starting, true, false⟩, ⟨.on, false, false⟩,
    ⟨.draining, false, false⟩, ⟨.draining, false, true⟩] : List ObjSt).Nodup := by decide

/-! ### Hypotheses about full tables -/

/-- `ready` with these handles of the action table booked. -/
def booked (l : List Nat) : State := { ready with grf.sched := l.map (fun n => (n, default)) }
theorem firstFrom_none (p : Nat → Bool) : ∀ n k, (∀ i, k ≤ i → i < k + n → p i = false) → firstFrom p n k = none := by
  intro n
  induction n with
  | zero => intro k _; rfl
  | succ n ih =>
    intro k h
    rw [firstFrom, h k (by omega) (by omega)]
    exact ih (k + 1) (fun i h1 h2 => h i (by omega) (by omega))
theorem thas_map (d : SchedEntry) (i : Nat) : ∀ l : List Nat, i ∈ l → thas (l.map (fun k => (k, d))) i = true := by
  intro l
  induction l with
  | nil => intro h; cases h
  | cons x l ih =>
    intro h
    rw [List.map_cons, thas, tget]
    split
    · rfl
    · rename_i e
      exact ih ((List.mem_cons.mp h).resolve_left (fun h => e h.symm))
theorem booked_full (n : Nat) : firstFrom (fun h => !thas (booked (List.range n)).grf.sched h) n 0 = none :=
  firstFrom_none _ _ _ (fun i _ h => by
    rw [Nat.zero_add] at h
    show (!thas ((List.range n).map (fun k => (k, default))) i) = false
    rw [thas_map default i _ (List.mem_range.mpr h)]; rfl)
theorem booked_meets (l : List Nat) : meets (.schedule hd ⟨0, 10000, 4, 31, 1, 0⟩)
    (fun a => decide (4 ≠ 5) && (freeHandle a).isNone) (booked l) = (freeHandle (booked l)).isNone := rfl
/-- ScheduleActionsAct: no handle is free. -/
theorem test_meets_schedule_full : meets (.schedule hd ⟨0, 10000, 4, 31, 1, 0⟩)
    (fun a => decide (4 ≠ 5) && (freeHandle a).isNone) (booked (List.range schedCap)) = true :=
  (booked_meets _).trans (congrArg Option.isNone (booked_full schedCap))

/-- `ready` with these records in the staging buffer of the recorder. -/
def loaded (l : List EvRec) : State := { ready with evr.staging := l }
theorem loaded_meets (l : List EvRec) :
    meets (.evrMark hd 1 2 3) stageFull (loaded l) = decide (stageCap < l.length) := rfl
theorem loaded_full (n : Nat) : decide (n < (List.replicate (n + 1) (default : EvRec)).length) = true := by simp
/-- EventActionsAct and RecorderRowsAct: the buffer is full. -/
theorem test_meets_stage_full : meets (.evrMark hd 1 2 3) stageFull (loaded (List.replicate (stageCap + 1) default)) = true :=
  (loaded_meets _).trans (loaded_full stageCap)

/-- `ready` with these signals forced. -/
def forcing (l : List Nat) : State := { ready with sig.forces := l.map (fun n => (n, 0, 0)) }
/-- SIG_FORCE of the first signal over the capacity. -/
def oneMore : Packet := sigForcePacket hd ⟨forceCap, 0, 0, 0⟩
theorem forcing_runs (l : List Nat) : runs oneMore (forcing l) = true := by
  have e : runs oneMore (forcing l) = runs oneMore ready := rfl
  rw [e]; decide +kernel
theorem forcing_projected (l : List Nat) :
    projectedForces (afterAccept oneMore (forcing l)) = (forcing l).sig.forces.map (·.1) := by
  have e : (afterAccept oneMore (forcing l)).sig = (forcing l).sig := by
    have j : journalled oneMore.opcode oneMore.h = true := by decide +kernel
    rw [afterAccept, if_pos j]; rfl
  rw [projectedForces, e]; rfl
theorem forced_full (n : Nat) : (!((forcing (List.range n)).sig.forces.map (·.1)).contains n
    && decide (n ≤ ((forcing (List.range n)).sig.forces.map (·.1)).length)) = true := by
  have e : ∀ l, (forcing l).sig.forces.map (·.1) = l := fun l => by
    show (l.map (fun n => (n, (0 : BitVec 128), 0))).map (·.1) = l
    simp [Function.comp_def]
  simp [e]
/-- SignalActionsAct: no force more can be held. -/
theorem test_meets_forces_full :
    meets (.sigForce hd ⟨forceCap, 0, 0, 0⟩) (fun a => !(projectedForces a).contains forceCap
      && decide (forceCap ≤ (projectedForces a).length)) (forcing (List.range forceCap)) = true := by
  show (runs oneMore (forcing (List.range forceCap))
    && (!(projectedForces (afterAccept oneMore (forcing (List.range forceCap)))).contains forceCap
      && decide (forceCap ≤ (projectedForces (afterAccept oneMore (forcing (List.range forceCap)))).length))) = true
  rw [forcing_runs, forcing_projected, forced_full]; rfl

/-- TimeRowsAct: an announce of a worse master, where the dataset comparison of the cited standard says so. -/
theorem test_meets_announce_worse (m : AnnounceMsg) (h : m = { (default : AnnounceMsg) with gm := 1 })
    (hb : Config.bmcaBetter m.dataset [] = false) :
    (fun s : State => decide ((lanSt s m.lan).gm ≠ some m.gm) && lanSelected (lanSt s m.lan)
      && !Config.bmcaBetter m.dataset (lanSt s m.lan).dataset) { ready with tim.lanA.gm := some 0, tim.lanA.annRunning := true } = true := by
  subst h
  show (true && true && !Config.bmcaBetter [] []) = true
  have hb' : Config.bmcaBetter [] [] = false := hb
  rw [hb']; rfl

/-- A group address that is not the factory address, whatever that is. -/
def groupMac : Nat := if Config.factoryMac = 2 ^ 40 then 2 ^ 41 + 2 ^ 40 else 2 ^ 40
/-- SwitchRowsAct: the static entry of a frame's address fails parity. -/
theorem test_meets_static_parity :
    let f : Frame := { frame0 with da := groupMac }
    let s : State := { portIs onPort with cfg := { ready.cfg with mcast := [((7, 0), ⟨1, groupMac, 1, 0, 0⟩)] } }
    f.da / 16 ≠ 0x0180C200000 ∧ f.da ≠ Config.factoryMac
      ∧ (hasPort s 31 && decide ((portSt s 31).o.obj = .on ∧ f.fault = .none)
        && staticFind (rxCounts 31 f s) 7 f.da (classVid s 31 f).2 == some (0, ⟨1, groupMac, 1, 0, 0⟩)) = true := by
  by_cases h : Config.factoryMac = 2 ^ 40
  · have e : groupMac = 2 ^ 41 + 2 ^ 40 := if_pos h
    rw [e, h]; exact ⟨by decide, by decide, by decide +kernel⟩
  · have e : groupMac = 2 ^ 40 := if_neg h
    rw [e]; exact ⟨by decide, Ne.symm h, by decide +kernel⟩

/-! ### Hypotheses about firings and scans -/

/-- The opcodes of the library. -/
def library : List Nat :=
  [0x0100, 0x0101, 0x0102, 0x0200, 0x0201, 0x0202, 0x0203, 0x0204, 0x0205, 0x0206, 0x0207, 0x0300, 0x0301, 0x0302, 0x0303, 0x0304,
   0x0400, 0x0401, 0x0500, 0x0501, 0x0600, 0x0601, 0x0602, 0x0603, 0x0700, 0x0701, 0x0702, 0x0800, 0x0801, 0x0802, 0x0803, 0x0804,
   0x0805, 0x0806, 0x0900, 0x0901, 0x0902, 0x0903, 0x0904, 0x0905, 0x0906, 0x0907, 0x0908, 0x0A00, 0x0A01]
/-- Node 0 is of the operator and has a firing in service. -/
def firing (op : Nat) (f : Firing) : State :=
  { serves f with cfg := { ready.cfg with graphs := [(511, (0, image { scaleNode with operator := op }))] } }
/-- OperatorRowsFire: for each operator a node of it with a firing without a result; one with a result; a node with nothing in
service; and a node of another operator. -/
theorem test_meets_operatorRowsFire : library.all (fun op =>
    (opRow op).isSome && serviceOf (firing op fir0) 0 == some fir0
      && nodeAt (firing op fir0) 0 == some (511, { scaleNode with operator := op })
      && serviceOf (firing op { fir0 with result := some ([], {}) }) 0 == some { fir0 with result := some ([], {}) }
      && (serviceOf running 0).isNone
      && (nodeAt (firing 0 fir0) 0).any (fun r => r.2.operator != op)) = true := by decide +kernel

/-- The words of every logic instruction, with the greatest OPERAND where it has one. -/
def everyWord : List (BitVec 32) :=
  ((List.range 128).filterMap logicOp).map (fun op => encodeLogic op (if logicKind op = .none then 0 else 33554431))
/-- A scan of task 63, whose one word is given, on processor 31. -/
def scanning (w : BitVec 32) : State :=
  { ready with cfg.tasks := [(63, { lgcImage with instr := [w] })], lgc.scans := [(31, { (default : Scan) with task := 63 })] }
/-- ScanRowsAct: each instruction at PC of a scan in progress, another instruction at PC, and no scan. -/
theorem test_meets_scanRowsAct_words : everyWord.length = 59 ∧ everyWord.all (fun w =>
    scanOf (scanning w) 31 == some { (default : Scan) with task := 63 }
      && (decodeLogic w).isSome && fetchLogic (scanning w) { (default : Scan) with task := 63 } == decodeLogic w
      && fetchLogic (scanning 0x00000001#32) { (default : Scan) with task := 63 } != decodeLogic w
      && (scanOf (scanning w) 30).isNone) = true := by decide +kernel

/-! ### Hypotheses of the general statements -/

theorem test_meets_idleStepCountsRaw : ready.pending = [] ∧ ready.pwr.phase = .running
    ∧ State.reset.pending = [] ∧ State.reset.pwr.phase = .reset := by decide +kernel
theorem test_meets_numbersNeverGoBack : ∃ t, step ready = .next t := ⟨_, rfl⟩

/-- A header with GENCHK and a wrong generation. -/
def hg : Hdr := { hd with genchk := true, expGen := 1 }
/-- What `f` says of the packet of a command. -/
def ofPacket (i : Instr) (f : Packet → Bool) : Bool := match packetOf i with | some p => f p | none => false
theorem test_meets_generationIsChecked : ofPacket (.acceptPath hg 0) (fun p =>
    servable p.h ready && !p.unsupported (taken p.h ready)
      && !((p.pfOnly && decide (p.h.func ≠ 0)) || p.denied (taken p.h ready))
      && !((ready.key.restricted && !(isRead p.opcode || p.restrictedOk)) || (ready.key.tripped && p.needsKey (taken p.h ready)))
      && p.h.genchk && decide (p.h.expGen ≠ ready.cmd.gen) && !isResume (.acceptPath hg 0)
      && acceptCheck p ready == some stGenMismatch) = true := by decide +kernel
theorem test_meets_generationIsChecked_quiet (s : State) (x : Tbl Nat (List Staged)) :
    (acceptPathPacket hg 0).unsupported { s with cmd := { s.cmd with staging := x } } = (acceptPathPacket hg 0).unsupported s
    ∧ (acceptPathPacket hg 0).denied { s with cmd := { s.cmd with staging := x } } = (acceptPathPacket hg 0).denied s
    ∧ (acceptPathPacket hg 0).needsKey { s with cmd := { s.cmd with staging := x } } = (acceptPathPacket hg 0).needsKey s :=
  ⟨rfl, rfl, rfl⟩
/-- RefusalsAreNotAccepted: one packet for each of the five checks, and one that passes them. -/
theorem test_meets_refusalsAreNotAccepted :
    let check := fun i s => ofPacket i (fun p => servable p.h s && !isResume i && acceptCheck p (taken p.h s) == some stNotSupported)
    check (.netPortStatus hd 32) ready = true
    ∧ ofPacket (.acceptPath { hd with func := 1 } 0) (fun p => acceptCheck p vfs == some stDenied) = true
    ∧ ofPacket (.sysCycleSet hd 288) (fun p => acceptCheck p { ready with key.restricted := true } == some stTamper) = true
    ∧ ofPacket (.acceptPath hg 0) (fun p => acceptCheck p ready == some stGenMismatch) = true
    ∧ ofPacket (.acceptPath { hd with pblkLen := 64 } 0) (fun p => acceptCheck p { ready with vfn.cells := [(0, 2 ^ 32)] } == some stQueueFull) = true
    ∧ ofPacket (.acceptPath hd 0) (fun p => (acceptCheck p ready).isNone) = true := by decide +kernel
theorem test_meets_failuresChangeNothing :
    ofPacket (.acceptPath hd 2) (fun p => !isResume (.acceptPath hd 2) && goes p ready && !p.failActs
      && (match runEff p (jseqOf p ready) (afterAccept p ready) with | .done st _ _ => decide (0x10 ≤ st) | .wait _ => false)) = true
    ∧ (let s := { ready with vfn.vfs := [(0, { grants := [0, 0, 16383, 0] })] }
      ofPacket (.sysCycleSet hd 288) (fun p => goes p s && isConfig p.opcode && p.noRoom (afterAccept p s))) = true
    ∧ ofPacket (.keyLoad hd 0 blob0) (·.failActs) = true := by decide +kernel
theorem test_meets_readsChangeNothing : ofPacket (.nop hd) (fun p => isRead p.opcode) = true := by decide +kernel
theorem test_meets_configOnlyStages : ofPacket (.sysCycleSet hd 288) (fun p => isConfig p.opcode) = true := by decide +kernel
/-- CompletionIsPosted: another pair has a command that waits; this pair is the PF's pair 0. -/
theorem test_meets_completionIsPosted :
    let o : Outst := { (default : Outst) with qp := 15 }
    let s := { ready with cmd.outst := [o] }
    tget s.cmd.qps (0, 0) = some qp0 ∧ ∀ o ∈ s.cmd.outst, o.done = none ∧ (o.func, o.qp) ≠ (0, 0) := by decide +kernel
theorem test_meets_completionsKeepRingOrder :
    let a : Outst := { (default : Outst) with jseq := 1 }
    let b : Outst := { (default : Outst) with jseq := 2 }
    let s := { ready with cmd.outst := [a, b] }
    s.cmd.outst = [a, b] ∧ a.done = none ∧ b.done = none ∧ (a.func, a.qp) = (b.func, b.qp) ∧ a.jseq ≠ b.jseq
      ∧ tget s.cmd.qps (a.func, a.qp) = some qp0 := by decide +kernel
theorem test_meets_journalHoldsEachCommand : journalled 0x0142 hd = true ∧ journalled 0x0080 { hd with nojournal := true } = false := by
  decide +kernel
theorem test_meets_logicDecodeUndoesEncode : (33554431 < 33554432) ∧ logicKind .ld ≠ .none ∧ logicKind .end_ = .none := by decide
theorem test_meets_logicFieldsStandInPlace : (decodeLogic 0x05FFFFFF#32).isSome = true ∧ decodeLogic 0x03000000#32 = none
    ∧ decodeLogic 0xFFFFFFFF#32 = none := by decide +kernel
/-- CountersCountEdges: CV at each end of its range. -/
theorem test_meets_countersCountEdges :
    let t : LTables := { counters := [{ pv := 1, retain := false, cv := 2147483647 }, { pv := 1, retain := false, cv := -2147483648 }] }
    (t.counters[0]?.map (·.cv)) = some 2147483647 ∧ (t.counters[1]?.map (·.cv)) = some (-2147483648) := by decide +kernel
theorem test_meets_storesWriteTheImage :
    let sc : Scan := { signalsAre [(1, true)] with acc := false }
    (signalsAre []).acc = true ∧ sc.acc = false ∧ LogicOp.ld ∉ [LogicOp.st, .stn, .set, .rst, .stw, .stwc]
      ∧ (tget sc.image 1).isSome = true ∧ tget sc.image 2 = none := by decide +kernel
/-- OperatorOutputsAreFinite: ABSF has an F output. -/
theorem test_meets_operatorOutputsAreFinite : ((opRow 0x0905).bind (fun row =>
    (operate 0x0905 row opAbsf [] ⟨0, 0, 0⟩ false false {} [⟨.f, 0xC0000000, 0⟩]).1[0]?)).map (fun v => (v.type, v.bits))
      = some (.f, 0x40000000) := by decide +kernel

/-- A mirror without pages ends: the CRC is that of what has come, whatever its payload bytes are. -/
def endState : State := { leashed laneUp .standby with pair.lastMirrorCycle := 6 }
def endCrc : U64 := payloadCrc (mirrorIn (mirrorOf endState 7))
theorem test_meets_leashEnd : (leashGood link endState && decide (endState.pair.epoch ≤ link.epoch ∧ endState.pair.state = .standby)
    && !endState.pair.mirrorLost && !(mirrorOf endState 7).ended && (mirrorOf endState 7).counts == (0, 0, 0)
    && endCrc == payloadCrc (mirrorIn (mirrorOf endState 7))) = true := by
  have h : (endCrc == payloadCrc (mirrorIn (mirrorOf endState 7))) = true := beq_self_eq_true _
  rw [h]; decide +kernel

/-! ### Hypotheses about texts whose bytes no proof sees -/

/-- KeyActionsAct: a blob that opens under the key that its header names. -/
def blobGood : KeyBlob :=
  { blob0 with box := ⟨wrapperKey ready 0xFFFF (blobHeadBytes head0), [], blobAad (blobHeadBytes head0) [], List.replicate 32 7⟩ }
theorem sealOpens_made (key nonce aad text : Bytes) (n : Nat) (h : text.length = n) :
    sealOpens ⟨key, nonce, aad, text⟩ key nonce aad n = true := by simp [sealOpens, h]
theorem test_meets_keyLoad : calm blobGood.run = true ∧ runs (keyLoadPacket hd 255 blobGood) ready = true
    ∧ (slotSt ready 255).booked.isNone = true ∧ (blobFault ready 255 blobGood).isNone = true := by
  refine ⟨by decide, by decide +kernel, by decide +kernel, ?_⟩
  have h : blobOpens ready blobGood = true := sealOpens_made _ _ _ _ _ (by decide)
  rw [blobFault, h]; decide +kernel
/-- KeyActionsAct: the latch is cleared by the recovery key and by the vendor's service key. -/
theorem signatureOk_made (p : PubKey) (text : Bytes) : signatureOk (signedBy p text) p text = true := by
  have h : (decide ((signedBy p text).bytes.length = 96) && inOrder (bigNat ((signedBy p text).bytes.take 48))
      && inOrder (bigNat ((signedBy p text).bytes.drop 48))) = true :=
    (by decide +kernel : (decide (ones.length = 96) && inOrder (bigNat (ones.take 48)) && inOrder (bigNat (ones.drop 48))) = true)
  rw [signatureOk, h]; simp [signedBy]
def recovering : State := { ready with key.recovery := some [4] }
theorem test_meets_keyTamperClear : let sg := signedBy (.point [4]) (clearText recovering)
    runs (keyTamperClearPacket hd 0 sg) recovering = true ∧ recovering.key.recovery = some [4]
      ∧ signatureOk sg (.point [4]) (clearText recovering) = true
      ∧ runs (keyTamperClearPacket hd 1 (signedBy .vendorService (clearText ready))) ready = true
      ∧ signatureOk (signedBy .vendorService (clearText ready)) .vendorService (clearText ready) = true :=
  ⟨by rw [show runs (keyTamperClearPacket hd 0 (signedBy (.point [4]) (clearText recovering))) recovering
        = runs (keyTamperClearPacket hd 0 default) recovering from rfl]; decide +kernel,
   rfl, signatureOk_made _ _,
   by rw [show runs (keyTamperClearPacket hd 1 (signedBy .vendorService (clearText ready))) ready
        = runs (keyTamperClearPacket hd 1 default) ready from rfl]; decide +kernel, signatureOk_made _ _⟩
/-- 19 R567: KENNEL's domain may go to RETAIN while the next re-mask is 100 ms away, and to IDLE only when it is 11 µs away. -/
theorem test_known_remask : chooseState keyed 0 11 none = 2
    ∧ chooseState { keyed with tim.raw := rawMs 100 - rawUs 11 } 0 11 none = 1 := by decide +kernel
/-! ### Hypotheses of the clauses of each statement -/

/-- The hypotheses of ConfigNetworkStages, clause by clause. -/
theorem test_meets_configNetworkStages : ([
    (fun h len (s : State) => meetsCfg (.sysCycleSet h len) (fun _ => decide (288 ≤ len ∧ len ≤ 11520 ∧ 1152000 % len =
     0)) s) hd 288 ready,
    (fun h len (s : State) => meets (.sysCycleSet h len) (fun a => !((fun _ => decide (288 ≤ len ∧ len ≤ 11520 ∧ 1152000 %
     len = 0))) a) s) hd 287 ready,
    (fun h p (s : State) => meetsCfg (.timPtpConfig h p) (fun _ => decide (p.profile ≤ 1 ∧ p.domain ≤ 255 ∧ p.portA / 4 =
     p.portB / 4 ∧ p.portA ≠ p.portB ∧ 2 ≤ p.annTimeout ∧ p.annTimeout ≤ 10)) s) hd ((⟨1, 255, 0, 1, 2⟩)) ready,
    (fun h p (s : State) => meets (.timPtpConfig h p) (fun a => !((fun _ => decide (p.profile ≤ 1 ∧ p.domain ≤ 255 ∧
     p.portA / 4 = p.portB / 4 ∧ p.portA ≠ p.portB ∧ 2 ≤ p.annTimeout ∧ p.annTimeout ≤ 10))) a) s) hd ((⟨1, 255, 0, 0, 2⟩))
     ready,
    (fun h p (s : State) => meetsCfg (.timAsymSet h p) (fun _ => decide ((p.mode ≤ 4 ∨ p.mode = 0xFF) ∧ p.ingress ≤
     1000000 ∧ p.egress ≤ 1000000 ∧ -1000000 ≤ p.cableAsym ∧ p.cableAsym ≤ 1000000)) s) hd ((⟨0, 0xFF, 1000000, 1000000,
     -1000000⟩)) ready,
    (fun h p (s : State) => meets (.timAsymSet h p) (fun a => !((fun _ => decide ((p.mode ≤ 4 ∨ p.mode = 0xFF) ∧ p.ingress
     ≤ 1000000 ∧ p.egress ≤ 1000000 ∧ -1000000 ≤ p.cableAsym ∧ p.cableAsym ≤ 1000000))) a) s) hd ((⟨0, 5, 0, 0, 0⟩)) ready,
    (fun h p (s : State) => meetsCfg (.timThreshSet h p) (fun _ => zeroOr p.pathStepThresh 20 10000 && zeroOr
     p.pathStepHold 1 3600 && zeroOr p.lockThresh 50 10000 && zeroOr p.slewMax 1 1000 && zeroOr p.stepLimit 1 1000000 &&
     zeroOr p.holdT1 60 86400 && zeroOr p.holdTemp 5 100 && f32Within 0x447A0000#32 p.holdK1 && f32Within 0x447A0000#32
     p.holdK2) s) hd ((⟨20, 1, 50, 1, 1, 60, 5, 0, 0⟩)) ready,
    (fun h p (s : State) => meets (.timThreshSet h p) (fun a => !((fun _ => zeroOr p.pathStepThresh 20 10000 && zeroOr
     p.pathStepHold 1 3600 && zeroOr p.lockThresh 50 10000 && zeroOr p.slewMax 1 1000 && zeroOr p.stepLimit 1 1000000 &&
     zeroOr p.holdT1 60 86400 && zeroOr p.holdTemp 5 100 && f32Within 0x447A0000#32 p.holdK1 && f32Within 0x447A0000#32
     p.holdK2)) a) s) hd ((⟨19, 1, 50, 1, 1, 60, 5, 0, 0⟩)) ready,
    (fun h port p (s : State) => meetsCfg (.netPortConfig h port p) (fun _ => decide (p.speed ≤ 1 ∧ p.fec ≤ 2 ∧ (p.partner
     = 0xFF ∨ p.partner / 4 = port / 4) ∧ p.lan ≤ 1 ∧ p.express ≤ 255 ∧ p.preempt ≤ 3 ∧ p.addFrag ≤ 3 ∧ 1 ≤ p.verifyTime ∧
     p.verifyTime ≤ 128 ∧ 1518 ≤ p.maxFrame ∧ p.maxFrame ≤ 9216 ∧ 100 ≤ p.pauseWdLimit ∧ p.pauseWdLimit ≤ 1000000 ∧ 1 ≤
     p.pauseWdHold ∧ p.pauseWdHold ≤ 60000 ∧ p.linkHold ≤ 1000000)) s) hd 31 (⟨1, 2, 0xFF, 1, 255, 3, 3, 128, 9216,
     1000000, 60000, 1000000⟩) ready,
    (fun h port p (s : State) => meets (.netPortConfig h port p) (fun a => !((fun _ => decide (p.speed ≤ 1 ∧ p.fec ≤ 2 ∧
     (p.partner = 0xFF ∨ p.partner / 4 = port / 4) ∧ p.lan ≤ 1 ∧ p.express ≤ 255 ∧ p.preempt ≤ 3 ∧ p.addFrag ≤ 3 ∧ 1 ≤
     p.verifyTime ∧ p.verifyTime ≤ 128 ∧ 1518 ≤ p.maxFrame ∧ p.maxFrame ≤ 9216 ∧ 100 ≤ p.pauseWdLimit ∧ p.pauseWdLimit ≤
     1000000 ∧ 1 ≤ p.pauseWdHold ∧ p.pauseWdHold ≤ 60000 ∧ p.linkHold ≤ 1000000))) a) s) hd 31 (⟨1, 2, 0xFF, 1, 255, 3, 3,
     129, 9216, 1000000, 60000, 1000000⟩) ready,
    (fun h mport p (s : State) => meetsCfg (.netMgmtConfig h mport p) (fun _ => decide (mport ≤ 1 ∧ p.enable ≤ 1 ∧ 1518 ≤
     p.maxFrame ∧ p.maxFrame ≤ 9216 ∧ p.linkHold ≤ 1000000)) s) hd 1 ((⟨1, 1518, 1000000⟩)) ready,
    (fun h mport p (s : State) => meets (.netMgmtConfig h mport p) (fun a => !((fun _ => decide (mport ≤ 1 ∧ p.enable ≤ 1
     ∧ 1518 ≤ p.maxFrame ∧ p.maxFrame ≤ 9216 ∧ p.linkHold ≤ 1000000))) a) s) hd 1 ((⟨1, 1517, 0⟩)) ready,
    (fun h p (s : State) => meetsCfg (.swcQueueConfig h p) (fun _ => decide (p.dest ≤ 7 ∧ 0 < p.classes ∧ p.classes ≤ 255
     ∧ p.min ≤ 4096 ∧ p.cap ≤ 65536)) s) hd ((⟨7, 7, 255, 4096, 65536⟩)) ready,
    (fun h p (s : State) => meets (.swcQueueConfig h p) (fun a => !((fun _ => decide (p.dest ≤ 7 ∧ 0 < p.classes ∧
     p.classes ≤ 255 ∧ p.min ≤ 4096 ∧ p.cap ≤ 65536))) a) s) hd ((⟨7, 7, 0, 4096, 65536⟩)) ready,
    (fun h die index e (s : State) => meetsCfg (.swcMcastSet h die index e) (fun _ => decide (index ≤ 16383 ∧ e.valid ≤ 1
     ∧ e.vid ≤ 4094 ∧ e.consumers ≤ 15)) s) hd default 16383 (⟨1, 0, 4094, 0, 15⟩) ready,
    (fun h die index e (s : State) => meets (.swcMcastSet h die index e) (fun a => !((fun _ => decide (index ≤ 16383 ∧
     e.valid ≤ 1 ∧ e.vid ≤ 4094 ∧ e.consumers ≤ 15))) a) s) hd default 16383 (⟨2, 0, 4094, 0, 15⟩) ready,
    (fun h port p (s : State) => meetsCfg (.swcPortFwd h port p) (fun _ => decide (p.defClass ≤ 7 ∧ 1 ≤ p.pvid ∧ p.pvid ≤
     4094 ∧ p.learn ≤ 1)) s) hd default ((⟨7, 4094, 1, 0⟩)) ready,
    (fun h port p (s : State) => meets (.swcPortFwd h port p) (fun a => !((fun _ => decide (p.defClass ≤ 7 ∧ 1 ≤ p.pvid ∧
     p.pvid ≤ 4094 ∧ p.learn ≤ 1))) a) s) hd default ((⟨7, 4095, 1, 0⟩)) ready,
    (fun h age ddAge (s : State) => meetsCfg (.swcAging h age ddAge) (fun _ => decide (10 ≤ age ∧ age ≤ 3600 ∧ 10 ≤ ddAge
     ∧ ddAge ≤ 1000)) s) hd 10 1000 ready,
    (fun h age ddAge (s : State) => meets (.swcAging h age ddAge) (fun a => !((fun _ => decide (10 ≤ age ∧ age ≤ 3600 ∧ 10
     ≤ ddAge ∧ ddAge ≤ 1000))) a) s) hd 9 1000 ready].all id) = true := by decide +kernel

/-- The hypotheses of ConfigSignalStages, clause by clause. -/
theorem test_meets_configSignalStages : ([
    (fun h stream c (s : State) => meetsCfg (.svSubscribe h stream c) (fun _ => decide (stream ≤ 8191) && svContextOk c)
     s) hd 8191 svCtx0 ready,
    (fun h stream c (s : State) => meets (.svSubscribe h stream c) (fun a => !((fun _ => decide (stream ≤ 8191) &&
     svContextOk c)) a) s) hd 8191 (({ svCtx0 with noch := 25 })) ready,
    (fun h stream (s : State) => meetsCfg (.svUnsubscribe h stream) (fun _ => decide (stream ≤ 8191)) s) hd 8191 ready,
    (fun h stream (s : State) => meets (.svUnsubscribe h stream) (fun a => !((fun _ => decide (stream ≤ 8191))) a) s) hd
     8192 ready,
    (fun h chain valid p (s : State) => meetsCfg (.fltChainSet h chain valid p) (fun _ => decide (chain ≤ 65535 ∧ valid ≤
     1) && (decide (p.stream ≤ 8191 ∧ p.pos ≤ 23 ∧ p.kind ≤ 2 ∧ p.priv ≤ 1 ∧ p.det ≤ 3 ∧ 1 ≤ p.detN ∧ p.detN ≤ 4096 ∧
     p.attackSh ≤ 20 ∧ p.decaySh ≤ 20) && [1, 2, 3, 4, 6, 8].contains p.fa && [1, 2, 4, 5].contains p.fb)) s) hd 65535 1
     (⟨8191, 23, 2, 8, 5, 1, 3, 4096, 20, 20⟩) ready,
    (fun h chain valid p (s : State) => meets (.fltChainSet h chain valid p) (fun a => !((fun _ => decide (chain ≤ 65535 ∧
     valid ≤ 1) && (decide (p.stream ≤ 8191 ∧ p.pos ≤ 23 ∧ p.kind ≤ 2 ∧ p.priv ≤ 1 ∧ p.det ≤ 3 ∧ 1 ≤ p.detN ∧ p.detN ≤ 4096
     ∧ p.attackSh ≤ 20 ∧ p.decaySh ≤ 20) && [1, 2, 3, 4, 6, 8].contains p.fa && [1, 2, 4, 5].contains p.fb))) a) s) hd
     65535 1 (⟨8191, 23, 2, 7, 5, 1, 3, 4096, 20, 20⟩) ready,
    (fun h pinEn pinClear (s : State) => meetsCfg (.fltHeelPin h pinEn pinClear) (fun _ => decide (pinEn ≤ 1 ∧ pinClear ≤
     1)) s) hd 1 1 ready,
    (fun h pinEn pinClear (s : State) => meets (.fltHeelPin h pinEn pinClear) (fun a => !((fun _ => decide (pinEn ≤ 1 ∧
     pinClear ≤ 1))) a) s) hd 1 2 ready,
    (fun h entries (s : State) => meetsCfg (.sigDefine h entries) (fun _ => decide (0 < entries.length ∧ entries.length ≤
     32768) && entries.all sigEntryOk) s) hd (([⟨2 ^ 25 - 1, true, ⟨4, 3, true, 1, 0⟩⟩])) ready,
    (fun h entries (s : State) => meets (.sigDefine h entries) (fun a => !((fun _ => decide (0 < entries.length ∧
     entries.length ≤ 32768) && entries.all sigEntryOk)) a) s) hd (([])) ready,
    (match packetOf (.sigDefine hd [⟨2 ^ 25 - 1, true, ⟨4, 3, true, 1, 0⟩⟩, ⟨0, false, ⟨0, 3, false, 2, 0⟩⟩]) with | some p => goesConfig p vfs | none => false)
     && ([⟨2 ^ 25 - 1, true, ⟨4, 3, true, 1, 0⟩⟩, ⟨0, false, ⟨0, 3, false, 2, 0⟩⟩] : List SigEntry).all sigEntryOk &&
     funcExists vfs 1 && !funcBusy 1 vfs,
    (fun h ctx c (s : State) => meetsCfg (.sigGsSubscribe h ctx c) (fun _ => gsContextOk ctx c) s) hd 32767 ((⟨0, 1, 2 ^
     40, 0x3FFF, 1, 0xFFFFFFFF, 60000, 0xFFFF, 1, [1], [2], [⟨0, 0xFF, 4, 2 ^ 25 - 1⟩]⟩)) ready,
    (fun h ctx c (s : State) => meets (.sigGsSubscribe h ctx c) (fun a => !((fun _ => gsContextOk ctx c)) a) s) hd 32767
     ((⟨0, 1, 2 ^ 40, 0x4000, 1, 0xFFFFFFFF, 60000, 0xFFFF, 1, [1], [2], [⟨0, 0xFF, 4, 2 ^ 25 - 1⟩]⟩)) ready,
    (fun h entries (s : State) => meets (.sigDefine h entries) (fun a => !entries.any (fun e => e.valid && funcBusy
     e.sig.owner a) && (!(decide (0 < entries.length ∧ entries.length ≤ 32768) && entries.all sigEntryOk) || entries.any
     (fun e => e.valid && !funcExists a e.sig.owner))) s) hd ([]) ready,
    (fun h entries (s : State) => meets (.sigDefine h entries) (fun a => !entries.any (fun e => e.valid && funcBusy
     e.sig.owner a) && (!(decide (0 < entries.length ∧ entries.length ≤ 32768) && entries.all sigEntryOk) || entries.any
     (fun e => e.valid && !funcExists a e.sig.owner))) s) hd ([⟨0, true, ⟨4, 3, true, 3, 0⟩⟩]) vfs,
    (fun h ctx c (s : State) => meetsCfg (.sigGpDefine h ctx c) (fun _ => gpContextOk ctx c) s) hd 8191 ((⟨31, 1, 2 ^ 40,
     0x3FFF, 4094, 7, 1, 1, 100, 60000, 8, 0xFFFF, 255, 60000, 0xFFFFFFFF, [1], [2], [3], [⟨0, 4, 1, 0⟩]⟩)) ready,
    (fun h ctx c (s : State) => meets (.sigGpDefine h ctx c) (fun a => !((fun _ => gpContextOk ctx c)) a) s) hd 8191
     ((⟨31, 1, 2 ^ 40, 0x3FFF, 4094, 7, 1, 1, 99, 60000, 8, 0xFFFF, 255, 60000, 0xFFFFFFFF, [1], [2], [3], [⟨0, 4, 1,
     0⟩]⟩)) ready,
    (fun h entries (s : State) => meets (.sigDefine h entries) (fun a => entries.any (fun e => e.valid && funcBusy
     e.sig.owner a)) s) hd ([⟨0, true, ⟨4, 3, true, 2, 0⟩⟩]) vfs,
    (fun h ctx c (s : State) => meetsCfg (.sigGsSubscribe h ctx c) (fun _ => gsContextOk ctx c) s) hd 32767 ((⟨0, 1, 2 ^
     40, 0x3FFF, 1, 0xFFFFFFFF, 60000, 0xFFFF, 1, [1], [2], [⟨0, 0xFF, 4, 2 ^ 25 - 1⟩]⟩)) ready,
    (fun h ctx c (s : State) => meets (.sigGsSubscribe h ctx c) (fun a => !((fun _ => gsContextOk ctx c)) a) s) hd 32767
     ((⟨0, 1, 2 ^ 40, 0x4000, 1, 0xFFFFFFFF, 60000, 0xFFFF, 1, [1], [2], [⟨0, 0xFF, 4, 2 ^ 25 - 1⟩]⟩)) ready,
    (fun h ctx c (s : State) => meetsCfg (.sigGpDefine h ctx c) (fun _ => gpContextOk ctx c) s) hd 8191 ((⟨31, 1, 2 ^ 40,
     0x3FFF, 4094, 7, 1, 1, 100, 60000, 8, 0xFFFF, 255, 60000, 0xFFFFFFFF, [1], [2], [3], [⟨0, 4, 1, 0⟩]⟩)) ready,
    (fun h ctx c (s : State) => meets (.sigGpDefine h ctx c) (fun a => !((fun _ => gpContextOk ctx c)) a) s) hd 8191
     ((⟨31, 1, 2 ^ 40, 0x3FFF, 4094, 7, 1, 1, 99, 60000, 8, 0xFFFF, 255, 60000, 0xFFFFFFFF, [1], [2], [3], [⟨0, 4, 1,
     0⟩]⟩)) ready,
    (fun h stream c (s : State) => meetsCfg (.sigSvpDefine h stream c) (fun _ => svpContextOk stream c) s) hd 2047 ((⟨31,
     1, 2 ^ 40, 0x7FFF, 4094, 7, 1, 15360, 8, 1000, [1], [⟨3, 65535⟩]⟩)) ready,
    (fun h stream c (s : State) => meets (.sigSvpDefine h stream c) (fun a => !((fun _ => svpContextOk stream c)) a) s) hd
     2047 ((⟨31, 1, 2 ^ 40, 0x7FFF, 4094, 7, 1, 15360, 9, 1000, [1], [⟨3, 65535⟩]⟩)) ready,
    (fun h mac (s : State) => meetsCfg (.sigSharedId h mac) (fun _ => !bitN mac 40) s) hd 0x0280C2000001 ready,
    (fun h mac (s : State) => meets (.sigSharedId h mac) (fun a => !((fun _ => !bitN mac 40)) a) s) hd ((2 ^ 40)) ready].all id) = true := by decide +kernel

/-- The hypotheses of ConfigSystemStages, clause by clause. -/
theorem test_meets_configSystemStages : ([
    (fun h group valid p (s : State) => meetsCfg (.plmGroupSet h group valid p) (fun _ => decide (group ≤ 1023 ∧ valid ≤ 1
     ∧ p.kind ≤ 4 ∧ 1 ≤ p.entries.length ∧ p.entries.length ≤ 1024) && p.entries.all (groupEntryOk p.kind)) s) hd 1023 1
     (⟨0, [⟨0, 0, 1, 0⟩]⟩) ready,
    (fun h group valid p (s : State) => meets (.plmGroupSet h group valid p) (fun a => !((fun _ => decide (group ≤ 1023 ∧
     valid ≤ 1 ∧ p.kind ≤ 4 ∧ 1 ≤ p.entries.length ∧ p.entries.length ≤ 1024) && p.entries.all (groupEntryOk p.kind))) a)
     s) hd 1023 2 (⟨0, [⟨0, 0, 1, 0⟩]⟩) ready,
    (fun h dies (s : State) => meetsCfg (.plmOwnerDies h 0 dies) (fun a => decide (dies < 256 ∧ 0 < dies % 2 ^ Config.dies
     a.variant)) s) hd 128 ready,
    (fun h dies (s : State) => meets (.plmOwnerDies h 0 dies) (fun a => !((fun a => decide (dies < 256 ∧ 0 < dies % 2 ^
     Config.dies a.variant))) a) s) hd 256 ready,
    (match packetOf (.plmOwnerDies hd 1 128) with | some p => goesConfig p (vfs) | none => false) && (vfExists vfs 0 &&
     decide ((vfSt vfs 0).admission ≠ .resetting ∧ 0 < 128 % 2 ^ Config.dies vfs.variant)),
    (fun h v dies (s : State) => meets (.plmOwnerDies h (v + 1) dies) (fun a => decide ((vfSt a v).admission =
     .resetting)) s) hd 1 default vfs,
    (fun h placeLimit consolidate deferWarn (s : State) => meetsCfg (.plmPolicy h placeLimit consolidate deferWarn) (fun _
     => decide (100 ≤ placeLimit ∧ placeLimit ≤ 850 ∧ consolidate ≤ 1 ∧ 10 ≤ deferWarn ∧ deferWarn ≤ 60000)) s) hd 850 1 10
     ready,
    (fun h placeLimit consolidate deferWarn (s : State) => meets (.plmPolicy h placeLimit consolidate deferWarn) (fun a =>
     !((fun _ => decide (100 ≤ placeLimit ∧ placeLimit ≤ 850 ∧ consolidate ≤ 1 ∧ 10 ≤ deferWarn ∧ deferWarn ≤ 60000))) a)
     s) hd 851 1 10 ready,
    (fun h modeSrc restartMode (s : State) => meetsCfg (.lgcConfig h modeSrc restartMode) (fun _ => decide (modeSrc ≤ 1 ∧
     restartMode ≤ 2)) s) hd 1 2 ready,
    (fun h modeSrc restartMode (s : State) => meets (.lgcConfig h modeSrc restartMode) (fun a => !((fun _ => decide
     (modeSrc ≤ 1 ∧ restartMode ≤ 2))) a) s) hd 2 2 ready,
    (fun h p (s : State) => meetsCfg (.loopConfig h p) (fun a => rates.contains p.rate && decide (p.inputKind ≤ 1 ∧ p.out
     ≤ 7 ∧ p.inLag ≤ 10000 ∧ 50 ≤ p.loopWait ∧ p.loopWait ≤ 10000 ∧ p.invHold ≤ 65535 ∧ 1 ≤ p.drainMax ∧ p.drainMax ≤
     4800000 ∧ p.inputRef < (if p.inputKind = 0 then Config.nodes a.variant else Config.signals a.variant)) && coefsOk
     p.coef) s) hd ((⟨15360, 1, 7, 2 ^ 25 - 1, 10000, 50, 65535, 4800000, coefReset⟩)) ready,
    (fun h p (s : State) => meets (.loopConfig h p) (fun a => !((fun a => rates.contains p.rate && decide (p.inputKind ≤ 1
     ∧ p.out ≤ 7 ∧ p.inLag ≤ 10000 ∧ 50 ≤ p.loopWait ∧ p.loopWait ≤ 10000 ∧ p.invHold ≤ 65535 ∧ 1 ≤ p.drainMax ∧ p.drainMax
     ≤ 4800000 ∧ p.inputRef < (if p.inputKind = 0 then Config.nodes a.variant else Config.signals a.variant)) && coefsOk
     p.coef)) a) s) hd ((⟨15360, 1, 8, 0, 10000, 50, 65535, 4800000, coefReset⟩)) ready,
    (fun h p (s : State) => meetsCfg (.pairConfig h p) (fun _ => decide (p.mode ≤ 1 ∧ 2 ≤ p.lag ∧ p.lag ≤ 100 ∧
     p.leashSlot ≤ 255 ∧ p.arbSlot ≤ 255 ∧ 8 ≤ p.prefixLen ∧ p.prefixLen ≤ 30 ∧ 1024 ≤ p.udpPort ∧ p.udpPort ≤ 65535 ∧ 10 ≤
     p.syncTimeout ∧ p.syncTimeout ≤ 600)) s) hd ((⟨1, 100, 255, 255, 0, 0, 30, 65535, 0, 0, 600⟩)) ready,
    (fun h p (s : State) => meets (.pairConfig h p) (fun a => !((fun _ => decide (p.mode ≤ 1 ∧ 2 ≤ p.lag ∧ p.lag ≤ 100 ∧
     p.leashSlot ≤ 255 ∧ p.arbSlot ≤ 255 ∧ 8 ≤ p.prefixLen ∧ p.prefixLen ≤ 30 ∧ 1024 ≤ p.udpPort ∧ p.udpPort ≤ 65535 ∧ 10 ≤
     p.syncTimeout ∧ p.syncTimeout ≤ 600))) a) s) hd ((⟨1, 101, 255, 255, 0, 0, 30, 65535, 0, 0, 600⟩)) ready,
    (fun h fraction (s : State) => meetsCfg (.vfnPolicy h fraction) (fun _ => decide (fraction ≤ 900)) s) hd 900 ready,
    (fun h fraction (s : State) => meets (.vfnPolicy h fraction) (fun a => !((fun _ => decide (fraction ≤ 900))) a) s) hd
     901 ready,
    (match packetOf (.vfnVfConfig hd 0 1) with | some p => goesConfig p (vfs) | none => false) && (vfExists vfs 0 &&
     decide ((vfSt vfs 0).admission ≠ .resetting)),
    (fun h vf prot (s : State) => meets (.vfnVfConfig h vf prot) (fun a => !vfExists a vf) s) hd 2 default vfs,
    (fun h vf prot (s : State) => meets (.vfnVfConfig h vf prot) (fun a => vfExists a vf && decide ((vfSt a vf).admission
     = .resetting)) s) hd 1 default vfs,
    (fun h extEn rollMs (s : State) => meetsCfg (.keyConfig h extEn rollMs) (fun _ => decide (extEn ≤ 1 ∧ rollMs ≤ 10000))
     s) hd 1 10000 ready,
    (fun h extEn rollMs (s : State) => meets (.keyConfig h extEn rollMs) (fun a => !((fun _ => decide (extEn ≤ 1 ∧ rollMs
     ≤ 10000))) a) s) hd 1 10001 ready,
    (fun h trimEn alignEn (s : State) => meetsCfg (.bkdConfig h trimEn alignEn) (fun _ => decide (trimEn ≤ 1 ∧ alignEn ≤
     1)) s) hd 1 1 ready,
    (fun h trimEn alignEn (s : State) => meets (.bkdConfig h trimEn alignEn) (fun a => !((fun _ => decide (trimEn ≤ 1 ∧
     alignEn ≤ 1))) a) s) hd 1 2 ready,
    (fun h maxState (s : State) => meetsCfg (.pwrPolicy h maxState) (fun _ => maxState.length == 12 && maxState.all (fun x
     => decide (x ≤ 3))) s) hd ((List.replicate 12 3)) ready,
    (fun h maxState (s : State) => meets (.pwrPolicy h maxState) (fun a => !((fun _ => maxState.length == 12 &&
     maxState.all (fun x => decide (x ≤ 3)))) a) s) hd ((List.replicate 12 4)) ready].all id) = true := by decide +kernel

/-- The hypotheses of ConfigImageStages, clause by clause. -/
theorem test_meets_configImageStages : ([
    (fun h image keySlot img (s : State) => meets (.grfGraphLoad h image keySlot img) (fun a => decide (keySlot ≤ 255 ∧
     image.addr % 64 = 0) && imageReason a image.len keySlot img == 0 && (!(graphWrites img).any (writeClash (applySetting
     (candidate a h.func) ⟨0, 0x0700, 0, .graphLoad h.func img⟩))) && decide (queueUse (withoutStaged h.func img.graph a)
     h.func + 2 ≤ share a h.func 2)) s) hd (⟨0, 352⟩) 0 (image absNode) keyed,
    (fun h image keySlot img (s : State) => meets (.grfGraphLoad h image keySlot img) (fun a => decide (keySlot ≤ 255 ∧
     image.addr % 64 = 0) && imageReason a image.len keySlot img == 0 && (graphWrites img).any (writeClash (applySetting
     (candidate a h.func) ⟨0, 0x0700, 0, .graphLoad h.func img⟩))) s) hd (⟨0, 352⟩) 0 (image wrNode)
     ({ keyed with cfg.signals := [(7, ⟨0, 3, false, 0, 0⟩)] }),
    meets (.grfGraphLoad hd ⟨0, 352⟩ 255 (image absNode)) (fun a => imageReason a 352 255 (image absNode) != 0) ready,
    (fun h image keySlot img (s : State) => meets (.grfGraphLoad h image keySlot img) (fun _ => decide (255 < keySlot ∨
     image.addr % 64 ≠ 0)) s) hd (⟨0, 352⟩) 256 (image absNode) ready,
    (fun h image keySlot img (s : State) => meets (.grfGraphLoad h image keySlot img) (fun _ => decide (255 < keySlot ∨
     image.addr % 64 ≠ 0)) s) hd (⟨32, 352⟩) 0 (image absNode) ready,
    (fun h graph (s : State) => meetsCfg (.grfGraphUnload h graph) (fun a => decide (graph ≤ 511) && thas (candidate a
     h.func).graphs graph) s) hd 511 graphed,
    (fun h graph (s : State) => meets (.grfGraphUnload h graph) (fun a => !((fun a => decide (graph ≤ 511) && thas
     (candidate a h.func).graphs graph)) a) s) hd 510 graphed,
    meetsCfg (.lgcTaskDefine hd ⟨0, 168⟩ 0 1 0 lgcImage) (fun a => logicReason a (candidate a 0) false 168 0 lgcImage == 0
     && imagesFit (candidate a 0).cycleLen [lgcImage] && !(taskWrites 63 lgcImage).any (writeClash (applySetting (candidate
     a 0) ⟨0, 0x0900, 0, .lgcTask 63 true lgcImage⟩))) keyed,
    meets (.lgcTaskDefine hd ⟨0, 168⟩ 255 1 0 lgcImage) (fun a => logicReason a (candidate a 0) false 168 255 lgcImage !=
     0) ready,
    (fun h image keySlot img (s : State) => meets (.lgcTaskDefine h image keySlot 1 0 img) (fun a => decide (keySlot ≤ 255
     ∧ image.addr % 64 = 0) && logicReason a (candidate a h.func) false image.len keySlot img == 0 && !imagesFit (candidate
     a h.func).cycleLen [img]) s) hd (⟨0, 3360⟩) 0 (signL
     { lgcImage with instr := List.replicate 800 0x02000000#32, imageLen := 3360 }) ({ keyed with cfg.cycleLen := 1 }),
    (fun h image keySlot valid task img (s : State) => meets (.lgcTaskDefine h image keySlot valid task img) (fun _ =>
     decide (image.addr % 64 ≠ 0 ∨ 255 < keySlot ∨ 1 < valid ∨ (valid = 1 ∧ task ≠ 0))) s) hd (⟨32, 168⟩) 0 1 0 lgcImage
     ready,
    (fun h image keySlot valid task img (s : State) => meets (.lgcTaskDefine h image keySlot valid task img) (fun _ =>
     decide (image.addr % 64 ≠ 0 ∨ 255 < keySlot ∨ 1 < valid ∨ (valid = 1 ∧ task ≠ 0))) s) hd (⟨0, 168⟩) 256 1 0 lgcImage
     ready,
    (fun h image keySlot valid task img (s : State) => meets (.lgcTaskDefine h image keySlot valid task img) (fun _ =>
     decide (image.addr % 64 ≠ 0 ∨ 255 < keySlot ∨ 1 < valid ∨ (valid = 1 ∧ task ≠ 0))) s) hd (⟨0, 168⟩) 0 2 0 lgcImage
     ready,
    (fun h image keySlot valid task img (s : State) => meets (.lgcTaskDefine h image keySlot valid task img) (fun _ =>
     decide (image.addr % 64 ≠ 0 ∨ 255 < keySlot ∨ 1 < valid ∨ (valid = 1 ∧ task ≠ 0))) s) hd (⟨0, 168⟩) 0 1 1 lgcImage
     ready,
    (fun h image keySlot task img (s : State) => meetsCfg (.lgcTaskDefine h image keySlot 0 task img) (fun a => decide
     (image.addr % 64 = 0 ∧ keySlot ≤ 255) && thas (candidate a h.func).tasks task) s) hd default default 63 default
     ((withC (fun c => { c with tasks := [(63, lgcImage)] }))),
    (fun h image keySlot task img (s : State) => meets (.lgcTaskDefine h image keySlot 0 task img) (fun a => !((fun a =>
     decide (image.addr % 64 = 0 ∧ keySlot ≤ 255) && thas (candidate a h.func).tasks task)) a) s) hd default default 62
     default ((withC (fun c => { c with tasks := [(63, lgcImage)] })))].all id) = true := by decide +kernel

/-- The hypotheses of NetworkReadsAnswer, clause by clause. -/
theorem test_meets_networkReadsAnswer : ([
    (fun h (s : State) => meets (.nop h) always s) hd ready,
    (fun h (s : State) => meets (.identify h) always s) hd ready,
    (fun h (s : State) => meets (.timStatus h) always s) hd ready,
    (fun h port (s : State) => meets (.netPortStatus h port) always s) hd default ready,
    (fun h die index (s : State) => meets (.swcMcastRead h die index) (fun _ => decide (index ≤ 16383)) s) hd default
     16383 ready,
    (fun h die index (s : State) => meets (.swcMcastRead h die index) (fun _ => decide (16383 < index)) s) hd default
     16384 ready,
    (fun h die port mac vid (s : State) => meets (.swcLookup h die port mac vid) (fun _ => decide (port / 4 = die)) s) hd
     7 31 default default ready,
    (fun h die port mac vid (s : State) => meets (.swcLookup h die port mac vid) (fun _ => decide (port / 4 ≠ die)) s) hd
     7 0 default default ready,
    (fun h stream (s : State) => meets (.svStreamRead h stream) (fun a => decide (stream ≤ 8191) && (svCtx a
     stream).isSome) s) hd 8191 ((withC (fun c => { c with streams := [(8191, svCtx0)] }))),
    (fun h stream (s : State) => meets (.svStreamRead h stream) (fun a => decide (stream ≤ 8191) && (svCtx a
     stream).isNone) s) hd 8191 ready,
    (fun h stream (s : State) => meets (.svStreamRead h stream) (fun _ => decide (8191 < stream)) s) hd 8192 ready,
    (fun h chain (s : State) => meets (.fltChainRead h chain) (fun _ => decide (chain ≤ 65535)) s) hd 65535 ready,
    (fun h chain (s : State) => meets (.fltChainRead h chain) (fun _ => decide (65535 < chain)) s) hd 65536 ready].all id) = true := by decide +kernel

/-- The hypotheses of SystemReadsAnswer, clause by clause. -/
theorem test_meets_systemReadsAnswer : ([
    (fun h graph o g (s : State) => meets (.grfGraphRead h graph) (fun a => tget a.cfg.graphs graph == some (o, g)) s) hd
     511 0 ((image absNode)) graphed,
    (fun h graph (s : State) => meets (.grfGraphRead h graph) (fun a => (tget a.cfg.graphs graph).isNone) s) hd default
     ready,
    (fun h handle e (s : State) => meets (.scheduleRead h handle) (fun a => decide (handle ≠ 0xFFFF ∧ handle < schedCap)
     && tget a.grf.sched handle == some e) s) hd 1023 (({ (default : SchedEntry) with sec := 1, action := 4 }))
     (({ ready with grf.sched := [(1023, { (default : SchedEntry) with sec := 1, action := 4 })] })),
    (fun h handle (s : State) => meets (.scheduleRead h handle) (fun a => decide (handle ≠ 0xFFFF ∧ handle < schedCap) &&
     (tget a.grf.sched handle).isNone) s) hd default ready,
    (fun h handle (s : State) => meets (.scheduleRead h handle) (fun _ => decide (handle ≠ 0xFFFF ∧ schedCap ≤ handle)) s)
     hd 1024 ready,
    (fun h x (s : State) => meets (.scheduleRead h 0xFFFF) (fun a => a.flt.pending == some x) s) hd ((⟨1, 2, true, 0,
     false⟩)) (({ ready with flt.pending := some ⟨1, 2, true, 0, false⟩ })),
    (fun h (s : State) => meets (.scheduleRead h 0xFFFF) (fun a => a.flt.pending.isNone) s) hd ready,
    (fun h func (s : State) => meets (.grfShareRead h func) (fun a => !funcBusy func a && funcExists a func) s) hd 1 vfs,
    (fun h func (s : State) => meets (.grfShareRead h func) (fun a => funcBusy func a) s) hd 2 vfs,
    (fun h func (s : State) => meets (.grfShareRead h func) (fun a => !funcBusy func a && !funcExists a func) s) hd 3 vfs,
    (fun h task (s : State) => meets (.lgcTaskRead h task) (fun a => taskDefined a task) s) hd 63 ((withC (fun c =>
     { c with tasks := [(63, lgcImage)] }))),
    (fun h task (s : State) => meets (.lgcTaskRead h task) (fun a => !taskDefined a task) s) hd default ready,
    (fun h (s : State) => meets (.loopRead h) always s) hd ready,
    (fun h (s : State) => meets (.pairStatus h) always s) hd ready,
    (fun h (s : State) => meets (.bkdRtcRead h) always s) hd ready,
    (fun h (s : State) => meets (.pwrStatus h) always s) hd ready,
    (fun h slot (s : State) => meets (.keySlotRead h slot) (fun _ => decide (slot ≤ 255)) s) hd 255 ready,
    (fun h slot (s : State) => meets (.keySlotRead h slot) (fun _ => decide (255 < slot)) s) hd 256 ready].all id) = true := by decide +kernel

/-- The hypotheses of BufferReadsWrite, clause by clause. -/
theorem test_meets_bufferReadsWrite : ([
    (fun h id count under buf (s : State) => meets (.sigRead h id count under buf) (fun a => decide (id < Config.signals
     a.variant ∧ 0 < count ∧ count ≤ 65536)) s) hd ((2 ^ 25 - 1)) 1 default default ready,
    (fun h id count under buf (s : State) => meets (.sigRead h id count under buf) (fun a => decide (Config.signals
     a.variant ≤ id ∨ count = 0 ∨ 65536 < count)) s) hd ((2 ^ 25)) 1 default default ready,
    (fun h type first count buf (s : State) => meets (.plmMapRead h type first count buf) (fun _ => decide (type ≤ 2 ∧ 0 <
     count ∧ count ≤ 65536)) s) hd 2 default 1 default ready,
    (fun h type first count buf (s : State) => meets (.plmMapRead h type first count buf) (fun _ => decide (2 < type ∨
     count = 0 ∨ 65536 < count)) s) hd 3 default 1 default ready,
    (fun h type first count buf (s : State) => meets (.plmMapRead h type first count buf) (fun _ => decide (2 < type ∨
     count = 0 ∨ 65536 < count)) s) hd default default 65537 default ready,
    (fun h first count buf (s : State) => meets (.evrRead h first count buf) (fun _ => decide (0 < count ∧ count ≤ 65536 ∧
     buf % 64 = 0)) s) hd default 65536 64 ready,
    (fun h first count buf (s : State) => meets (.evrRead h first count buf) (fun _ => decide (count = 0 ∨ 65536 < count ∨
     buf % 64 ≠ 0)) s) hd default 1 63 ready,
    (fun h first count buf (s : State) => meets (.evrRead h first count buf) (fun _ => decide (count = 0 ∨ 65536 < count ∨
     buf % 64 ≠ 0)) s) hd default 65537 default ready,
    (fun h buf (s : State) => meets (.pairHealthRead h buf) always s) hd default ready,
    (fun h buf (s : State) => meets (.keyIdentityRead h buf) always s) hd default ready,
    (fun h vf buf (s : State) => meets (.vfStatus h vf buf) (fun a => vfExists a vf && decide ((vfSt a vf).admission ≠
     .resetting ∧ buf ≠ 0)) s) hd 0 64 vfs,
    (fun h vf (s : State) => meets (.vfStatus h vf 0) (fun a => vfExists a vf && decide ((vfSt a vf).admission ≠
     .resetting)) s) hd 0 vfs,
    (fun h vf buf (s : State) => meets (.vfStatus h vf buf) (fun a => !vfExists a vf) s) hd 2 64 vfs,
    (fun h vf buf (s : State) => meets (.vfStatus h vf buf) (fun a => vfExists a vf && decide ((vfSt a vf).admission =
     .resetting)) s) hd 1 64 vfs].all id) = true := by decide +kernel

/-- The hypotheses of GeneralActionsAct, clause by clause. -/
theorem test_meets_generalActionsAct : ([
    (fun h (s : State) => meets (.configCommit h) (fun a => decide (storedSize (candidate a h.func) ≤ 18874368) &&
     a.lgc.switchAt.isNone && (match validate a h.func with | .good => true | _ => false)) s) hd ready,
    (fun h (s : State) => meets (.configCommit h) (fun a => decide (18874368 < storedSize (candidate a h.func))) s) hd
     ((withC (fun c => { c with stored := [((0, 0), 18874369)] }))),
    (fun h (s : State) => meets (.configCommit h) (fun a => decide (storedSize (candidate a h.func) ≤ 18874368) &&
     a.lgc.switchAt.isSome) s) hd
     (({ withC (fun c => { c with stored := [((0, 0), 18874368)] }) with lgc.switchAt := some 4 })),
    (fun h x (s : State) => meets (.configCommit h) (fun a => decide (storedSize (candidate a h.func) ≤ 18874368) &&
     a.lgc.switchAt.isNone && (match validate a h.func with | .bad y => y == x | _ => false)) s) hd ((some ⟨1, 0x0500, 64,
     .svSub 0 { svCtx0 with missQuest := 2, da := 0, keySlot := 0 }⟩))
     (({ ready with cmd.staging := [(0, [⟨1, 0x0500, 64, .svSub 0 { svCtx0 with missQuest := 2, da := 0, keySlot := 0 }⟩])] })),
    (fun h x e (s : State) => meets (.configCommit h) (fun a => decide (storedSize (candidate a h.func) ≤ 18874368) &&
     a.lgc.switchAt.isNone && (match validate a h.func with | .noPlace y d => y == x && d == e | _ => false)) s) hd ((some
     ⟨1, 0x0900, 64, .lgcTask 63 true lgcImage⟩)) (((1, 63, 6)))
     (({ ready with cmd.staging := [(0, [⟨1, 0x0900, 64, .lgcTask 63 true lgcImage⟩])], plm.exclDies := List.range 8 })),
    (fun h (s : State) => meets (.configAbort h) always s) hd ready,
    (fun h p (s : State) => meets (.queueCreate h p) (fun a => queueOk h.func p && !thas a.cmd.qps (h.func, p.qp)) s) hd
     ((⟨15, 4, 12, 63, 4096, 65535, 4096, 4096⟩)) ready,
    (fun h p (s : State) => meets (.queueCreate h p) (fun a => !queueOk h.func p || thas a.cmd.qps (h.func, p.qp)) s) hd
     ((⟨16, 4, 12, 63, 4096, 65535, 4096, 4096⟩)) ready,
    (fun h p (s : State) => meets (.queueCreate h p) (fun a => !queueOk h.func p || thas a.cmd.qps (h.func, p.qp)) s) hd
     ((⟨15, 5, 4, 63, 0, 0, 0, 0⟩)) ready,
    (fun h qp (s : State) => meets (.queueDelete h qp) (fun a => pairRange h.func qp && decide (h.qp ≠ qp) &&
     (match tget a.cmd.qps (h.func, qp) with | some x => decide (ringWaiting x = 0 ∧ takenCount a h.func qp = 0) | none => false))
     s) hd 15 (({ ready with cmd.qps := [((0, 0), qp0), ((0, 15), qp0)] })),
    (fun h qp (s : State) => meets (.queueDelete h qp) (fun a => pairRange h.func qp &&
     (match tget a.cmd.qps (h.func, qp) with | some x => decide (h.qp = qp ∨ 0 < ringWaiting x ∨ 0 < takenCount a h.func qp) | none => false))
     s) hd 15 (({ ready with cmd.qps := [((0, 0), qp0), ((0, 15), { qp0 with sqTail := 1 })] })),
    (fun h qp (s : State) => meets (.queueDelete h qp) (fun a => !(pairRange h.func qp && thas a.cmd.qps (h.func, qp))) s)
     hd 16 ready].all id) = true := by decide +kernel

/-- The hypotheses of NetworkActionsAct, clause by clause. -/
theorem test_meets_networkActionsAct : ([
    (fun h lan (s : State) => meets (.acceptPath h lan) (fun _ => decide (lan ≤ 1)) s) hd 1 ready,
    (fun h lan (s : State) => meets (.acceptPath h lan) (fun _ => decide (1 < lan)) s) hd 2 ready,
    (fun h atSec (s : State) => meets (.timStep h atSec) (fun a => a.tim.step.isNone && decide ((now a).sec + 2 ≤ atSec))
     s) hd 2 ready,
    (fun h atSec (s : State) => meets (.timStep h atSec) (fun a => a.tim.step.isSome) s) hd default
     (({ ready with tim.step := some book })),
    (fun h atSec (s : State) => meets (.timStep h atSec) (fun a => a.tim.step.isNone && h.strict && mlt ⟨atSec, 0, 0⟩ (now
     a)) s) hs 0 (({ ready with tim.cur.offset := ⟨1, 0, 0⟩ })),
    (fun h atSec (s : State) => meets (.timStep h atSec) (fun a => a.tim.step.isNone && !(h.strict && mlt ⟨atSec, 0, 0⟩
     (now a)) && decide (atSec < (now a).sec + 2)) s) hd 1 ready,
    (fun h atSec (s : State) => meets (.timStep h atSec) (fun a => a.tim.step.isNone && !(h.strict && mlt ⟨atSec, 0, 0⟩
     (now a)) && decide (atSec < (now a).sec + 2)) s) hs 1 ready,
    (fun h port (s : State) => meets (.swcLearnFlush h port) always s) hd default ready,
    (fun h stream (s : State) => meets (.svResync h stream) (fun a => decide (stream ≤ 8191) && decide ((strSt a
     stream).o.obj = .on) && decide ((strSt a stream).sup = .good ∨ (strSt a stream).sup = .questionable)) s) hd 8191
     (({ ready with svi.streams := [(8191, { o := { obj := .on }, sup := .questionable })] })),
    (fun h stream (s : State) => meets (.svResync h stream) (fun a => decide (stream ≤ 8191) && !(decide ((strSt a
     stream).o.obj = .on) && decide ((strSt a stream).sup = .good ∨ (strSt a stream).sup = .questionable))) s) hd 8191
     ready,
    (fun h stream (s : State) => meets (.svResync h stream) (fun _ => decide (8191 < stream)) s) hd 8192 ready,
    (fun h (s : State) => meets (.plmFreeze h 1) always s) hd ready,
    (fun h (s : State) => meets (.plmFreeze h 0) always s) hd ready,
    (fun h enable (s : State) => meets (.plmFreeze h enable) (fun _ => decide (1 < enable)) s) hd 2 ready].all id) = true := by decide +kernel

/-- The hypotheses of EnablesAct, clause by clause. -/
theorem test_meets_enablesAct : ([
    (fun h port en st (s : State) => meets (.netPortEnable h port (if en then 1 else 0)) (fun a => (portChange port en 0
     a).2 == st) s) hd 31 true default ready,
    (fun h port en st (s : State) => meets (.netPortEnable h port (if en then 1 else 0)) (fun a => (portChange port en 0
     a).2 == st) s) hd 31 default default ready,
    (fun h stream en st (s : State) => meets (.svStreamEnable h stream (if en then 1 else 0)) (fun a => decide (stream ≤
     8191) && (!en || (svCtx a stream).isSome) && (streamChange stream en 0 a).1 == st) s) hd 8191 true default ((withC
     (fun c => { c with streams := [(8191, svCtx0)] }))),
    (fun h stream en st (s : State) => meets (.svStreamEnable h stream (if en then 1 else 0)) (fun a => decide (stream ≤
     8191) && (!en || (svCtx a stream).isSome) && (streamChange stream en 0 a).1 == st) s) hd 8191 default default ready,
    (fun h ctx en st (s : State) => meets (.sigGsEnable h ctx (if en then 1 else 0)) (fun a => decide (ctx ≤ 32767) &&
     (gsCtx a ctx).isSome && (objChange en (gsSt a ctx).o).2.1 == st) s) hd 32767 true default ((withC (fun c =>
     { c with gs := [(32767, default)] }))),
    (fun h ctx en st (s : State) => meets (.sigGpEnable h ctx (if en then 1 else 0)) (fun a => decide (ctx < 32768) &&
     (gpCtx a ctx).isSome && (objChange en (gpSt a ctx).o).2.1 == st) s) hd 8191 true default ((withC (fun c =>
     { c with gp := [(8191, default)] }))),
    (fun h n en st (s : State) => meets (.sigGpEnable h (32768 + n) (if en then 1 else 0)) (fun a => decide (n ≤ 32767) &&
     (svpCtx a n).isSome && (objChange en (svpSt a n).o).2.1 == st) s) hd 2047 true default ((withC (fun c =>
     { c with svp := [(2047, default)] }))),
    (fun h graph en st (s : State) => meets (.grfEnable h 0 (if en then 1 else 0) graph) (fun a => graphExists a graph &&
     (graphChange graph en 0 a).1 == st) s) hd 511 true default graphed,
    (fun h id o g en st (s : State) => meets (.grfEnable h 1 (if en then 1 else 0) id) (fun a => tget a.cfg.graphs (id /
     64) == some (o, g) && decide (id % 64 < g.ngroups) && (groupChange (id / 64) (id % 64) en 0 a).1 == st) s) hd ((511 *
     64)) 0 ((image absNode)) true default graphed,
    (fun h task en st (s : State) => meets (.lgcEnable h task (if en then 1 else 0)) (fun a => taskDefined a task &&
     (objChange en (taskSt a task).o).2.1 == st) s) hd 63 true default tasked,
    (fun h en st (s : State) => meets (.loopEnable h (if en then 1 else 0)) (fun a => a.cfg.loop.isSome && (loopChange en
     0 a).1 == st) s) hd true default looped,
    (fun h vf en st (s : State) => meets (.vfEnable h vf (if en then 1 else 0)) (fun a => vfExists a vf && decide ((vfSt a
     vf).admission ≠ .resetting) && (vfChange vf en 0 a).1 == st) s) hd 0 true default (({ vfs with vfn.vfs := [] })),
    (fun h vf en st (s : State) => meets (.vfEnable h vf (if en then 1 else 0)) (fun a => vfExists a vf && decide ((vfSt a
     vf).admission ≠ .resetting) && (vfChange vf en 0 a).1 == st) s) hd 0 default default
     (({ vfs with vfn.vfs := [(0, { o := { obj := .on }, admission := .quiesced })] })),
    (fun h vf en st (s : State) => meets (.vfEnable h vf (if en then 1 else 0)) (fun a => vfExists a vf && decide ((vfSt a
     vf).admission ≠ .resetting) && (vfChange vf en 0 a).1 == st) s) hd 0 default stFailed vfs,
    (fun h port enable (s : State) => meets (.netPortEnable h port enable) (fun _ => decide (1 < enable)) s) hd default 2
     ready,
    (fun h stream enable (s : State) => meets (.svStreamEnable h stream enable) (fun a => decide (8191 < stream ∨ 1 <
     enable) || (enable == 1 && (svCtx a stream).isNone)) s) hd 8192 default ready,
    (fun h stream enable (s : State) => meets (.svStreamEnable h stream enable) (fun a => decide (8191 < stream ∨ 1 <
     enable) || (enable == 1 && (svCtx a stream).isNone)) s) hd default 1 ready,
    (fun h ctx enable (s : State) => meets (.sigGsEnable h ctx enable) (fun a => decide (32767 < ctx ∨ 1 < enable) ||
     (gsCtx a ctx).isNone) s) hd 32768 default ready,
    (fun h ctx enable (s : State) => meets (.sigGpEnable h ctx enable) (fun _ => decide (65535 < ctx ∨ 1 < enable)) s) hd
     65536 default ready,
    (fun h ctx enable (s : State) => meets (.sigGpEnable h ctx enable) (fun _ => decide (65535 < ctx ∨ 1 < enable)) s) hd
     default 2 ready,
    (fun h type enable id (s : State) => meets (.grfEnable h type enable id) (fun _ => decide (1 < type ∨ 1 < enable)) s)
     hd 2 default default ready,
    (fun h type enable id (s : State) => meets (.grfEnable h type enable id) (fun _ => decide (1 < type ∨ 1 < enable)) s)
     hd default 2 default ready,
    (fun h task enable (s : State) => meets (.lgcEnable h task enable) (fun a => decide (1 < enable) || !taskDefined a
     task) s) hd default default ready,
    (fun h enable (s : State) => meets (.loopEnable h enable) (fun a => decide (1 < enable) || a.cfg.loop.isNone) s) hd
     default ready,
    (fun h vf enable (s : State) => meets (.vfEnable h vf enable) (fun a => !vfExists a vf || decide ((vfSt a
     vf).admission ≠ .resetting ∧ 1 < enable)) s) hd 2 default vfs,
    (fun h vf enable (s : State) => meets (.vfEnable h vf enable) (fun a => !vfExists a vf || decide ((vfSt a
     vf).admission ≠ .resetting ∧ 1 < enable)) s) hd 0 2 vfs,
    (fun h vf enable (s : State) => meets (.vfEnable h vf enable) (fun a => vfExists a vf && decide ((vfSt a vf).admission
     = .resetting)) s) hd 1 default vfs].all id) = true := by decide +kernel

/-- The hypotheses of SignalActionsAct, clause by clause. -/
theorem test_meets_signalActionsAct : ([
    (fun h atSec atNs clear (s : State) => meets (.fltHeel h atSec atNs clear) (fun a => a.flt.pending.isNone && decide
     (clear ≤ 1 ∧ atNs < 1000000000 ∧ atSec ≤ (now a).sec + 86400) && !mlt (secNs atSec atNs) (mtimeOfUnits (munits (now a)
     + 10000 * two32))) s) hd 86400 999999999 1 ready,
    (fun h atSec atNs clear (s : State) => meets (.fltHeel h atSec atNs clear) (fun a => a.flt.pending.isNone && decide
     (clear ≤ 1 ∧ atNs < 1000000000 ∧ atSec ≤ (now a).sec + 86400) && !mlt (secNs atSec atNs) (mtimeOfUnits (munits (now a)
     + 10000 * two32))) s) hd default 10000 default ready,
    (fun h atSec atNs clear (s : State) => meets (.fltHeel h atSec atNs clear) (fun a => a.flt.pending.isSome) s) hd
     default default default (({ ready with flt.pending := some default })),
    (fun h atSec atNs clear (s : State) => meets (.fltHeel h atSec atNs clear) (fun a => a.flt.pending.isNone && h.strict
     && mlt (secNs atSec atNs) (mtimeOfUnits (munits (now a) + 10000 * two32))) s) hs default 9999 default ready,
    (fun h atSec atNs clear (s : State) => meets (.fltHeel h atSec atNs clear) (fun a => a.flt.pending.isNone && decide (1
     < clear ∨ 1000000000 ≤ atNs ∨ (now a).sec + 86400 < atSec) && !(h.strict && mlt (secNs atSec atNs) (mtimeOfUnits
     (munits (now a) + 10000 * two32)))) s) hd default default 2 ready,
    (fun h atSec atNs clear (s : State) => meets (.fltHeel h atSec atNs clear) (fun a => a.flt.pending.isNone && decide (1
     < clear ∨ 1000000000 ≤ atNs ∨ (now a).sec + 86400 < atSec) && !(h.strict && mlt (secNs atSec atNs) (mtimeOfUnits
     (munits (now a) + 10000 * two32)))) s) hd default 1000000000 default ready,
    (fun h atSec atNs clear (s : State) => meets (.fltHeel h atSec atNs clear) (fun a => a.flt.pending.isNone && decide (1
     < clear ∨ 1000000000 ≤ atNs ∨ (now a).sec + 86400 < atSec) && !(h.strict && mlt (secNs atSec atNs) (mtimeOfUnits
     (munits (now a) + 10000 * two32)))) s) hd 86401 default default ready,
    (fun h atSec atNs clear (s : State) => meets (.fltHeel h atSec atNs clear) (fun a => a.flt.pending.isNone && decide
     (clear ≤ 1 ∧ atNs < 1000000000 ∧ atSec ≤ (now a).sec + 86400) && !h.strict && mlt (secNs atSec atNs) (mtimeOfUnits
     (munits (now a) + 10000 * two32))) s) hd default 9999 default ready,
    (fun h p d (s : State) => meets (.sigWrite h p) (fun a => sigDef a p.id == some d && decide (d.source = 3 ∧ p.op = 0)
     && valueFits d.type p.value) s) hd ((⟨5, 0, 0, 1⟩)) ((⟨0, 3, false, 0, 0⟩)) ((withC (fun c =>
     { c with signals := [(5, ⟨0, 3, false, 0, 0⟩)] }))),
    (fun h p (s : State) => meets (.sigWrite h p)
     (fun a => match sigDef a p.id with | some d => decide (d.source ≠ 3 ∨ p.op ≠ 0) || !valueFits d.type p.value | none => true)
     s) hd default ready,
    (fun h p (s : State) => meets (.sigWrite h p)
     (fun a => match sigDef a p.id with | some d => decide (d.source ≠ 3 ∨ p.op ≠ 0) || !valueFits d.type p.value | none => true)
     s) hd ((⟨5, 0, 0, 2⟩)) ((withC (fun c => { c with signals := [(5, ⟨0, 3, false, 0, 0⟩)] }))),
    (fun h p (s : State) => meets (.sigForce h p) (fun a => (p.op == 0 && ((projectedForces a).contains p.id || decide
     ((projectedForces a).length < forceCap)) &&
     (match sigDef a p.id with | some d => valueFits d.type p.value | none => false)) || (p.op == 1 && (sigDef a
     p.id).isSome && (projectedForces a).contains p.id)) s) hd ((⟨5, 0, 0, 1⟩)) ((withC (fun c =>
     { c with signals := [(5, ⟨0, 0, false, 0, 0⟩)] }))),
    (fun h p (s : State) => meets (.sigForce h p) (fun a => p.op == 1 && (sigDef a p.id).isSome && !(projectedForces
     a).contains p.id) s) hd ((⟨5, 1, 0, 1⟩)) ((withC (fun c => { c with signals := [(5, ⟨0, 0, false, 0, 0⟩)] }))),
    (fun h p (s : State) => meets (.sigForce h p) (fun a => decide (1 < p.op) || (p.op == 1 && (sigDef a p.id).isNone)) s)
     hd ((⟨5, 2, 0, 1⟩)) ready,
    (fun h p (s : State) => meets (.sigForce h p) (fun a => decide (1 < p.op) || (p.op == 1 && (sigDef a p.id).isNone)) s)
     hd ((⟨5, 1, 0, 1⟩)) ready].all id) = true := by decide +kernel

/-- The hypotheses of ScheduleActionsAct, clause by clause. -/
theorem test_meets_scheduleActionsAct : ([
    (fun h p n (s : State) => meets (.schedule h p) (fun a => decide (p.action ≠ 5) && freeHandle a == some n &&
     a.pwr.restored && decide (p.atNs < 1000000000) && actionOk p && actionNames a p.action p.target && !atPast a p.atSec
     p.atNs) s) hd ((⟨0, 10000, 4, 31, 1, 0⟩)) 0 ready,
    (fun h p n (s : State) => meets (.schedule h p) (fun a => decide (p.action ≠ 5) && freeHandle a == some n &&
     a.pwr.restored && decide (p.atNs < 1000000000) && actionOk p && actionNames a p.action p.target && atPast a p.atSec
     p.atNs && !h.strict) s) hd ((⟨0, 9999, 4, 31, 1, 0⟩)) 0 ready,
    (fun h p (s : State) => meets (.schedule h p) (fun a => decide (p.action ≠ 5) && (freeHandle a).isSome &&
     a.pwr.restored && atPast a p.atSec p.atNs && h.strict) s) hs ((⟨0, 9999, 4, 31, 1, 0⟩)) ready,
    (fun h p (s : State) => meets (.schedule h p) (fun a => decide (p.action ≠ 5) && (freeHandle a).isSome &&
     !a.pwr.restored) s) hd ((⟨0, 10000, 4, 31, 1, 0⟩)) (({ ready with pwr.restored := false })),
    (fun h p (s : State) => meets (.schedule h p) (fun a => decide (p.action ≠ 5) && (freeHandle a).isSome &&
     a.pwr.restored && (decide (1000000000 ≤ p.atNs) || !actionOk p || !actionNames a p.action p.target) && !(atPast a
     p.atSec p.atNs && h.strict)) s) hd ((⟨0, 1000000000, 4, 31, 1, 0⟩)) ready,
    (fun h p (s : State) => meets (.schedule h p) (fun a => decide (p.action = 5 ∧ p.target = 0 ∧ p.arg0 ≤ 1 ∧ p.atNs <
     1000000000 ∧ p.atSec ≤ (now a).sec + 86400) && a.flt.pending.isNone && !atPast a p.atSec p.atNs) s) hd ((⟨86400,
     999999999, 5, 0, 1, 0⟩)) ready,
    (fun h handle (s : State) => meets (.scheduleCancel h handle) (fun a => decide (handle ≠ 0xFFFF) && thas a.grf.sched
     handle) s) hd 1023 (({ ready with grf.sched := [(1023, default)] })),
    (fun h (s : State) => meets (.scheduleCancel h 0xFFFF) (fun a => a.flt.pending.isSome) s) hd
     (({ ready with flt.pending := some default })),
    (fun h handle (s : State) => meets (.scheduleCancel h handle)
     (fun a => if handle = 0xFFFF then a.flt.pending.isNone else !thas a.grf.sched handle) s) hd 0xFFFF ready,
    (fun h handle (s : State) => meets (.scheduleCancel h handle)
     (fun a => if handle = 0xFFFF then a.flt.pending.isNone else !thas a.grf.sched handle) s) hd 0 ready,
    (fun h graph group o g (s : State) => meets (.grfSettingGroup h graph group) (fun a => !thas a.grf.groupCmds graph &&
     tget a.cfg.graphs graph == some (o, g) && decide (group < g.nsets)) s) hd 511 0 0 ((image absNode)) graphed,
    (fun h graph group (s : State) => meets (.grfSettingGroup h graph group) (fun a => thas a.grf.groupCmds graph) s) hd
     511 default (({ graphed with grf.groupCmds := [(511, book)] })),
    (fun h graph group (s : State) => meets (.grfSettingGroup h graph group) (fun a => !thas a.grf.groupCmds graph &&
     (match tget a.cfg.graphs graph with | some e => decide (e.2.nsets ≤ group) | none => true)) s) hd 511 1 graphed,
    (fun h graph group (s : State) => meets (.grfSettingGroup h graph group) (fun a => !thas a.grf.groupCmds graph &&
     (match tget a.cfg.graphs graph with | some e => decide (e.2.nsets ≤ group) | none => true)) s) hd 510 default graphed].all id) = true := by decide +kernel

/-- The hypotheses of LogicActionsAct, clause by clause. -/
theorem test_meets_logicActionsAct : ([
    (fun h task mode (s : State) => meets (.lgcMode h task mode) (fun a => decide (mode ≤ 2 ∧ task ≠ 0xFF) && taskDefined
     a task) s) hd 63 2 tasked,
    (fun h mode (s : State) => meets (.lgcMode h 0xFF mode) (fun _ => decide (mode ≤ 2)) s) hd 2 ready,
    (fun h task mode (s : State) => meets (.lgcMode h task mode) (fun a => decide (2 < mode) || (task != 0xFF &&
     !taskDefined a task)) s) hd default 3 ready,
    (fun h task mode (s : State) => meets (.lgcMode h task mode) (fun a => decide (2 < mode) || (task != 0xFF &&
     !taskDefined a task)) s) hd 62 default tasked,
    (fun h task (s : State) => meets (.lgcStep h task) (fun a => !(taskSt a task).step && taskDefined a task && decide
     ((taskSt a task).o.obj = .on ∧ (taskSt a task).mode = .hold)) s) hd 63
     (({ tasked with lgc.tasks := [(63, { o := { obj := .on }, mode := .hold })] })),
    (fun h task (s : State) => meets (.lgcStep h task) (fun a => (taskSt a task).step) s) hd 63
     (({ tasked with lgc.tasks := [(63, { step := true })] })),
    (fun h task (s : State) => meets (.lgcStep h task) (fun a => !(taskSt a task).step && !(taskDefined a task && decide
     ((taskSt a task).o.obj = .on ∧ (taskSt a task).mode = .hold))) s) hd default ready,
    (fun h p g (s : State) => meets (.lgcValueWrite h p) (fun a => taskImg a p.task == some g && valueOk g p) s) hd ((⟨63,
     1, 0, 2 ^ 32 - 1⟩)) (({ lgcImage with timers := [⟨0, false⟩] })) ((withC (fun c =>
     { c with tasks := [(63, { lgcImage with timers := [⟨0, false⟩] })] }))),
    (fun h p (s : State) => meets (.lgcValueWrite h p)
     (fun a => match taskImg a p.task with | some g => !valueOk g p | none => true) s) hd default ready,
    (fun h p (s : State) => meets (.lgcValueWrite h p)
     (fun a => match taskImg a p.task with | some g => !valueOk g p | none => true) s) hd ((⟨63, 1, 0, 0⟩)) tasked,
    (fun h image keySlot img old (s : State) => meets (.lgcOnlineLoad h image ⟨keySlot, 0, 0⟩ img)
     (fun a => let b := tset a.lgc.staged2 img.task img; a.lgc.switchAt.isNone && decide (keySlot ≤ 255 ∧ image.addr % 64 = 0) && logicReason a (switchCfg b a.cfg) true image.len keySlot img == 0 && taskImg a img.task == some old && decide (old.div = img.div) && imagesFit a.cfg.cycleLen (procImages a (procOf a img.task) b) && !(taskWrites img.task img).any (writeClash (switchCfg b a.cfg)))
     s) hd (⟨0, 168⟩) 0 lgcImage lgcImage ({ keyed with cfg.tasks := [(63, lgcImage)] }),
    (fun h image keySlot img (s : State) => meets (.lgcOnlineLoad h image ⟨keySlot, 0, 0⟩ img) (fun a =>
     a.lgc.switchAt.isNone && decide (keySlot ≤ 255 ∧ image.addr % 64 = 0) && logicReason a (switchCfg (tset a.lgc.staged2
     img.task img) a.cfg) true image.len keySlot img == 0 && (taskImg a img.task).isNone) s) hd (⟨0, 168⟩) 0 lgcImage keyed,
    (fun h image p img (s : State) => meets (.lgcOnlineLoad h image p img) (fun a => a.lgc.switchAt.isNone && decide
     (image.addr % 64 ≠ 0 ∨ 255 < p.keySlot ∨ p.valid ≠ 0 ∨ p.task ≠ 0)) s) hd (⟨0, 168⟩) (⟨0, 1, 0⟩) lgcImage ready,
    (fun h image p img (s : State) => meets (.lgcOnlineLoad h image p img) (fun a => a.lgc.switchAt.isNone && decide
     (image.addr % 64 ≠ 0 ∨ 255 < p.keySlot ∨ p.valid ≠ 0 ∨ p.task ≠ 0)) s) hd (⟨0, 168⟩) (⟨256, 0, 0⟩) lgcImage ready,
    (fun h image p img (s : State) => meets (.lgcOnlineLoad h image p img) (fun a => a.lgc.switchAt.isNone && decide
     (image.addr % 64 ≠ 0 ∨ 255 < p.keySlot ∨ p.valid ≠ 0 ∨ p.task ≠ 0)) s) hd (⟨32, 168⟩) (⟨0, 0, 0⟩) lgcImage ready,
    (fun h image p img (s : State) => meets (.lgcOnlineLoad h image p img) (fun a => a.lgc.switchAt.isNone && decide
     (image.addr % 64 ≠ 0 ∨ 255 < p.keySlot ∨ p.valid ≠ 0 ∨ p.task ≠ 0)) s) hd (⟨0, 168⟩) (⟨0, 0, 1⟩) lgcImage ready,
    (fun h image p img (s : State) => meets (.lgcOnlineLoad h image p img) (fun a => a.lgc.switchAt.isSome) s) hd default
     default default (({ ready with lgc.switchAt := some 4 })),
    (fun h (s : State) => meets (.lgcOnlineSwitch h 0) (fun a => a.lgc.switchAt.isNone && !a.lgc.staged2.isEmpty &&
     !switchTooLong a && !switchBreaks a) s) hd (({ tasked with lgc.staged2 := [(63, lgcImage)] })),
    (fun h (s : State) => meets (.lgcOnlineSwitch h 1) (fun a => a.lgc.switchAt.isNone) s) hd ready,
    (fun h cancel (s : State) => meets (.lgcOnlineSwitch h cancel) (fun a => a.lgc.switchAt.isSome) s) hd default
     (({ ready with lgc.switchAt := some 4 })),
    (fun h task kind (s : State) => meets (.lgcRestart h task kind) (fun a => decide (kind ≤ 1) && taskDefined a task) s)
     hd 63 1 tasked,
    (fun h task kind (s : State) => meets (.lgcRestart h task kind) (fun a => decide (1 < kind) || !taskDefined a task) s)
     hd 63 2 tasked,
    (fun h index value (s : State) => meets (.loopCoefWrite h index value) (fun a => decide (index ≤ 36) && coefOk index
     value && a.cfg.loop.isSome) s) hd 36 default looped,
    (fun h index value (s : State) => meets (.loopCoefWrite h index value) (fun a => decide (36 < index) || !coefOk index
     value || a.cfg.loop.isNone) s) hd 37 default ready,
    (fun h index value (s : State) => meets (.loopCoefWrite h index value) (fun a => decide (36 < index) || !coefOk index
     value || a.cfg.loop.isNone) s) hd default default ready].all id) = true := by decide +kernel

/-- The hypotheses of FunctionActionsAct, clause by clause. -/
theorem test_meets_functionActionsAct : ([
    (fun h (s : State) => meets (.pairRelinquish h) (fun a => a.pair.relinquish.isNone && decide (a.pair.state = .active)
     && partnerState a == 2) s) hd (({ ready with pair.state := .active, pair.partner := 2 })),
    (fun h (s : State) => meets (.pairRelinquish h) (fun a => a.pair.relinquish.isSome) s) hd
     (({ ready with pair.relinquish := some book })),
    (fun h (s : State) => meets (.pairRelinquish h) (fun a => a.pair.relinquish.isNone && (decide (a.pair.state ≠ .active)
     || partnerState a != 2)) s) hd ready,
    (fun h (s : State) => meets (.pairRelinquish h) (fun a => a.pair.relinquish.isNone && (decide (a.pair.state ≠ .active)
     || partnerState a != 2)) s) hd (({ ready with pair.state := .active, pair.partner := 1 })),
    (fun h slot atCycle (s : State) => meets (.pairLeashRekey h slot atCycle) (fun a => decide (slot ≤ 255 ∧ slot =
     a.cfg.pair.leashSlot ∧ a.cycleNum + 8 ≤ atCycle) && (slotSt a slot).pending.isSome) s) hd 255 8
     (({ pendKey with cfg.pair.leashSlot := 255 })),
    (fun h slot atCycle (s : State) => meets (.pairLeashRekey h slot atCycle) (fun a => decide (255 < slot ∨ slot ≠
     a.cfg.pair.leashSlot ∨ atCycle < a.cycleNum + 8) || (slotSt a slot).pending.isNone) s) hd 255 7
     (({ pendKey with cfg.pair.leashSlot := 255 })),
    (fun h slot atCycle (s : State) => meets (.pairLeashRekey h slot atCycle) (fun a => decide (255 < slot ∨ slot ≠
     a.cfg.pair.leashSlot ∨ atCycle < a.cycleNum + 8) || (slotSt a slot).pending.isNone) s) hd 256 8 ready,
    (fun h vf (s : State) => meets (.vfQuiesce h vf) (fun a => vfExists a vf && decide ((vfSt a vf).o.obj = .on ∧ (vfSt a
     vf).admission = .open_)) s) hd 0 ((vfIn .open_)),
    (fun h vf (s : State) => meets (.vfQuiesce h vf) (fun a => vfExists a vf && decide ((vfSt a vf).o.obj = .on ∧ (vfSt a
     vf).admission = .quiesced)) s) hd 0 ((vfIn .quiesced)),
    (fun h vf (s : State) => meets (.vfQuiesce h vf) (fun a => vfExists a vf && decide ((vfSt a vf).o.obj = .on ∧ (vfSt a
     vf).admission = .quiescing)) s) hd 0 ((vfIn .quiescing)),
    (fun h vf (s : State) => meets (.vfQuiesce h vf) (fun a => !vfExists a vf || decide ((vfSt a vf).o.obj ≠ .on ∧ (vfSt a
     vf).admission ≠ .resetting)) s) hd 2 vfs,
    (fun h vf (s : State) => meets (.vfQuiesce h vf) (fun a => !vfExists a vf || decide ((vfSt a vf).o.obj ≠ .on ∧ (vfSt a
     vf).admission ≠ .resetting)) s) hd 0 (({ vfs with vfn.vfs := [] })),
    meets (.vfResume hd 0) always (vfIn .quiesced) && vfExists (vfIn .quiesced) 0 && decide ((vfSt (vfIn .quiesced)
     0).o.obj = .on ∧ (vfSt (vfIn .quiesced) 0).admission = .quiesced),
    (fun h vf res grant (s : State) => meets (.vfShareSet h vf res grant) (fun a => vfExists a vf && decide ((vfSt a
     vf).admission ≠ .resetting ∧ res ≤ 3 ∧ grant ≤ capacity a res) &&
     (let t := setVf vf { vfSt a vf with grants := (vfSt a vf).grants.set res grant } a; decide (useOf a 0 res + vfCount a * vfFloor a res + grantSum t res ≤ capacity a res ∧ (res ≠ 0 ∨ useOf a (vf + 1) 0 ≤ share t (vf + 1) 0))))
     s) hd 0 3 1 ((vfIn .open_)),
    (fun h vf res grant (s : State) => meets (.vfShareSet h vf res grant) (fun a => !vfExists a vf || (decide ((vfSt a
     vf).admission ≠ .resetting) && decide (3 < res ∨ capacity a res < grant))) s) hd 0 4 default ((vfIn .open_)),
    (fun h vf res grant (s : State) => meets (.vfShareSet h vf res grant) (fun a => !vfExists a vf || (decide ((vfSt a
     vf).admission ≠ .resetting) && decide (3 < res ∨ capacity a res < grant))) s) hd 2 default default vfs,
    (fun h vf res grant (s : State) => meets (.vfShareSet h vf res grant) (fun a => !vfExists a vf || (decide ((vfSt a
     vf).admission ≠ .resetting) && decide (3 < res ∨ capacity a res < grant))) s) hd 0 3 65537 ((vfIn .open_)),
    (fun h vf (s : State) => meets (.vfCustodyReturn h vf) (fun a => vfExists a vf && decide ((vfSt a vf).o.obj = .on ∧
     (vfSt a vf).admission = .open_)) s) hd 0 ((vfIn .open_)),
    (fun h vf (s : State) => meets (.vfCustodyReturn h vf) (fun a => !vfExists a vf || decide ((vfSt a vf).admission ≠
     .resetting ∧ ((vfSt a vf).o.obj ≠ .on ∨ (vfSt a vf).admission ≠ .open_))) s) hd 0 ((vfIn .quiesced)),
    (fun h vf (s : State) => meets (.vfCustodyReturn h vf) (fun a => !vfExists a vf || decide ((vfSt a vf).admission ≠
     .resetting ∧ ((vfSt a vf).o.obj ≠ .on ∨ (vfSt a vf).admission ≠ .open_))) s) hd 2 vfs,
    (fun h tol (s : State) => meets (.vfLatencySet h 0 tol) (fun _ => decide (20 ≤ tol ∧ tol ≤ 1000000000)) s) hd 20 ready,
    (fun h v tol (s : State) => meets (.vfLatencySet h (v + 1) tol) (fun a => vfExists a v && decide ((vfSt a v).admission
     ≠ .resetting ∧ 20 ≤ tol ∧ tol ≤ 1000000000)) s) hd 0 1000000000 vfs,
    (fun h tol (s : State) => meets (.vfLatencySet h 0 tol) (fun _ => decide (tol < 20 ∨ 1000000000 < tol)) s) hd 19 ready,
    (fun h tol (s : State) => meets (.vfLatencySet h 0 tol) (fun _ => decide (tol < 20 ∨ 1000000000 < tol)) s) hd
     1000000001 ready,
    (fun h vf (s : State) => meets (.vfQuiesce h vf) (fun a => vfExists a vf && decide ((vfSt a vf).admission =
     .resetting)) s) hd 1 vfs,
    (fun h vf res grant (s : State) => meets (.vfShareSet h vf res grant) (fun a => vfExists a vf && decide ((vfSt a
     vf).admission = .resetting)) s) hd 1 default default vfs,
    (fun h vf (s : State) => meets (.vfCustodyReturn h vf) (fun a => vfExists a vf && decide ((vfSt a vf).admission =
     .resetting)) s) hd 1 vfs].all id) = true := by decide +kernel

/-- The hypotheses of EventActionsAct, clause by clause. -/
theorem test_meets_eventActionsAct : ([
    (fun h upto (s : State) => meets (.evrClear h upto) (fun a => decide (a.evr.oldest ≤ (if upto = 0 then a.evr.next - 1
     else upto) ∧ (if upto = 0 then a.evr.next - 1 else upto) < a.evr.next)) s) hd 1 (({ ready with evr.next := 2 })),
    (fun h upto (s : State) => meets (.evrClear h upto) (fun a => decide ((if upto = 0 then a.evr.next - 1 else upto) <
     a.evr.oldest ∧ (if upto = 0 then a.evr.next - 1 else upto) < a.evr.next)) s) hd 1
     (({ ready with evr.oldest := 2, evr.next := 2 })),
    (fun h upto (s : State) => meets (.evrClear h upto) (fun a => decide (a.evr.next ≤ (if upto = 0 then a.evr.next - 1
     else upto))) s) hd 1 ready,
    (fun h p1 p2 p3 (s : State) => meets (.evrMark h p1 p2 p3) (fun a => !stageFull a) s) hd default default default ready].all id) = true := by decide +kernel

/-- The hypotheses of KeyActionsAct, clause by clause. -/
theorem test_meets_keyActionsAct : ([
    (fun h slot buf b (s : State) => decide (calm b.run = true) && meets (.keyImport h slot buf b) (fun a => decide (slot
     ≤ 255) && (slotSt a slot).booked.isNone && (headFault a slot b.head (importedKey b).isSome).isNone) s) hd 255 0
     (⟨{ head0 with type := 3, engine := 5, keyLen := 97 }, .clear (4 :: List.replicate 96 0), {}⟩) ready,
    (fun h slot buf b r (s : State) => decide (calm b.run = true) && meets (.keyImport h slot buf b) (fun a => decide
     (slot ≤ 255) && (slotSt a slot).booked.isNone && headFault a slot b.head (importedKey b).isSome == some r) s) hd 255 0
     (⟨{ head0 with magic := 0 }, .clear [], {}⟩) 1 ready,
    (fun h slot buf b r (s : State) => decide (calm b.run = true) && meets (.keyImport h slot buf b) (fun a => decide
     (slot ≤ 255) && (slotSt a slot).booked.isNone && headFault a slot b.head (importedKey b).isSome == some r) s) hd 255 0
     (⟨{ head0 with type := 3, engine := 5, keyLen := 97 }, .clear [], {}⟩) 5 ready,
    (fun h slot b r (s : State) => decide (calm b.run = true) && meets (.keyLoad h slot b) (fun a => decide (slot ≤ 255)
     && (slotSt a slot).booked.isNone && blobFault a slot b == some r) s) hd 255 ({ blob0 with head.keyLen := 31 }) 1 ready,
    (fun h slot b r (s : State) => decide (calm b.run = true) && meets (.keyLoad h slot b) (fun a => decide (slot ≤ 255)
     && (slotSt a slot).booked.isNone && blobFault a slot b == some r) s) hd 255 ({ blob0 with head.persist := true }) 3
     ready,
    (fun h p (s : State) => decide (calm p.run = true) && meets (.keyGenerate h p) (fun a => decide (p.slot ≤ 255 ∧ p.type
     ≤ 2) && (slotSt a p.slot).booked.isNone && (loadFault a p.slot p.type p.engine p.persist 0xFFFF true).isNone) s) hd
     (⟨15, 0, 0, true, [], 0, {}⟩) ready,
    (fun h slot mode kcv run k (s : State) => decide (calm run = true) && meets (.keyVerify h slot mode kcv run) (fun a =>
     decide (slot ≤ 255) && (slotSt a slot).booked.isNone && (slotSt a slot).pending == some k && keyPasses mode kcv run k)
     s) hd 255 0 0 ({}) (keyOf 0 0 (List.replicate 32 1))
     ({ ready with key.slots := [(255, { pending := some (keyOf 0 0 (List.replicate 32 1)) })] }),
    (fun h slot mode kcv run (s : State) => decide (calm run = true) && meets (.keyVerify h slot mode kcv run) (fun a =>
     decide (slot ≤ 255) && (slotSt a slot).booked.isNone &&
     (match (slotSt a slot).pending with | some k => !keyPasses mode kcv run k | none => true)) s) hd 255 default default
     default pendKey,
    (fun h slot (s : State) => meets (.keyCommit h slot 0) (fun a => decide (slot ≤ 255) && (slotSt a slot).booked.isNone
     && committable a slot) s) hd 255 pendKey,
    (fun h slot atCycle (s : State) => meets (.keyCommit h slot atCycle) (fun a => decide (slot ≤ 255 ∧ atCycle ≠ 0 ∧
     a.cycleNum + 2 ≤ atCycle) && (slotSt a slot).booked.isNone && committable a slot) s) hd 255 2 pendKey,
    (fun h slot atCycle (s : State) => meets (.keyCommit h slot atCycle) (fun a => decide (slot ≤ 255) && (slotSt a
     slot).booked.isNone && (!committable a slot || decide (atCycle ≠ 0 ∧ atCycle < a.cycleNum + 2))) s) hd 255 1 pendKey,
    (fun h slot atCycle (s : State) => meets (.keyCommit h slot atCycle) (fun a => decide (slot ≤ 255) && (slotSt a
     slot).booked.isNone && (!committable a slot || decide (atCycle ≠ 0 ∧ atCycle < a.cycleNum + 2))) s) hd default default
     ready,
    (fun h slot (s : State) => meets (.keyDiscard h slot 0) (fun a => decide (slot ≤ 255) && (slotSt a
     slot).booked.isNone) s) hd 255 pendKey,
    (fun h slot (s : State) => meets (.keyDiscard h slot 1) (fun a => decide (slot ≤ 255) && (slotSt a slot).booked.isNone
     && !slotNamed a slot) s) hd 255 pendKey,
    (fun h slot (s : State) => meets (.keyDiscard h slot 1) (fun a => decide (slot ≤ 255) && (slotSt a slot).booked.isNone
     && slotNamed a slot) s) hd 255 (({ pendKey with cfg.pair.leashSlot := 255 })),
    (fun h slot p buf k (s : State) => decide (calm p.run = true) && meets (.keyAttest h slot 0xFFFF p buf) (fun a =>
     decide (slot ≤ 255) && (slotSt a slot).current == some k) s) hd 255 (⟨[], {}⟩) 0 sKey
     ({ ready with key.slots := [(255, { cur := some sKey })] }),
    (fun h slot signer p buf k sk (s : State) => decide (calm p.run = true) && meets (.keyAttest h slot signer p buf) (fun
     a => decide (slot ≤ 255 ∧ signer ≠ 0xFFFF) && (slotSt a slot).current == some k && engineKey a signer 4 [2] == some
     sk) s) hd 255 254 (⟨[], {}⟩) 0 sKey (keyOf 2 4 [])
     ({ ready with key.slots := [(255, { cur := some sKey }), (254, { cur := some (keyOf 2 4 []) })] }),
    (fun h slot signer p buf (s : State) => decide (calm p.run = true) && meets (.keyAttest h slot signer p buf) (fun a =>
     decide (255 < slot) || (slotSt a slot).current.isNone) s) hd default default default default ready,
    (fun h slot signer p buf (s : State) => decide (calm p.run = true) && meets (.keyAttest h slot signer p buf) (fun a =>
     decide (signer ≠ 0xFFFF) && (engineKey a signer 4 [2]).isNone) s) hd default default default default ready,
    (fun h offset data (s : State) => meets (.keyFwWrite h offset data) (fun a => a.key.activate.isNone && decide (offset
     % 65536 = 0 ∧ data.length ≤ 1048576)) s) hd 65536 (([0xFF])) ready,
    (fun h offset data (s : State) => meets (.keyFwWrite h offset data) (fun a => a.key.activate.isSome) s) hd default
     default (({ ready with key.activate := some book })),
    (fun h offset data (s : State) => meets (.keyFwWrite h offset data) (fun a => a.key.activate.isNone && decide (offset
     % 65536 ≠ 0 ∨ 1048576 < data.length)) s) hd 65535 default ready,
    (fun h (s : State) => meets (.keyFwActivate h) (fun a => a.key.activate.isNone) s) hd ready,
    (fun h (s : State) => meets (.keyFwActivate h) (fun a => a.key.activate.isSome) s) hd
     (({ ready with key.activate := some book })),
    (fun h level (s : State) => meets (.keyRollbackAdvance h level) (fun a => a.key.blowing.isNone && decide (level ≤ 64 ∧
     a.key.rollback < level ∧ level ≤ (fwImage a a.key.running).svn)) s) hd 64
     (({ ready with key.rollback := 63, key.fwA.svn := 64 })),
    (fun h level (s : State) => meets (.keyRollbackAdvance h level) (fun a => a.key.blowing.isNone && decide (64 < level ∨
     level ≤ a.key.rollback ∨ (fwImage a a.key.running).svn < level)) s) hd 65 ready,
    (fun h kind sign (s : State) => meets (.keyTamperClear h kind sign) (fun a => !clearSigned a kind sign) s) hd 1
     default ready,
    (fun h point (s : State) => meets (.keyRecoverySet h point) always s) hd default ready,
    (fun h slot b c (s : State) => decide (b.run.trip = some c) && meets (.keyLoad h slot b) (fun a => decide (slot ≤ 255)
     && (slotSt a slot).booked.isNone && sourceArmed c a) s) hd 255 ({ blob0 with run.trip := some 6 }) 6 ready,
    (fun h slot buf b c (s : State) => decide (b.run.trip = some c) && meets (.keyImport h slot buf b) (fun a => decide
     (slot ≤ 255) && (slotSt a slot).booked.isNone && sourceArmed c a) s) hd 255 0 (⟨head0, .clear [], { trip := some 0 }⟩)
     0 ready,
    (fun h p c (s : State) => decide (p.run.trip = some c) && meets (.keyGenerate h p) (fun a => decide (p.slot ≤ 255) &&
     (slotSt a p.slot).booked.isNone && sourceArmed c a) s) hd (⟨255, 0, 0, false, [], 0, { trip := some 1 }⟩) 1 ready,
    (fun h slot mode kcv run c (s : State) => decide (run.trip = some c) && meets (.keyVerify h slot mode kcv run) (fun a
     => decide (slot ≤ 255) && (slotSt a slot).booked.isNone && sourceArmed c a) s) hd 255 0 0 ({ trip := some 2 }) 2
     ({ ready with key.extArmed := true }),
    (fun h slot signer p buf c (s : State) => decide (p.run.trip = some c) && meets (.keyAttest h slot signer p buf) (fun
     a => sourceArmed c a) s) hd 255 0 (⟨[], { trip := some 3 }⟩) 0 3 ready,
    (fun h slot mode kcv run (s : State) => decide (run.trip = none) && decide (run.parity = true) && meets (.keyVerify h
     slot mode kcv run) (fun a => decide (slot ≤ 255) && (slotSt a slot).booked.isNone) s) hd 255 0 0 ({ parity := true })
     ready].all id) = true := by decide +kernel

/-- The hypotheses of BackupActionsAct, clause by clause. -/
theorem test_meets_backupActionsAct : ([
    (fun h (s : State) => meets (.bkdRtcHalt h) (fun a => !a.bkd.halted) s) hd ready,
    (fun h (s : State) => meets (.bkdRtcHalt h) (fun a => a.bkd.halted) s) hd (({ ready with bkd.halted := true })),
    (fun h c (s : State) => meets (.bkdRtcWrite h c) (fun a => a.bkd.halted && decide (c.year < 65536 ∧ c.month < 256 ∧
     c.day < 256 ∧ c.hour < 256 ∧ c.min < 256 ∧ c.sec < 256 ∧ c.subsec < 65536)) s) hd ((⟨65535, 255, 255, 255, 255, 255,
     65535⟩)) (({ ready with bkd.halted := true })),
    (fun h c (s : State) => meets (.bkdRtcWrite h c) (fun a => !a.bkd.halted) s) hd default ready,
    (fun h (s : State) => meets (.bkdRtcHaltRelease h) (fun a => a.bkd.halted && dateValid a.bkd.shadow) s) hd
     (({ ready with bkd.halted := true, bkd.shadow := cal 2399 12 31 23 59 59 })),
    (fun h (s : State) => meets (.bkdRtcHaltRelease h) (fun a => a.bkd.halted && !dateValid a.bkd.shadow) s) hd
     (({ ready with bkd.halted := true, bkd.shadow := cal 2399 2 29 0 0 0 })),
    (fun h (s : State) => meets (.bkdRtcHaltRelease h) (fun a => !a.bkd.halted) s) hd ready,
    (fun h c (s : State) => meets (.bkdAlarmSet h c 0) (fun _ => decide (c.subsec = 0)) s) hd default ready,
    (fun h c (s : State) => meets (.bkdAlarmSet h c 1) (fun a => decide (c.subsec = 0) && dateValid c && decide (calPlace
     (rtcNow a) < calTicks c)) s) hd ((cal 2000 1 1 0 0 1)) ready,
    (fun h c (s : State) => meets (.bkdAlarmSet h c 1) (fun _ => decide (c.subsec = 0) && !dateValid c) s) hd ((cal 2001 2
     29 0 0 0)) ready,
    (fun h c (s : State) => meets (.bkdAlarmSet h c 1) (fun a => decide (c.subsec = 0) && dateValid c && decide (calTicks
     c ≤ calPlace (rtcNow a))) s) hd ((cal 2000 1 1 0 0 0)) ready,
    (fun h c enable (s : State) => meets (.bkdAlarmSet h c enable) (fun _ => decide (c.subsec ≠ 0)) s) hd ((⟨2000, 1, 1,
     0, 0, 1, 1⟩)) 0 ready,
    (fun h delay (s : State) => meets (.bkdPwrOnReq h delay) (fun _ => decide (delay ≤ 86400)) s) hd 86400 ready,
    (fun h delay (s : State) => meets (.bkdPwrOnReq h delay) (fun _ => decide (86400 < delay)) s) hd 86401 ready,
    (fun h (s : State) => meets (.pwrRestart h 0xA5) always s) hd ready,
    (fun h confirm (s : State) => meets (.pwrRestart h confirm) (fun _ => decide (confirm ≠ 0xA5)) s) hd 0xA4 ready,
    (fun h (s : State) => meets (.pwrRestoreNow h) (fun a => !a.pwr.restored) s) hd
     (({ ready with pwr.restored := false })),
    (fun h (s : State) => meets (.pwrRestoreNow h) (fun a => a.pwr.restored) s) hd ready].all id) = true := by decide +kernel

/-- The hypotheses of RegisterAccessesAct, clause by clause. -/
theorem test_meets_registerAccessesAct : ([
    (fun func go (s : State) => given (.timCapture func go) (fun s => decide (go % 2 = 1) && funcExists s func) s) default
     1 ready,
    (fun func go (s : State) => given (.timCapture func go) (fun s => !(decide (go % 2 = 1) && funcExists s func)) s)
     default 2 ready,
    (fun func go (s : State) => given (.timCapture func go) (fun s => !(decide (go % 2 = 1) && funcExists s func)) s) 1 1
     ready,
    (fun (s : State) => given (.bkdCapture 1) (fun s => !s.bkd.capBusy) s) ready,
    (fun go (s : State) => decide (go ≠ 1) && given (.bkdCapture go) always s) 0 ready,
    (fun go (s : State) => given (.bkdCapture go) (fun s => s.bkd.capBusy) s) 1 ({ ready with bkd.capBusy := true }),
    (fun (s : State) => given (.bkdCaptureLatch) (fun s => s.bkd.capBusy && decide (s.bkd.capGo * 128 < s.bkd.rtcRaw +
     capTicks s * tickUnits)) s) ({ ready with bkd.capBusy := true, bkd.rtcRaw := 1 }),
    (fun (s : State) => given (.bkdCaptureLatch) (fun s => !s.bkd.capBusy) s) ready,
    (fun func qp x (s : State) => given (.cmdSqTail func qp ⟨x.sqTail, []⟩) (fun s => tget s.cmd.qps (func, qp) == some x
     && heard s func qp) s) default default qp0 ready,
    (fun func qp tail x (s : State) => given (.cmdSqTail func qp ⟨tail, []⟩) (fun s => tget s.cmd.qps (func, qp) == some x
     && decide (tail ≠ x.sqTail)) s) 0 0 1 qp0 ready,
    (fun func qp b x (s : State) => given (.cmdSqTail func qp ⟨(x.sqTail + 1) % 2 ^ x.sqLog2, [b]⟩) (fun s => tget
     s.cmd.qps (func, qp) == some x && s.cmd.outst.isEmpty && !knownOpcode (opcodeOf b) && !haltOutside b && servable
     (readHdr func qp b) s) s) default default default qp0 ready,
    (fun func qp tail (s : State) => given (.cmdSqTail func qp ⟨tail, []⟩) (fun s => !heard s func qp) s) default 1
     default ready,
    (fun func qp head x (s : State) => given (.cmdCqHead func qp head) (fun s => tget s.cmd.qps (func, qp) == some x &&
     heard s func qp && decide (head < 2 ^ x.cqLog2) && decide ((head + 2 ^ x.cqLog2 - x.cqHead) % 2 ^ x.cqLog2 ≤
     unreleased s func qp)) s) default default 1 qp0 (({ ready with cmd.cpls := [default] })),
    (fun func qp head (s : State) => given (.cmdCqHead func qp head) (fun s => !heard s func qp) s) 1 default default
     ready,
    (fun func sq cq (s : State) => given (.queuePair0Enable func sq cq) (fun s => regsOf s func && !funcBusy func s &&
     !(aqOf s func).en && !(aqOf s func).releasing && aqOk { aqOf s func with sqLog2 := sq % 16, cqLog2 := cq % 16 }) s)
     default 4 12 (({ ready with cmd.aq := [] })),
    (fun func sq cq (s : State) => given (.queuePair0Enable func sq cq) (fun s => !regsOf s func || funcBusy func s ||
     (aqOf s func).en || (aqOf s func).releasing) s) default default default ready,
    (fun func (s : State) => given (.queuePair0Disable func) (fun s => regsOf s func && (aqOf s func).en) s) default ready,
    (fun func (s : State) => given (.queueReleaseDone func) (fun s => (aqOf s func).releasing && takenCount s func 0 == 0)
     s) default (({ ready with cmd.aq := [(0, { releasing := true })] })),
    (fun func (s : State) => given (.queueReleaseDone func) (fun s => !((aqOf s func).releasing && takenCount s func 0 ==
     0)) s) default ready,
    (fun func seq (s : State) => given (.cmdJnlCursor func seq) (fun s => regsOf s func) s) default default ready,
    (fun seq (s : State) => given (.evrCursor seq) always s) default ready].all id) = true := by decide +kernel

/-- The hypotheses of RegisterValuesAct, clause by clause. -/
theorem test_meets_registerValuesAct : ([
    given default mainGood ready && decide (cval { ready with counters := [(.evrLost, 5)] } .evrLost = 5),
    mainGood { ready with counters := [(.evrLost, 2 ^ 32)] },
    mainGood { ready with latches := [(.swcPoolPeak 7, 1)] },
    !mainGood State.reset,
    (fun d v (s : State) => given (.registerWrite (.sviCtxSel d) v) (fun s => mainGood s && hasDie s d) s) 7 default ready,
    (fun d v (s : State) => given (.registerWrite (.fltChainSel d) v) (fun s => mainGood s && hasDie s d) s) 7 default
     ready,
    (fun d v (s : State) => given (.registerWrite (.sigGsSel d) v) (fun s => mainGood s && hasDie s d) s) 7 default ready,
    (fun d v (s : State) => given (.registerWrite (.sigGpSel d) v) (fun s => mainGood s && hasDie s d) s) 7 default ready,
    (fun v (s : State) => given (.registerWrite .grfNodeSel v) mainGood s) default ready,
    (fun v (s : State) => given (.registerWrite .lgcTaskSel v) mainGood s) default ready,
    (fun v (s : State) => given (.registerWrite .vfnSel v) mainGood s) default ready,
    (fun v (s : State) => given (.registerWrite .keySlotSel v) mainGood s) default ready,
    (fun d v (s : State) => given (.registerWrite (.pwrDomSel d) v) (fun s => mainGood s && hasDie s d) s) 7 default ready,
    (fun f v (s : State) => given (.registerWrite (.aqSqBase f) v) (fun s => mainGood s && regsOf s f && !(aqOf s f).en &&
     !(aqOf s f).releasing) s) default default (({ ready with cmd.aq := [] })),
    (fun f v (s : State) => given (.registerWrite (.aqCqBase f) v) (fun s => mainGood s && regsOf s f && !(aqOf s f).en &&
     !(aqOf s f).releasing) s) default default (({ ready with cmd.aq := [] })),
    (fun f v (s : State) => given (.registerWrite (.aqDepths f) v) (fun s => mainGood s && regsOf s f && !(aqOf s f).en &&
     !(aqOf s f).releasing) s) default default (({ ready with cmd.aq := [] })),
    (fun f v (s : State) => given (.registerWrite (.aqSqBase f) v) (fun s => (aqOf s f).en) s) default default ready,
    (fun f hi v (s : State) => given (.registerWrite (.aqSqBaseHalf f hi) v) (fun s => mainGood s && regsOf s f && !(aqOf
     s f).en && !(aqOf s f).releasing) s) default default default (({ ready with cmd.aq := [] })),
    (fun f hi v (s : State) => given (.registerWrite (.aqCqBaseHalf f hi) v) (fun s => mainGood s && regsOf s f && !(aqOf
     s f).en && !(aqOf s f).releasing) s) default default default (({ ready with cmd.aq := [] })),
    (fun f hi v (s : State) => given (.registerWrite (.jnlCursorHalf f hi) v) (fun s => mainGood s && regsOf s f) s)
     default default default ready,
    (fun hi v (s : State) => given (.registerWrite (.evrCursorHalf hi) v) mainGood s) default default ready,
    (fun n v (s : State) => given (.registerWrite (.readOnly n) v) always s) default default ready,
    (fun r v (s : State) => given (.registerWrite r v) (fun s => !mainGood s) s) .vfnSel default State.reset,
    mainGood ready && !ctrShown ready (.svi 8191 0)].all id) = true := by decide +kernel

/-- The hypotheses of ControllerRowsAct, clause by clause. -/
theorem test_meets_controllerRowsAct : ([
    (fun func qp x (s : State) => given (.coalesceTimeout func qp) (fun s => tget s.cmd.qps (func, qp) == some x &&
     busMasterOn s func && decide (0 < x.coalCount ∧ 0 < x.unsignalled ∧ x.firstUnsig + rawUs x.coalTime ≤ s.tim.raw)) s)
     default default (({ qp0 with coalCount := 2, coalTime := 1, unsignalled := 1 }))
     (({ ready with cmd.qps := [((0, 0), { qp0 with coalCount := 2, coalTime := 1, unsignalled := 1 })], tim.raw := 500 })),
    (fun func qp (s : State) => given (.coalesceTimeout func qp)
     (fun s => match tget s.cmd.qps (func, qp) with | some x => !busMasterOn s func || decide (x.coalCount = 0 ∨ x.unsignalled = 0 ∨ s.tim.raw < x.firstUnsig + rawUs x.coalTime) | none => true)
     s) default default
     (({ ready with cmd.qps := [((0, 0), { qp0 with coalCount := 2, coalTime := 1, unsignalled := 1 })], tim.raw := 499 })),
    (fun func (s : State) => given (.busMasterEnable func false) always s) default ready,
    (fun func (s : State) => given (.busMasterEnable func true) always s) default ready,
    (fun die0Answers (s : State) => given (.controllerTakeover die0Answers) (fun s => decide (s.pwr.phase = .running ∧
     s.cmd.ctrlDie ≠ 1) && !s.hwi.dieFaults.contains 1) s) default ready,
    (fun die0Answers (s : State) => given (.controllerTakeover die0Answers) (fun s => decide (s.pwr.phase ≠ .running ∨
     s.cmd.ctrlDie = 1) || s.hwi.dieFaults.contains 1) s) default (({ ready with cmd.ctrlDie := 1 }))].all id) = true := by decide +kernel

/-- The hypotheses of TimeRowsAct, clause by clause. -/
theorem test_meets_timeRowsAct : ([
    (fun m (s : State) => decide (m.twoStep = false) && given (.ptpSync m) (fun s => m.domain == s.cfg.ptp.domain) s)
     default ready,
    (fun m (s : State) => decide (m.twoStep = true) && given (.ptpSync m) (fun s => m.domain == s.cfg.ptp.domain) s)
     (({ (default : SyncMsg) with twoStep := true })) ready,
    (fun m (s : State) => given (.ptpSync m) (fun s => m.domain != s.cfg.ptp.domain) s)
     ({ (default : SyncMsg) with domain := 1 }) ready,
    (fun lan f corr m (s : State) => given (.ptpFollowUp lan f corr) (fun s => f.domain == s.cfg.ptp.domain && (lanSt s
     lan).twoStep == some m) s) 1 default default default (({ ready with tim.lanB.twoStep := some default })),
    (fun lan f corr (s : State) => given (.ptpFollowUp lan f corr) (fun s => f.domain != s.cfg.ptp.domain || (lanSt s
     lan).twoStep.isNone) s) default default default ready,
    (fun m (s : State) => given (.ptpAnnounce m) (fun s => m.domain != s.cfg.ptp.domain) s)
     ({ (default : AnnounceMsg) with domain := 1 }) ready,
    (fun m (s : State) => given (.ptpAnnounce m) (fun s => m.domain == s.cfg.ptp.domain && decide ((lanSt s m.lan).gm =
     some m.gm)) s) default (({ ready with tim.lanA.gm := some 0 })),
    (fun lan (s : State) => given (.announceReceiptTimeout lan) (fun s => (lanSt s lan).annRunning && decide ((lanSt s
     lan).annRaw + rawSec s.cfg.ptp.annTimeout ≤ s.tim.raw)) s) 1
     ({ ready with tim.lanB.annRunning := true, tim.raw := rawSec 3 }),
    (fun lan (s : State) => given (.announceReceiptTimeout lan) (fun s => !(lanSt s lan).annRunning || decide (s.tim.raw <
     (lanSt s lan).annRaw + rawSec s.cfg.ptp.annTimeout)) s) 1 (({ ready with tim.lanB.annRunning := true })),
    (fun h (s : State) => given (.pathStepHoldExpiry) (fun s => s.tim.hold == some h && decide (h.startRaw + rawSec
     s.cfg.thresh.pathStepHold ≤ s.tim.raw)) s) ((⟨1, 0, none⟩))
     (({ ready with tim.hold := some ⟨1, 0, none⟩, tim.raw := rawSec 60 })),
    (fun h (s : State) => given (.pathStepHoldExpiry) (fun s => s.tim.hold == some h && decide (s.tim.raw < h.startRaw +
     rawSec s.cfg.thresh.pathStepHold)) s) ((⟨1, 0, none⟩))
     (({ ready with tim.hold := some ⟨1, 0, none⟩, tim.raw := rawSec 60 - 1 })),
    (fun (s : State) => given (.holdT1Expiry) (fun s => decide (s.tim.state = .holdover ∧ s.cfg.thresh.holdT1 ≤ holdAge
     s)) s) (({ ready with tim.state := .holdover, tim.holdAgeRaw := some 0, tim.raw := rawSec 3600 })),
    (fun (s : State) => given (.holdT1Expiry) (fun s => decide (s.tim.state ≠ .holdover ∨ holdAge s <
     s.cfg.thresh.holdT1)) s)
     (({ ready with tim.state := .holdover, tim.holdAgeRaw := some 0, tim.raw := rawSec 3600 - 1 })),
    (fun temp (s : State) => given (.holdTempExceeded temp) (fun s => decide (s.tim.state = .holdover ∧
     s.cfg.thresh.holdTemp < (temp - s.tim.ocxo0).natAbs)) s) ((-21)) ({ ready with tim.state := .holdover }),
    (fun temp (s : State) => given (.holdTempExceeded temp) (fun s => decide (s.tim.state ≠ .holdover ∨ (temp -
     s.tim.ocxo0).natAbs ≤ s.cfg.thresh.holdTemp)) s) default (({ ready with tim.state := .holdover })),
    (fun (s : State) => given (.parameterSetActivate) always s) ready,
    (fun die x (s : State) => decide ((exchangeSkew x).natAbs ≤ 1000) && given (.dieSkewExchange die x) (fun s => hasDie s
     die && die != 0 && dueAgain 8 die 500000 s) s) 7 default ready,
    (fun die x (s : State) => decide (1000 < (exchangeSkew x).natAbs) && decide ((exchangeSkew x).natAbs ≤ 2000) && given
     (.dieSkewExchange die x) (fun s => hasDie s die && die != 0 && dueAgain 8 die 500000 s && tgetD s.tim.skewRun die 0 ==
     2) s) 7 (⟨0, 0, 0, 2002⟩) ({ ready with tim.skewRun := [(7, 2)] }),
    (fun die x (s : State) => decide (1000 < (exchangeSkew x).natAbs) && decide ((exchangeSkew x).natAbs ≤ 2000) && given
     (.dieSkewExchange die x) (fun s => hasDie s die && die != 0 && dueAgain 8 die 500000 s && tgetD s.tim.skewRun die 0 ==
     2) s) 7 (⟨0, 0, 0, -4000⟩) ({ ready with tim.skewRun := [(7, 2)] }),
    (fun die x (s : State) => decide (2000 < (exchangeSkew x).natAbs) && given (.dieSkewExchange die x) (fun s => hasDie s
     die && die != 0 && dueAgain 8 die 500000 s && tgetD s.tim.skewRun die 0 == 0) s) 7 (⟨0, 0, 0, 4002⟩) ready,
    (fun die x (s : State) => given (.dieSkewExchange die x) (fun s => !hasDie s die || die == 0 || !dueAgain 8 die 500000
     s) s) 8 default ready,
    (fun raw sub (s : State) => given (.ppsInEdge raw sub) always s) default default ready,
    (fun (s : State) => given (.ppsOutPulse) (ppsDue) s) ready,
    (fun (s : State) => given (.ppsOutPulse) (fun s => !ppsDue s) s) ({ ready with tim.cur.offset := ⟨2, 4, 0⟩ }),
    (fun b (s : State) => given (.timStepApply) (fun s => s.tim.step == some b && decide (b.atSec ≤ (now s).sec) && decide
     ((s.tim.state = .locked ∨ s.tim.state = .acquiring) ∧ 0 < s.tim.theta)) s) book
     (({ ready with tim.cur.offset := ⟨2, 0, 0⟩, tim.step := some book, tim.state := .locked, tim.theta := 1 })),
    (fun b (s : State) => given (.timStepApply) (fun s => s.tim.step == some b && decide (b.atSec ≤ (now s).sec) &&
     !decide ((s.tim.state = .locked ∨ s.tim.state = .acquiring) ∧ 0 < s.tim.theta)) s) book
     (({ ready with tim.cur.offset := ⟨2, 0, 0⟩, tim.step := some book, tim.state := .locked, tim.theta := 0 })),
    (fun b (s : State) => given (.timStepApply) (fun s => s.tim.step == some b && decide ((now s).sec < b.atSec)) s) book
     ({ ready with tim.step := some book }),
    (fun (s : State) => given (.timStepApply) (fun s => s.tim.step.isNone) s) ready].all id) = true := by decide +kernel

/-- The hypotheses of PortRowsAct, clause by clause. -/
theorem test_meets_portRowsAct : ([
    (fun port cause (s : State) => given (.linkFault port cause) (fun s => decide ((portSt s port).o.obj = .on ∨ (portSt s
     port).o.obj = .draining)) s) 31 default ((portIs onPort)),
    (fun port cause (s : State) => given (.linkFault port cause) (fun s => decide ((portSt s port).o.obj = .on ∨ (portSt s
     port).o.obj = .draining)) s) 31 default ((portIs { o := { obj := .draining } })),
    (fun port cause (s : State) => given (.linkFault port cause) (fun s => decide ((portSt s port).o.obj = .off ∨ (portSt
     s port).o.obj = .starting)) s) default default ready,
    (fun port (s : State) => given (.linkClear port) (fun s => decide (((portSt s port).o.obj = .on ∨ (portSt s
     port).o.obj = .draining) ∧ (portSt s port).link = .down) && cageAccepts s (port / 4)) s) 31
     (({ ready with net.cages := [(7, { present := true, usable := true, speeds := [0] })], net.ports := [(31, onPort)] })),
    (fun port (s : State) => given (.linkClear port) (fun s => decide (((portSt s port).o.obj = .on ∨ (portSt s
     port).o.obj = .draining) ∧ (portSt s port).link = .holding) && cageAccepts s (port / 4) && !holdDue s port) s) 31
     (({ ready with net.cages := [(7, { present := true, usable := true, speeds := [0] })], net.ports := [(31, { onPort with link := .holding, holdRaw := 1 })] })),
    (fun port (s : State) => given (.linkClear port) (fun s => decide (((portSt s port).o.obj = .on ∨ (portSt s
     port).o.obj = .draining) ∧ (portSt s port).link = .holding) && cageAccepts s (port / 4) && holdDue s port) s) 31
     ({ ready with net.cages := [(7, { present := true, usable := true, speeds := [0] })], net.ports := [(31, { onPort with link := .holding })], tim.raw := rawUs 10000 }),
    (fun port (s : State) => given (.linkClear port) (fun s => decide (((portSt s port).o.obj = .on ∨ (portSt s
     port).o.obj = .draining) ∧ (portSt s port).link = .holding) && cageAccepts s (port / 4) && holdDue s port) s) 31
     ({ ready with net.cages := [(7, { present := true, usable := true, speeds := [0] })], net.ports := [(31, { o := { obj := .draining }, link := .holding })], tim.raw := rawUs 10000 }),
    (fun port (s : State) => given (.linkClear port) (fun s => decide ((portSt s port).link = .up)) s) 31 (portIs
     { onPort with link := .up }),
    (fun port (s : State) => given (.linkClear port) (fun s => decide ((portSt s port).o.obj = .off ∨ (portSt s
     port).o.obj = .starting)) s) default ready,
    (fun port (s : State) => given (.linkClear port) (fun s => !cageAccepts s (port / 4)) s) default ready,
    (fun port (s : State) => decide (port < 0x80) && given (.linkHoldExpiry port) (fun s => decide ((portSt s port).link =
     .holding) && holdDue s port) s) 31 (({ portIs { onPort with link := .holding } with tim.raw := rawUs 10000 })),
    (fun port (s : State) => decide (port < 0x80) && given (.linkHoldExpiry port) (fun s => !(decide ((portSt s port).link
     = .holding) && holdDue s port)) s) 31 (({ portIs { onPort with link := .holding } with tim.raw := rawUs 10000 - 1 })),
    (fun port (s : State) => given (.portStarted port) (fun s => decide ((portSt s port).o = ⟨.starting, false, false⟩))
     s) 31 ((portIs { o := ⟨.starting, false, false⟩ })),
    (fun port (s : State) => given (.portStarted port) (fun s => decide ((portSt s port).o = ⟨.starting, true, false⟩)) s)
     31 ((portIs { o := ⟨.starting, true, false⟩ })),
    (fun port (s : State) => given (.portStarted port) (fun s => decide ((portSt s port).o.obj ≠ .starting)) s) default
     ready,
    (fun port (s : State) => given (.portDrainEnd port) (fun s => decide ((portSt s port).o.obj = .draining) &&
     ((destCopies s (port / 4) (port % 4)).isEmpty || decide ((portSt s port).drainRaw + rawUs (portCfg s port).linkHold ≤
     s.tim.raw))) s) 31 ((portIs { o := ⟨.draining, false, false⟩ })),
    (fun port (s : State) => given (.portDrainEnd port) (fun s => decide ((portSt s port).o.obj ≠ .draining)) s) default
     ready,
    (fun port (s : State) => given (.preemptRespond port) (fun s => (portSt s port).verify == 1 && preemptEn (portCfg s
     port)) s) 31 ((portIs { verify := 1 })),
    (fun port (s : State) => given (.preemptRespond port) (fun s => !((portSt s port).verify == 1 && preemptEn (portCfg s
     port))) s) default ready,
    (fun port (s : State) => given (.preemptVerifyTimeout port) (fun s => (portSt s port).verify == 1 && decide ((portSt s
     port).verRaw + rawMs (portCfg s port).verifyTime ≤ s.tim.raw ∧ (portSt s port).verTries < 3)) s) 31
     (({ portIs { verify := 1, verTries := 2 } with tim.raw := rawMs 128 })),
    (fun port (s : State) => given (.preemptVerifyTimeout port) (fun s => (portSt s port).verify == 1 && decide ((portSt s
     port).verRaw + rawMs (portCfg s port).verifyTime ≤ s.tim.raw ∧ 3 ≤ (portSt s port).verTries)) s) 31
     (({ portIs { verify := 1, verTries := 3 } with tim.raw := rawMs 128 })),
    (fun cage fourLanes speeds powerClass (s : State) => given (.cageInsert cage fourLanes speeds powerClass) (fun s =>
     hasDie s cage) s) 7 default default default ready,
    (fun cage fourLanes speeds powerClass (s : State) => given (.cageInsert cage fourLanes speeds powerClass) (fun s =>
     !hasDie s cage) s) 8 default default default ready,
    (fun cage (s : State) => given (.cageRemove cage) (fun s => hasDie s cage && (tgetD s.net.cages cage {}).present) s) 7
     (({ ready with net.cages := [(7, { present := true, usable := true, speeds := [0] })], net.ports := [(31, onPort)] })),
    (fun cage (s : State) => given (.cageRemove cage) (fun s => !(hasDie s cage && (tgetD s.net.cages cage {}).present))
     s) default ready,
    (fun mport (s : State) => given (.mgmtLinkChange mport false) (fun s => decide (mport ≤ 1 ∧ (mgmtCfg s mport).enable ≠
     0 ∧ (mgmtSt s mport).link = .up)) s) 1 (({ ready with net.mgmt := [(1, { link := .up })] })),
    (fun mport (s : State) => given (.mgmtLinkChange mport true) (fun s => decide (mport ≤ 1 ∧ (mgmtCfg s mport).enable ≠
     0 ∧ (mgmtSt s mport).link ≠ .up) && !mgmtHoldDue s mport) s) 1 ready,
    (fun mport (s : State) => given (.mgmtLinkChange mport true) (fun s => decide (mport ≤ 1 ∧ (mgmtCfg s mport).enable ≠
     0) && mgmtHoldDue s mport) s) 1 ({ ready with net.mgmt := [(1, { link := .holding })], tim.raw := rawUs 10000 }),
    (fun m (s : State) => decide (m ≤ 1) && given (.linkHoldExpiry (0x80 + m)) (fun s => mgmtHoldDue s m) s) 1
     ({ ready with net.mgmt := [(1, { link := .holding })], tim.raw := rawUs 10000 }),
    (fun m (s : State) => decide (m ≤ 1) && given (.linkHoldExpiry (0x80 + m)) (fun s => !mgmtHoldDue s m) s) default
     (({ portIs { onPort with link := .holding } with tim.raw := rawUs 10000 })),
    (fun mport up (s : State) => given (.mgmtLinkChange mport up) (fun s => decide (1 < mport ∨ (mgmtCfg s mport).enable =
     0)) s) 2 default ready,
    (fun mport up (s : State) => given (.mgmtLinkChange mport up) (fun s => decide (1 < mport ∨ (mgmtCfg s mport).enable =
     0)) s) 1 default ((withC (fun c => { c with mgmt := [(1, ⟨0, 1518, 0⟩)] })))].all id) = true := by decide +kernel

/-- The hypotheses of PauseRowsAct, clause by clause. -/
theorem test_meets_pauseRowsAct : ([
    (fun port pfc classes quanta (s : State) => decide (port < 0x80) && given (.pauseFrame port pfc classes quanta) (fun s
     => decide ((portSt s port).o.obj = .on)) s) 31 default default default ((portIs onPort)),
    (fun port pfc classes quanta (s : State) => decide (port < 0x80) && given (.pauseFrame port pfc classes quanta) (fun s
     => decide ((portSt s port).o.obj ≠ .on)) s) default default default default ready,
    (fun m pfc classes quanta (s : State) => decide (m ≤ 1) && given (.pauseFrame (0x80 + m) pfc classes quanta) always s)
     1 default default default ready,
    (fun port cls e (s : State) => decide (port < 0x80) && given (.pauseExpiry port cls) (fun s => tget (portSt s
     port).pauseEnd cls == some e && decide (e ≤ s.tim.raw)) s) 31 default 5
     (({ portIs { pauseEnd := [(0, 5)] } with tim.raw := 5 })),
    (fun m cls (s : State) => decide (m ≤ 1) && given (.pauseExpiry (0x80 + m) cls) (fun s => (mgmtSt s m).paused &&
     decide ((mgmtSt s m).pauseEnd ≤ s.tim.raw)) s) 1 default
     ({ ready with net.mgmt := [(1, { paused := true, pauseEnd := 5 })], tim.raw := 5 }),
    (fun port cls (s : State) => decide (port < 0x80) && given (.pauseExpiry port cls)
     (fun s => match tget (portSt s port).pauseEnd cls with | some e => decide (s.tim.raw < e) | none => true) s) 31
     default (({ portIs { pauseEnd := [(0, 5)] } with tim.raw := 4 })),
    (fun port (s : State) => decide (port < 0x80) && given (.pauseWdTrip port) always s) default ready,
    (fun m (s : State) => decide (m ≤ 1) && given (.pauseWdTrip (0x80 + m)) always s) 1 ready,
    (fun m (s : State) => decide (m ≤ 1) && given (.pauseWdHoldEnd (0x80 + m)) (fun s => (mgmtSt s m).wdHold && decide
     ((mgmtSt s m).wdHoldRaw + 500000000 ≤ s.tim.raw)) s) 1
     (({ ready with net.mgmt := [(1, { wdHold := true })], tim.raw := 500000000 })),
    (fun port c (s : State) => decide (port < 0x80) && decide (c < 8) && given (.pauseWdHoldEnd port) (fun s => (portSt s
     port).wdHold == 1 <<< c && decide (tgetD (portSt s port).wdHoldRaw c 0 + rawMs (portCfg s port).pauseWdHold ≤
     s.tim.raw)) s) 31 7 (({ portIs { wdHold := 128 } with tim.raw := rawMs 60000 })),
    (fun port (s : State) => decide (port < 0x80) && given (.pauseWdHoldEnd port) (fun s => (portSt s port).wdHold == 0)
     s) default ready,
    (fun port (s : State) => given (.prpSupervisionSend port) (fun s => hasPort s port && paired s port && periodOver s
     (tget s.net.supRaw (pairKey s port)) 1000000000) s) 31 (withC (fun c =>
     { c with ports := [(31, ⟨0, 2, 30, 1, 255, 0, 0, 10, 2000, 1000, 1000, 10000⟩)] })),
    (fun port (s : State) => given (.prpSupervisionSend port) (fun s => !(hasPort s port && paired s port && periodOver s
     (tget s.net.supRaw (pairKey s port)) 1000000000)) s) 32 ready,
    (fun port (s : State) => given (.prpSupervisionSend port) (fun s => !(hasPort s port && paired s port && periodOver s
     (tget s.net.supRaw (pairKey s port)) 1000000000)) s) 31 (withC (fun c =>
     { c with ports := [(31, ⟨0, 2, 0xFF, 1, 255, 0, 0, 10, 2000, 1000, 1000, 10000⟩)] })),
    (fun port (s : State) => given (.ptpPdelayReq port) (fun s => decide ((portSt s port).o.obj = .on)) s) 31 ((portIs
     onPort)),
    (fun port (s : State) => given (.pdelayReqSend port) (fun s => decide ((portSt s port).o.obj = .on) && periodOver s
     (portSt s port).pdelayRaw 500000000) s) 31 ((portIs onPort)),
    (fun port (s : State) => given (.pdelayReqSend port) (fun s => !periodOver s (portSt s port).pdelayRaw 500000000) s)
     31 ({ portIs { pdelayRaw := some 0 } with tim.raw := 499999999 }),
    (fun port delay (s : State) => given (.ptpPdelayResp port delay) (fun s => decide ((portSt s port).o.obj = .on)) s) 31
     default ((portIs onPort)),
    (fun port (s : State) => given (.ptpPdelayReq port) (fun s => decide ((portSt s port).o.obj ≠ .on)) s) default ready,
    (fun port (s : State) => given (.pdelayReqSend port) (fun s => decide ((portSt s port).o.obj ≠ .on)) s) default ready,
    (fun port delay (s : State) => given (.ptpPdelayResp port delay) (fun s => decide ((portSt s port).o.obj ≠ .on)) s)
     default default ready].all id) = true := by decide +kernel

/-- The hypotheses of SwitchRowsAct, clause by clause. -/
theorem test_meets_switchRowsAct : ([
    (fun port raw sub f (s : State) => decide (port < 0x80) && given (.frameReceive port raw sub f false) (fun s =>
     hasPort s port && decide ((portSt s port).o.obj = .on ∧ f.fault = .none) && !(!(decide (f.da / 16 = 0x0180C200000) ||
     decide (f.da = Config.factoryMac)) &&
     (match staticFind (rxCounts port f (takeInner (port / 4) s)) (port / 4) f.da (classVid s port f).2 with | some (i, _) => (rxCounts port f (takeInner (port / 4) s)).swc.badStatic.contains (port / 4, i) | none => false)))
     s) 31 default default frame0 ((portIs onPort)),
    (fun port raw sub f (s : State) => decide (port < 0x80) && given (.frameReceive port raw sub f true) (fun s => hasPort
     s port && decide ((portSt s port).o.obj = .on ∧ f.fault = .none) && (staticFind (rxCounts port f (takeInner (port / 4)
     s)) (port / 4) f.da (classVid s port f).2).isNone && (learnedFind (rxCounts port f (takeInner (port / 4) s)) (port /
     4) f.da (classVid s port f).2).isSome) s) 31 0 0 ({ frame0 with da := 2 })
     ({ portIs onPort with swc.learned := [⟨7, 2, 1, 30, 0, 0⟩] }),
    (fun port raw sub f p (s : State) => decide (port < 0x80) && given (.frameReceive port raw sub f p) (fun s => hasPort
     s port && decide ((portSt s port).o.obj = .on ∧ f.fault ≠ .none)) s) 31 default default
     (({ frame0 with fault := .smd })) default ((portIs onPort)),
    (fun port raw sub f p (s : State) => decide (port < 0x80) && given (.frameReceive port raw sub f p) (fun s => !hasPort
     s port || decide ((portSt s port).o.obj ≠ .on)) s) 32 default default default default ready,
    (fun port raw sub f p (s : State) => decide (port < 0x80) && given (.frameReceive port raw sub f p) (fun s => !hasPort
     s port || decide ((portSt s port).o.obj ≠ .on)) s) 31 default default default default ready,
    (fun m raw sub f p (s : State) => decide (m ≤ 1) && decide (f.fault = .none) && given (.frameReceive (0x80 + m) raw
     sub f p) (fun s => (mgmtCfg s m).enable == 1) s) 1 default default default default ((withC (fun c =>
     { c with mgmt := [(1, ⟨1, 1518, 0⟩)] }))),
    (fun m raw sub f p (s : State) => decide (m ≤ 1) && decide (f.fault = .pcs) && given (.frameReceive (0x80 + m) raw sub
     f p) (fun s => (mgmtCfg s m).enable == 1) s) 1 default default ({ frame0 with fault := .pcs }) default ready,
    (fun m raw sub f p (s : State) => decide (m ≤ 1) && given (.frameReceive (0x80 + m) raw sub f p) (fun s => (mgmtCfg s
     m).enable == 0) s) 1 default default default default (withC (fun c => { c with mgmt := [(1, ⟨0, 1518, 0⟩)] })),
    (fun die src ports cls f x (s : State) => given (.fabricFrameArrive die src ports cls f) (fun s => arriving s die src
     ports cls f == some x) s) 7 default default default frame0 (⟨7, 0, 0, 0, frame0, default⟩)
     ({ ready with swc.fabric := [⟨7, 0, 0, 0, frame0, default⟩] }),
    (fun die src ports cls f x y (s : State) => decide (sameFlow x y = true) && decide (x ≠ y) && decide (x.die = die) &&
     decide (x.src = src) && decide (x.ports = ports) && decide (x.cls = cls) && decide (x.frame = f) && given
     (.fabricFrameArrive die src ports cls f) (fun s => decide (s.swc.fabric = [y, x]) && !(decide (y.src = src ∧ y.ports =
     ports ∧ y.frame = f))) s) 7 0 0 0 frame0 (⟨7, 0, 0, 0, frame0, default⟩) (⟨7, 0, 0, 0, { frame0 with len := 65 },
     default⟩)
     ({ ready with swc.fabric := [⟨7, 0, 0, 0, { frame0 with len := 65 }, default⟩, ⟨7, 0, 0, 0, frame0, default⟩] }),
    (fun die src ports cls f (s : State) => given (.fabricFrameArrive die src ports cls f) (fun s => (arriving s die src
     ports cls f).isNone) s) default default default default default ready,
    (fun die index (s : State) => given (.staticEntryRewrite die index) always s) default default ready,
    (fun die mac vid (s : State) => given (.learnedEntryAge die mac vid) always s) default default default ready,
    (fun die sa seq (s : State) => given (.ddEntryAge die sa seq) always s) default default default ready,
    (fun port bad c l (s : State) => given (.egressTransmit port bad false) (fun s => decide ((portSt s port).link = .up ∧
     ((portSt s port).o.obj = .on ∨ (portSt s port).o.obj = .draining) ∧ (portSt s port).begun = none) && eligible s port
     == c :: l) s) 31 default copy0 (([])) (({ portIs { onPort with link := .up } with swc.copies := [copy0] })),
    (fun port bad c l (s : State) => given (.egressTransmit port bad true) (fun s => decide ((portSt s port).link = .up ∧
     ((portSt s port).o.obj = .on ∨ (portSt s port).o.obj = .draining) ∧ (portSt s port).begun = none) && eligible s port
     == c :: l) s) 31 default copy0 (([])) (({ portIs { onPort with link := .up } with swc.copies := [copy0] })),
    (fun port bad o b (s : State) => given (.egressTransmit port bad o) (fun s => decide ((portSt s port).link = .up ∧
     (portSt s port).o.obj = .on ∧ (portSt s port).begun = some b ∧ b.held = false ∧ (portSt s port).preemptActive =
     false)) s) 31 default default (⟨{ copy0 with cls := 0, info := ⟨0, 640, none, false, false, .other, none⟩ }, false, 0,
     0, 0⟩)
     ({ portIs { onPort with link := .up, begun := some ⟨{ copy0 with cls := 0, info := ⟨0, 640, none, false, false, .other, none⟩ }, false, 0, 0, 0⟩, preemptActive := false } with tim.raw := 0 }),
    (fun port bad o b c (s : State) => given (.egressTransmit port bad o) (fun s => decide ((portSt s port).link = .up ∧
     (portSt s port).o.obj = .on ∧ (portSt s port).begun = some b ∧ b.held = false ∧ (portSt s port).preemptActive = true)
     && !isExpress s port b.copy.cls && (eligible s port).find? (fun e => isExpress s port e.cls) == some c && decide
     (((portCfg s port).addFrag + 1) * 64 ≤ fragBytes s port b ∧ b.sent + fragBytes s port b < b.copy.info.len)) s) 31
     default default (⟨{ copy0 with cls := 0, info := ⟨0, 640, none, false, false, .other, none⟩ }, false, 0, 0, 0⟩) copy0
     ({ portIs { onPort with link := .up, begun := some ⟨{ copy0 with cls := 0, info := ⟨0, 640, none, false, false, .other, none⟩ }, false, 0, 0, 0⟩, preemptActive := true } with tim.raw := 20, cfg := { ready.cfg with ports := [(31, ⟨0, 2, 0xFF, 1, 128, 1, 0, 10, 2000, 1000, 1000, 10000⟩)] }, swc.copies := [{ copy0 with cls := 0, info := ⟨0, 640, none, false, false, .other, none⟩ }, copy0] }),
    (fun port bad o b c (s : State) => given (.egressTransmit port bad o) (fun s => decide ((portSt s port).link = .up ∧
     (portSt s port).o.obj = .on ∧ (portSt s port).begun = some b ∧ b.held = false ∧ (portSt s port).preemptActive = true)
     && !isExpress s port b.copy.cls && (eligible s port).find? (fun e => isExpress s port e.cls) == some c && decide
     (fragBytes s port b < ((portCfg s port).addFrag + 1) * 64 ∧ b.sent + fragBytes s port b < b.copy.info.len)) s) 31
     default default (⟨{ copy0 with cls := 0, info := ⟨0, 640, none, false, false, .other, none⟩ }, false, 0, 0, 0⟩) copy0
     ({ portIs { onPort with link := .up, begun := some ⟨{ copy0 with cls := 0, info := ⟨0, 640, none, false, false, .other, none⟩ }, false, 0, 0, 0⟩, preemptActive := true } with tim.raw := 10, cfg := { ready.cfg with ports := [(31, ⟨0, 2, 0xFF, 1, 128, 1, 0, 10, 2000, 1000, 1000, 10000⟩)] }, swc.copies := [{ copy0 with cls := 0, info := ⟨0, 640, none, false, false, .other, none⟩ }, copy0] }),
    (fun port bad b (s : State) => given (.egressTransmit port bad true) (fun s => decide ((portSt s port).link = .up ∧
     (portSt s port).o.obj = .on ∧ (portSt s port).begun = some b ∧ b.held = true ∧ (portSt s port).preemptActive = false))
     s) 31 default (⟨{ copy0 with cls := 0, info := ⟨0, 640, none, false, false, .other, none⟩ }, true, 0, 0, 0⟩)
     ({ portIs { onPort with link := .up, begun := some ⟨{ copy0 with cls := 0, info := ⟨0, 640, none, false, false, .other, none⟩ }, true, 0, 0, 0⟩, preemptActive := false } with tim.raw := 0 }),
    (fun port bad b (s : State) => given (.egressTransmit port bad b) (fun s => decide ((portSt s port).link ≠ .up)) s)
     default default default ready].all id) = true := by decide +kernel

/-- The hypotheses of StreamRowsAct, clause by clause. -/
theorem test_meets_streamRowsAct : ([
    (fun die port raw sub f (s : State) => given (.svFrameIngest die port raw sub f) (fun s => queuedBad s die 4 (.sv f))
     s) 7 0 0 0 svf (spoiled 4 (.sv svf)),
    (fun die port raw sub f (s : State) => given (.svFrameIngest die port raw sub f) (fun s => !queuedBad s die 4 (.sv f)
     && !(rxRoom die (takeQueued die 4 (.sv f) s)).1) s) 7 0 0 0 svf ({ ready with svi.rxCount := [(7, 0, 40000000)] }),
    (fun die port raw sub f (s : State) => decide (f.decodable = false) && given (.svFrameIngest die port raw sub f)
     ((svReaches die f)) s) 7 default default default default ready,
    (fun die port raw sub f (s : State) => decide (f.decodable = true) && given (.svFrameIngest die port raw sub f) (fun s
     => svReaches die f s && (svFind (svTaken die f s) f).isNone) s) 7 0 0 0 svf ready,
    (fun die port raw sub f n c (s : State) => decide (f.decodable = true) && decide (strDie n ≠ die) && given
     (.svFrameIngest die port raw sub f) (fun s => svReaches die f s && svFind (svTaken die f s) f == some (n, c)) s) 6 0 0
     0 svf 8191 svCtx0 (streamIs onStr),
    (fun die port raw sub f n c (s : State) => decide (f.decodable = true) && decide (strDie n = die) && given
     (.svFrameIngest die port raw sub f) (fun s => svReaches die f s && svFind (svTaken die f s) f == some (n, c) && decide
     ((strSt (svTaken die f s) n).o.obj ≠ .on)) s) 7 0 0 0 svf 8191 svCtx0 (streamIs {}),
    (fun die port raw sub f n c (s : State) => given (.svFrameIngest die port raw sub f) (fun s => svNamed die n c f s &&
     !onPair (svTaken die f s) c.port port) s) 7 2 0 0 svf 8191 svCtx0 (streamIs onStr),
    (fun die port raw sub f n c (s : State) => given (.svFrameIngest die port raw sub f) (fun s => svNamed die n c f s &&
     onPair (svTaken die f s) c.port port && !svFormatOk c f) s) 7 0 0 0
     ({ svf with asdus := [⟨[1], 1, 2, 4800, 192, [], []⟩] }) 8191 svCtx0 (streamIs onStr),
    (fun die port raw sub f n c (s : State) => decide (f.simulate ≠ c.sim) && given (.svFrameIngest die port raw sub f)
     (fun s => svNamed die n c f s && onPair (svTaken die f s) c.port port && svFormatOk c f) s) 7 0 0 0
     ({ svf with simulate := 0 }) 8191 svCtx0 (streamIs onStr),
    (fun die port raw sub f n c (s : State) => given (.svFrameIngest die port raw sub f) (fun s => svPlain die port n c f
     s && (verifyFrame die c.keySlot f.len raw f.authOk f.authOldOk (svTaken die f s)).isNone) s) 7 0 0 0 svf 8191 svAuth
     ({ authStr (some sKey) with svi := { (authStr (some sKey)).svi with authFree := [(7, 31876)] } }),
    (fun die port raw sub f n c t (s : State) => given (.svFrameIngest die port raw sub f) (fun s => svPlain die port n c
     f s && verifyFrame die c.keySlot f.len raw f.authOk f.authOldOk (svTaken die f s) == some (false, t)) s) 7 0 0 0 svf
     8191 svAuth
     (match verifyFrame 7 9 100 0 true false (svTaken 7 svf (authStr none)) with | some r => r.2 | none => default)
     (authStr none),
    (fun die port raw sub f n c t (s : State) => given (.svFrameIngest die port raw sub f) (fun s => svPlain die port n c
     f s && verifyFrame die c.keySlot f.len raw f.authOk f.authOldOk (svTaken die f s) == some (false, t)) s) 7 0 0 0
     ({ svf with authOk := false }) 8191 svAuth
     (match verifyFrame 7 9 100 0 false false (svTaken 7 { svf with authOk := false } (authStr (some sKey))) with | some r => r.2 | none => default)
     (authStr (some sKey)),
    (fun die port raw sub f n c t (s : State) => given (.svFrameIngest die port raw sub f) (fun s => svPlain die port n c
     f s && verifyFrame die c.keySlot f.len raw f.authOk f.authOldOk (svTaken die f s) == some (true, t)) s) 7 0 0 0 svf
     8191 svAuth
     (match verifyFrame 7 9 100 0 true false (svTaken 7 svf (authStr (some sKey))) with | some r => r.2 | none => default)
     (authStr (some sKey)),
    (fun die port raw sub f n c t (s : State) => given (.svFrameIngest die port raw sub f) (fun s => svPlain die port n c
     f s && verifyFrame die c.keySlot f.len raw f.authOk f.authOldOk (svTaken die f s) == some (true, t)) s) 7 0 0 0 svf
     8191 svCtx0 (svTaken 7 svf (streamIs onStr)) (streamIs onStr),
    (fun stream c (s : State) => given (.instantDue stream) (fun s => svCtx s stream == some c && decide ((strSt s
     stream).o.obj = .on) && decide (munits (dueTime c (lowestUndecided (strSt s stream))) + (if c.keySlot = 0xFFFF then
     4000 else 16000) * two32 ≤ munits (now s))) s) 8191 svCtx0
     (({ streamIs { onStr with nextRelease := 1 } with tim.cur.offset := ⟨1, 0, 0⟩ })),
    (fun stream c (s : State) => given (.instantDue stream) (fun s => svCtx s stream == some c && decide ((strSt s
     stream).o.obj = .on) && decide (munits (now s) < munits (dueTime c (lowestUndecided (strSt s stream))) + (if c.keySlot
     = 0xFFFF then 4000 else 16000) * two32)) s) 8191 svCtx0
     ({ streamIs { onStr with nextRelease := 4800 } with tim.cur.offset := ⟨0, 999999999, 0⟩ }),
    (fun stream c (s : State) => given (.instantDue stream) (fun s => svCtx s stream == some c && decide ((strSt s
     stream).o.obj = .draining)) s) 8191 svCtx0 (streamIs { o := { obj := .draining } }),
    (fun stream c (s : State) => given (.instantDue stream) (fun s => svCtx s stream == some c && decide ((strSt s
     stream).o.obj = .off ∨ (strSt s stream).o.obj = .starting)) s) 8191 svCtx0 (streamIs {}),
    (fun stream c (s : State) => given (.instantDue stream) (fun s => svCtx s stream == some c && decide ((strSt s
     stream).o.obj = .off ∨ (strSt s stream).o.obj = .starting)) s) 8191 svCtx0 (streamIs
     { o := ⟨.starting, false, false⟩ }),
    (fun stream (s : State) => given (.instantDue stream) (fun s => (svCtx s stream).isNone) s) default ready,
    (fun stream c (s : State) => given (.streamOn stream) (fun s => svCtx s stream == some c && decide ((strSt s stream).o
     = ⟨.starting, false, false⟩)) s) 8191 svCtx0 ((streamIs { o := ⟨.starting, false, false⟩ })),
    (fun stream c (s : State) => given (.streamOn stream) (fun s => svCtx s stream == some c && decide ((strSt s stream).o
     = ⟨.starting, true, false⟩)) s) 8191 svCtx0 (streamIs { o := ⟨.starting, true, false⟩ }),
    (fun stream c (s : State) => given (.streamOn stream) (fun s => svCtx s stream == some c && decide ((strSt s
     stream).o.obj ≠ .starting)) s) 8191 svCtx0 ((streamIs onStr)),
    (fun stream (s : State) => given (.streamOn stream) (fun s => (svCtx s stream).isNone) s) 8191 ready,
    (fun stream c r l (s : State) => given (.filterOutput stream) (fun s => svCtx s stream == some c && (strSt s
     stream).released == r :: l && !laneFull (strSt s stream)) s) 8191 svCtx0 rel0 (([])) ((streamIs
     { onStr with released := [rel0], lane := List.replicate 15 [] })),
    (fun stream c r l (s : State) => given (.filterOutput stream) (fun s => svCtx s stream == some c && (strSt s
     stream).released == r :: l && laneFull (strSt s stream)) s) 8191 svCtx0 rel0 (([])) ((streamIs
     { onStr with released := [rel0], lane := List.replicate 16 [] })),
    (fun stream c (s : State) => given (.filterOutput stream) (fun s => svCtx s stream == some c && (strSt s
     stream).released.isEmpty) s) 8191 svCtx0 ((streamIs onStr)),
    (fun stream (s : State) => given (.filterOutput stream) (fun s => (svCtx s stream).isNone) s) 8191 ready].all id) = true := by decide +kernel

/-- The hypotheses of GooseRowsAct, clause by clause. -/
theorem test_meets_gooseRowsAct : ([
    (fun die port raw sub f (s : State) => given (.gooseFrameCheck die port raw sub f) (fun s => queuedBad s die 5 (.goose
     f)) s) 7 31 0 0 gsf (spoiled 5 (.goose gsf)),
    (fun die port raw sub f (s : State) => decide (f.decodable = false) && given (.gooseFrameCheck die port raw sub f)
     (fun s => !queuedBad s die 5 (.goose f)) s) default default default default default ready,
    (fun die port raw sub f (s : State) => decide (f.decodable = true) && given (.gooseFrameCheck die port raw sub f) (fun
     s => !queuedBad s die 5 (.goose f) && (gsFind (takeQueued die 5 (.goose f) s) f).isNone) s) 7 31 0 0 gsf ready,
    (fun die port raw sub f n c (s : State) => decide (f.decodable = true) && given (.gooseFrameCheck die port raw sub f)
     (fun s => !queuedBad s die 5 (.goose f) && gsFind (takeQueued die 5 (.goose f) s) f == some (n, c) && decide (n / 4096
     ≠ die)) s) 6 31 0 0 gsf 32767 gsCtx0 (gsIs { o := { obj := .on } }),
    (fun die port raw sub f n c (s : State) => decide (f.decodable = true) && given (.gooseFrameCheck die port raw sub f)
     (fun s => !queuedBad s die 5 (.goose f) && gsFind (takeQueued die 5 (.goose f) s) f == some (n, c) && decide (n / 4096
     = die ∧ (gsSt (takeQueued die 5 (.goose f) s) n).o.obj ≠ .on)) s) 7 31 0 0 gsf 32767 gsCtx0 (gsIs {}),
    (fun die port raw sub f n c vals s2 (s : State) => decide (f.decodable = true) && decide (f.datset = c.datset) &&
     decide (f.members.length = c.nentries) && decide (f.ndsCom = false) && decide (f.simulation = c.sim) && decide
     (f.confRev = c.confRev) && given (.gooseFrameCheck die port raw sub f)
     (fun s => let a := takeQueued die 5 (.goose f) s; !queuedBad s die 5 (.goose f) && gsFind a f == some (n, c) && decide (n / 4096 = die ∧ (gsSt a n).o.obj = .on) && onPair a c.port port && decodeAll a f c.map == some vals && verifyFrame die c.keySlot f.len raw f.authOk f.authOldOk a == some (true, s2))
     s) 7 31 default default gsf 32767 gsCtx0 (([(1, 0)])) ((gsIs { o := { obj := .on } })) ((gsIs
     { o := { obj := .on } })),
    (fun ctx c (s : State) => given (.gsStarted ctx) (fun s => gsCtx s ctx == some c && decide ((gsSt s ctx).o =
     ⟨.starting, false, false⟩)) s) 32767 gsCtx0 ((gsIs { o := ⟨.starting, false, false⟩ })),
    (fun ctx c (s : State) => given (.gsStarted ctx) (fun s => gsCtx s ctx == some c && decide ((gsSt s ctx).o.obj ≠
     .starting)) s) 32767 gsCtx0 ((gsIs {})),
    (fun ctx c d (s : State) => given (.gsDeadline ctx) (fun s => gsCtx s ctx == some c && (gsSt s ctx).deadline == some d
     && decide ((gsSt s ctx).live = .live ∧ (gsSt s ctx).o.obj = .on) && mlt d (now s)) s) 32767 gsCtx0 ((⟨0, 0, 0⟩))
     (({ gsIs { o := { obj := .on }, live := .live, deadline := some ⟨0, 0, 0⟩ } with tim.cur.offset := ⟨0, 1, 0⟩ })),
    (fun ctx c d (s : State) => given (.gsDeadline ctx) (fun s => gsCtx s ctx == some c && (gsSt s ctx).deadline == some d
     && !mlt d (now s)) s) 32767 gsCtx0 ((⟨0, 0, 0⟩)) ((gsIs
     { o := { obj := .on }, live := .live, deadline := some ⟨0, 0, 0⟩ })),
    (fun ctx c (s : State) => given (.gpRetransmit ctx) (fun s => gpCtx s ctx == some c && decide (((gpSt s ctx).o.obj =
     .on ∨ (gpSt s ctx).o.obj = .draining) ∧ (gpSt s ctx).stNum ≠ 0) && gpDue s (gpSt s ctx)) s) 8191 default ((gpIs
     { o := { obj := .on }, stNum := 1 })),
    (fun ctx c (s : State) => given (.gpRetransmit ctx) (fun s => gpCtx s ctx == some c && !gpDue s (gpSt s ctx)) s) 8191
     default ((gpIs { o := { obj := .on }, stNum := 1, nextNs := 1 })),
    (fun ctx c r (s : State) => given (.gpEchoTimeout ctx) (fun s => gpCtx s ctx == some c && (gpSt s ctx).echoRaw == some
     r && decide ((gpSt s ctx).echo = 2 ∧ r ≤ s.tim.raw)) s) 8191 default 0 ((gpIs { echo := 2, echoRaw := some 0 })),
    (fun ctx (s : State) => given (.gpEchoTimeout ctx) (fun s => (gpSt s ctx).echoRaw.isNone) s) default ready,
    (fun ctx (s : State) => decide (ctx < 32768) && given (.gpStarted ctx) (fun s => decide ((gpSt s ctx).o = ⟨.starting,
     false, false⟩)) s) 32767 (({ ready with sig.gp := [(32767, { o := ⟨.starting, false, false⟩ })] })),
    (fun n c (s : State) => given (.gpStarted (32768 + n)) (fun s => svpCtx s n == some c && decide ((svpSt s n).o =
     ⟨.starting, false, false⟩)) s) 2047 svpCtx0 ((svpIs { o := ⟨.starting, false, false⟩ })),
    (fun ctx (s : State) => decide (ctx < 32768) && given (.gpStarted ctx) (fun s => decide ((gpSt s ctx).o.obj ≠
     .starting)) s) 32767 ready,
    (fun stream c (s : State) => given (.svpFrameSend stream) (fun s => svpCtx s stream == some c && decide ((svpSt s
     stream).o.obj = .on ∨ (svpSt s stream).o.obj = .draining) && decide (munits (instantTime c.rate ((svpSt s
     stream).nextInst + c.noasdu - 1)) + c.pubDelay * 1000 * two32 ≤ munits (now s))) s) 2047 svpCtx0
     (({ svpIs { o := { obj := .on } } with tim.cur.offset := ⟨1, 0, 0⟩ })),
    (fun stream c (s : State) => given (.svpFrameSend stream) (fun s => svpCtx s stream == some c && decide ((svpSt s
     stream).o.obj = .off)) s) 2047 svpCtx0 ((svpIs {})),
    (fun stream c (s : State) => given (.svpFrameSend stream) (fun s => svpCtx s stream == some c && decide (munits (now
     s) < munits (instantTime c.rate ((svpSt s stream).nextInst + c.noasdu - 1)) + c.pubDelay * 1000 * two32)) s) 2047
     svpCtx0 ((svpIs {}))].all id) = true := by decide +kernel

/-- The hypotheses of BoundaryRowsAct, clause by clause. -/
theorem test_meets_boundaryRowsAct : ([
    (fun (s : State) => given (.systemCycleBoundary) (fun s => decide (s.pwr.phase = .running ∧ cycleOf s.cfg.cycleLen
     (now s) ≠ s.cycleNum)) s) (({ ready with tim.cur.offset := ⟨1, 0, 0⟩ })),
    (fun (s : State) => given (.systemCycleBoundary) (fun s => decide (s.pwr.phase ≠ .running ∨ cycleOf s.cfg.cycleLen
     (now s) = s.cycleNum)) s) ready,
    (fun (s : State) => given (.configTakeForce) (fun s => decide (s.pwr.phase = .running)) s) ready,
    (fun (s : State) => given (.configTakeForce) (fun s => decide (s.pwr.phase ≠ .running)) s) State.reset,
    (fun handle e (s : State) => given (.scheduleExec handle) (fun s => tget s.grf.sched handle == some e && decide
     (s.pwr.phase = .running ∧ e.action = 4) && (e.late || mle (secNs e.sec e.ns) (now s))) s) 1023
     (({ (default : SchedEntry) with action := 4 }))
     (({ ready with grf.sched := [(1023, { (default : SchedEntry) with action := 4 })] })),
    (fun handle e (s : State) => given (.scheduleExec handle) (fun s => tget s.grf.sched handle == some e && decide
     (s.pwr.phase = .running ∧ e.action = 4) && (e.late || mle (secNs e.sec e.ns) (now s)) && portsUpTo s e == [(handle,
     e)]) s) 1023 (({ (default : SchedEntry) with action := 4 }))
     (({ ready with grf.sched := [(1023, { (default : SchedEntry) with action := 4 })] })),
    (fun handle e (s : State) => given (.scheduleExec handle) (fun s => tget s.grf.sched handle == some e && !e.late &&
     !mle (secNs e.sec e.ns) (now s)) s) 1023 (({ (default : SchedEntry) with ns := 1 }))
     (({ ready with grf.sched := [(1023, { (default : SchedEntry) with ns := 1 })] })),
    (fun handle (s : State) => given (.scheduleExec handle) (fun s => (tget s.grf.sched handle).isNone) s) default ready,
    (fun handle (s : State) => given (.scheduleExec handle) (fun s => decide (s.pwr.phase ≠ .running)) s) 1023 State.reset,
    (fun p (s : State) => given (.heelApply) (fun s => s.flt.pending == some p && mle (secNs p.sec p.ns) (now s)) s) ((⟨5,
     0, true, 0, false⟩)) (({ ready with tim.cur.offset := ⟨5, 0, 0⟩, flt.pending := some ⟨5, 0, true, 0, false⟩ })),
    (fun p (s : State) => given (.heelApply) (fun s => s.flt.pending == some p && !mle (secNs p.sec p.ns) (now s)) s)
     ((⟨5, 0, true, 0, false⟩)) (({ ready with flt.pending := some ⟨5, 0, true, 0, false⟩ })),
    (fun (s : State) => given (.heelApply) (fun s => s.flt.pending.isNone) s) ready,
    (fun raw sub (s : State) => given (.heelNFall raw sub) always s) default default ready,
    (fun raw sub (s : State) => given (.heelNQualify) (fun s => s.flt.heelFall == some (raw, sub) && decide (raw + 500 ≤
     s.tim.raw ∧ s.cfg.pinEn = 1) && s.flt.pending.isNone) s) 0 3
     (({ ready with tim.raw := 500, cfg.pinEn := 1, flt.heelFall := some (0, 3) })),
    (fun raw sub (s : State) => given (.heelNQualify) (fun s => s.flt.heelFall == some (raw, sub) && decide (raw + 500 ≤
     s.tim.raw ∧ s.cfg.pinEn = 1) && s.flt.pending.isSome) s) 0 3
     ({ ready with tim.raw := 500, cfg.pinEn := 1, flt.heelFall := some (0, 3), flt.pending := some ⟨5, 0, true, 0, false⟩ }),
    (fun raw sub (s : State) => given (.heelNQualify) (fun s => s.flt.heelFall == some (raw, sub) && decide (raw + 500 ≤
     s.tim.raw ∧ s.cfg.pinEn ≠ 1)) s) 0 3 (({ ready with tim.raw := 500, flt.heelFall := some (0, 3) })),
    (fun raw sub (s : State) => given (.heelNQualify) (fun s => s.flt.heelFall == some (raw, sub) && decide (s.tim.raw <
     raw + 500)) s) 0 3 (({ ready with tim.raw := 499, flt.heelFall := some (0, 3) })),
    (fun (s : State) => given (.heelNQualify) (fun s => s.flt.heelFall.isNone) s) ready].all id) = true := by decide +kernel

/-- The hypotheses of RecorderRowsAct, clause by clause. -/
theorem test_meets_recorderRowsAct : ([
    (fun e (s : State) => given (.eventRecord e) (fun s => !stageFull s) s) default ready,
    (fun (s : State) => given (.eventWrite) (fun s => s.evr.staging.isEmpty) s) ready,
    (fun (s : State) => given (.eventWrite) (fun s => !s.evr.staging.isEmpty && s.pair.flags.getLsbD 0) s)
     ({ ready with evr.staging := [default], pair.flags := 1 }),
    (fun (s : State) => given (.eventWrite) (fun s => !s.evr.staging.isEmpty && !s.pair.flags.getLsbD 0 && dueAgain 9 0
     500 s) s) ({ ready with evr.staging := [default], tim.raw := 500, pair.lastRun := [((9, 0), 0)] }),
    (fun (s : State) => given (.eventWrite) (fun s => !s.pair.flags.getLsbD 0 && !dueAgain 9 0 500 s) s)
     ({ ready with evr.staging := [default], tim.raw := 499, pair.lastRun := [((9, 0), 0)] }),
    (fun code obj w e (s : State) => given (.eventWindowClose code obj) (fun s => findWindow s code obj == some w &&
     decide (w.openRaw + 500000000 ≤ s.tim.raw) && countedEvent w == some e) s) 0x0A03 1 win0
     (({ (default : Event) with p1 := 7 })) (({ ready with evr.windows := [win0], tim.raw := 500000000 })),
    (fun code obj w (s : State) => given (.eventWindowClose code obj) (fun s => findWindow s code obj == some w && decide
     (w.openRaw + 500000000 ≤ s.tim.raw) && (countedEvent w).isNone) s) 0 0 default
     (({ ready with evr.windows := [default], tim.raw := 500000000 })),
    (fun code obj w (s : State) => given (.eventWindowClose code obj) (fun s => findWindow s code obj == some w && decide
     (s.tim.raw < w.openRaw + 500000000)) s) 0x0A03 1 win0 (({ ready with evr.windows := [win0], tim.raw := 499999999 })),
    (fun code obj (s : State) => given (.eventWindowClose code obj) (fun s => (findWindow s code obj).isNone) s) default
     default ready].all id) = true := by decide +kernel

/-- The hypotheses of GraphRowsAct, clause by clause. -/
theorem test_meets_graphRowsAct : ([
    (fun stream outs rest (s : State) => given (.matchOperand stream) (fun s => (strSt s stream).lane == outs :: rest &&
     (refusedAt s (groupOperands s outs)).isNone) s) default (([cout])) (([]))
     (({ running with svi.streams := [(0, { lane := [[cout]] })] })),
    (fun stream outs rest r (s : State) => given (.matchOperand stream) (fun s => (strSt s stream).lane == outs :: rest &&
     refusedAt s (groupOperands s outs) == some r) s) 0 ([cout]) ([]) 0
     ({ running with svi.streams := [(0, { lane := [[cout]] })], grf.store := (List.range 1024).map (fun k => ⟨0, k + 2, [none], false, true, true, 0, false⟩) }),
    (fun stream (s : State) => given (.matchOperand stream) (fun s => (strSt s stream).lane.isEmpty) s) default ready,
    (fun node inst e (s : State) => given (.graceFill node inst) (fun s => findEntry s node inst == some e && (e.ready ||
     !graceDue s node inst)) s) default 1 ent0 (({ running with grf.store := [ent0] })),
    (fun node inst (s : State) => given (.graceFill node inst) (fun s => (findEntry s node inst).isNone) s) default
     default ready,
    (fun node inst e g r (s : State) => given (.graceFill node inst) (fun s => findEntry s node inst == some e && !e.ready
     && graceDue s node inst && nodeAt s node == some (g, r)) s) default 1 ent0 511 scaleNode
     (({ running with grf.store := [ent0], tim.cur.offset := ⟨1, 0, 0⟩ })),
    (fun region cluster bad (s : State) => given (.dispatch region cluster bad) always s) default default default ready,
    (fun node f outs st (s : State) => given (.firingCommit node .good) (fun s => serviceOf s node == some f && f.result
     == some (outs, st) && !(nodeSt s node).lost) s) default (({ fir0 with result := some ([], {}) })) (([])) (({}))
     ((serves { fir0 with result := some ([], {}) })),
    (fun node f outs st (s : State) => given (.firingCommit node .good) (fun s => serviceOf s node == some f && f.result
     == some (outs, st) && (nodeSt s node).lost) s) default (({ fir0 with result := some ([], {}) })) (([])) (({}))
     (({ serves { fir0 with result := some ([], {}) } with grf.nodes := [(0, { lost := true })] })),
    (fun node f (s : State) => given (.firingCommit node .good) (fun s => serviceOf s node == some f && f.result.isNone)
     s) default fir0 ((serves fir0)),
    (fun node f (s : State) => given (.firingCommit node .buffer) (fun s => serviceOf s node == some f) s) default fir0
     ((serves fir0)),
    (fun node f (s : State) => given (.firingCommit node .state) (fun s => serviceOf s node == some f && !isStandby s) s)
     default fir0 ((serves fir0)),
    (fun node f (s : State) => given (.firingCommit node .state) (fun s => serviceOf s node == some f && isStandby s) s) 0
     fir0 ({ serves fir0 with pair.state := .standby }),
    (fun node f (s : State) => given (.firingCommit node .stateAndCheckpoint) (fun s => serviceOf s node == some f &&
     !isStandby s) s) default fir0 ((serves fir0)),
    (fun node p (s : State) => given (.firingCommit node p) (fun s => (serviceOf s node).isNone) s) default default ready].all id) = true := by decide +kernel

/-- The hypotheses of PlacementRowsAct, clause by clause. -/
theorem test_meets_placementRowsAct : ([
    (fun region (s : State) => given (.migrationStart region) (fun s => !(s.plm.migs.filter (fun m => migRegion s m ==
     region)).any (·.started.isSome)) s) default ready,
    (fun region (s : State) => given (.migrationStart region) (fun s => (s.plm.migs.filter (fun m => migRegion s m ==
     region)).any (·.started.isSome)) s) default (({ ready with plm.migs := [mig0] })),
    (fun node m (s : State) => given (.migrationComplete node) (fun s => s.plm.migs.find? (fun m => m.node == node &&
     m.started.isSome) == some m) s) default mig0 (({ ready with plm.migs := [mig0] })),
    (fun node (s : State) => given (.migrationComplete node) (fun s => (s.plm.migs.find? (fun m => m.node == node &&
     m.started.isSome)).isNone) s) default ready,
    (fun node m r (s : State) => given (.deferWarnExpiry node) (fun s => s.plm.migs.find? (fun m => m.node == node &&
     m.started.isNone && !m.warned) == some m && m.deferRaw == some r && decide (rawMs s.cfg.deferWarn < s.tim.raw - r)) s)
     default migWait 0 (({ ready with plm.migs := [migWait], tim.raw := rawMs 1000 + 1 })),
    (fun node (s : State) => given (.deferWarnExpiry node) (fun s => (s.plm.migs.find? (fun m => m.node == node &&
     m.started.isNone && !m.warned)).isNone) s) default ready,
    (fun die region cluster (s : State) => decide (region ≤ 3) && decide (cluster ≤ 7) && given (.rebalanceCheck die
     region cluster) (fun s => hasDie s die && !overloaded (clusterNo ⟨die, region, cluster⟩) s) s) 7 3 7
     ({ ready with tim.raw := 1000000000, grf.unitBusy := (List.range 8).map (fun u => (2040 + u, 2, 0, 900000000)), plm.meas := [(255, 1, 850, 0)] }),
    (fun die region cluster (s : State) => decide (region ≤ 3) && decide (cluster ≤ 7) && given (.rebalanceCheck die
     region cluster) (fun s => hasDie s die && overloaded (clusterNo ⟨die, region, cluster⟩) s && s.plm.frozen) s) 7 3 7
     ({ ready with tim.raw := 1000000000, grf.unitBusy := (List.range 8).map (fun u => (2040 + u, 2, 0, 852000000)), plm.meas := [(255, 1, 851, 0)], plm.frozen := true }),
    (fun die region cluster (s : State) => decide (region ≤ 3) && decide (cluster ≤ 7) && given (.rebalanceCheck die
     region cluster) (fun s => hasDie s die && overloaded (clusterNo ⟨die, region, cluster⟩) s && !s.plm.frozen) s) 7 3 7
     ({ ready with tim.raw := 1000000000, grf.unitBusy := (List.range 8).map (fun u => (2040 + u, 2, 0, 852000000)), plm.meas := [(255, 1, 851, 0)] }),
    (fun die region cluster (s : State) => given (.rebalanceCheck die region cluster) (fun s => !hasDie s die || decide (3
     < region ∨ 7 < cluster)) s) default default 255 ready,
    (fun die (s : State) => given (.consolidation die) (fun s => decide (s.cfg.consolidate ≠ 1) || s.plm.frozen ||
     !dieHealthy s die) s) default ready,
    (fun die (s : State) => given (.consolidation die) (fun s => decide (s.cfg.consolidate = 1) && !s.plm.frozen &&
     dieHealthy s die && dueAgain 7 die 5000000000 s) s) 7 consol,
    (fun die (s : State) => given (.consolidation die) (fun s => !dueAgain 7 die 5000000000 s) s) 7
     ({ consol with tim.raw := 4999999999, pair.lastRun := [((7, 7), 0)] }),
    (fun die k (s : State) => given (.clusterBist die) (fun s => decide (s.pair.state ≠ .failed) && dieHealthy s die &&
     !thas s.plm.bist die && dueAgain 2 die 468750000 s && nextBist s die == some k) s) 7 224 ready,
    (fun die (s : State) => given (.clusterBist die) (fun s => decide (s.pair.state = .failed) || !dieHealthy s die ||
     thas s.plm.bist die) s) 8 ready,
    (fun die (s : State) => given (.clusterBist die) (fun s => decide (s.pair.state = .failed) || !dieHealthy s die ||
     thas s.plm.bist die) s) 7 ((withBist bist0)),
    (fun die (s : State) => given (.clusterBist die) (fun s => !dueAgain 2 die 468750000 s) s) 7
     ({ ready with tim.raw := 468749999, pair.lastRun := [((2, 7), 0)] }),
    (fun die b (s : State) => given (.evPlmBistSkip die) (fun s => tget s.plm.bist die == some b && !b.testing && decide
     (50000000 ≤ s.tim.raw - b.reqRaw) && !(clusterNodes s (clusterLoc b.cluster)).isEmpty) s) 7 bist0
     ({ running with plm.nodeLoc := [(0, ⟨7, 3, 7⟩)], plm.bist := [(7, bist0)], tim.raw := 50000000 }),
    (fun die (s : State) => given (.evPlmBistSkip die) (fun s => (tget s.plm.bist die).isNone) s) default ready,
    (fun die b (s : State) => given (.clusterTestEnd die true) (fun s => tget s.plm.bist die == some b && b.testing) s) 7
     (({ bist0 with testing := true })) ((withBist { bist0 with testing := true })),
    (fun die b (s : State) => given (.clusterTestEnd die false) (fun s => tget s.plm.bist die == some b && b.testing) s) 7
     (({ bist0 with testing := true })) ((withBist { bist0 with testing := true })),
    (fun die ok b (s : State) => given (.clusterTestEnd die ok) (fun s => tget s.plm.bist die == some b && !b.testing) s)
     7 default bist0 ((withBist bist0)),
    (fun die readable (s : State) => given (.dieEvacuation die readable) always s) default default ready,
    (fun die b (s : State) => given (.evPlmBistSkip die) (fun s => tget s.plm.bist die == some b && !b.testing && decide
     (50000000 ≤ s.tim.raw - b.reqRaw) && (clusterNodes s (clusterLoc b.cluster)).isEmpty) s) 7 bist0
     (({ withBist bist0 with tim.raw := 50000000 }))].all id) = true := by decide +kernel

/-- The hypotheses of ScanRowsAct, clause by clause. -/
theorem test_meets_scanRowsAct : ([
    (fun proc steps sc (s : State) => given (.logicScan proc steps false) (fun s => scanOf s proc == some sc) s) 31
     default default (({ ready with lgc.scans := [(31, default)] })),
    (fun proc steps (s : State) => given (.logicScan proc steps false) (fun s => (scanOf s proc).isNone && !headAwaited s)
     s) default default ready,
    (fun proc steps (s : State) => given (.logicScan proc steps false) (fun s => (scanOf s proc).isNone && headAwaited s)
     s) 31 default (paired_ .standby),
    (fun proc steps sc (s : State) => given (.logicScan proc steps true) (fun s => scanOf s proc == some sc) s) 31 default
     default (({ ready with lgc.scans := [(31, default)] })),
    (fun r t (s : State) => given (.keyPositionChange r t) (fun s => decide (keyPosition s.lgc.runN s.lgc.stopN =
     keyPosition r t)) s) true true ready,
    (fun r t (s : State) => given (.keyPositionChange r t) (fun s => decide (keyPosition s.lgc.runN s.lgc.stopN ≠
     keyPosition r t)) s) false true ready].all id) = true := by decide +kernel

/-- The hypotheses of LoopRowsAct, clause by clause. -/
theorem test_meets_loopRowsAct : ([
    (fun p n i (s : State) => given (.loopSample) (fun s => dueSample s == some (p, n) && loopInput s p n == some i) s)
     sigLoop 0 (((loopInput (loopOn sigLoop) sigLoop 0).getD (0, 0))) ((loopOn sigLoop)),
    (fun p n (s : State) => given (.loopSample) (fun s => dueSample s == some (p, n) && (loopInput s p n).isNone) s)
     nodeLoop 0 ((loopOn nodeLoop)),
    (fun (s : State) => given (.loopSample) (fun s => (dueSample s).isNone) s) ready,
    (fun p n (s : State) => given (.loopWaitExpiry) (fun s => dueSample s == some (p, n) && (loopInput s p n).isNone &&
     decide (munits (instantTime p.rate n) + p.loopWait * 1000 * two32 ≤ munits (now s))) s) nodeLoop 0
     (({ loopOn nodeLoop with tim.cur.offset := ⟨0, 50000, 0⟩ })),
    (fun p n (s : State) => given (.loopWaitExpiry) (fun s => dueSample s == some (p, n) && decide (munits (now s) <
     munits (instantTime p.rate n) + p.loopWait * 1000 * two32)) s) nodeLoop 0
     (({ loopOn nodeLoop with tim.cur.offset := ⟨0, 49999, 0⟩ })),
    (fun (s : State) => given (.loopWaitExpiry) (fun s => (dueSample s).isNone) s) ready].all id) = true := by decide +kernel

/-- The hypotheses of PairRowsAct, clause by clause. -/
theorem test_meets_pairRowsAct : ([
    (fun (s : State) => given (.healthReportSend) (fun s => reports s && dueAgain 0 0 475000 s) s) ready,
    (fun (s : State) => given (.healthReportSend) (fun s => !dueAgain 0 0 475000 s) s)
     ({ ready with tim.raw := 474999, pair.lastRun := [((0, 0), 0)] }),
    (fun (s : State) => given (.healthReportSend) (fun s => !reports s) s) State.reset,
    (fun m (s : State) => decide (m.viaArb = true) && decide (m.crcOk = false) && given (.tokenMessage m) always s)
     (({ (default : TokenMsg) with viaArb := true })) ready,
    (fun m (s : State) => decide (m.viaArb = false) && given (.tokenMessage m) (fun s => !standalone s && tokenAuth s m &&
     decide (s.pair.epoch ≤ m.epoch)) s) (({ (default : TokenMsg) with macOk := true })) armed,
    (fun m (s : State) => decide (m.viaArb = false) && given (.tokenMessage m) (fun s => !standalone s && !tokenAuth s m)
     s) default ready,
    (fun m (s : State) => decide (m.viaArb = false) && given (.tokenMessage m) (fun s => !standalone s && tokenAuth s m &&
     decide (m.epoch < s.pair.epoch)) s) (({ (default : TokenMsg) with macOk := true })) (({ armed with pair.epoch := 1 })),
    (fun e (s : State) => given (.leaseExpiry) (fun s => !standalone s && actsActive s && s.pair.leaseEnd == some e &&
     decide (e ≤ s.tim.raw)) s) 5 (({ paired_ .solo with pair.leaseEnd := some 5, tim.raw := 5 })),
    (fun e (s : State) => given (.leaseExpiry) (fun s => s.pair.leaseEnd == some e && decide (s.tim.raw < e)) s) 5
     (({ paired_ .solo with pair.leaseEnd := some 5, tim.raw := 4 })),
    (fun (s : State) => given (.leaseExpiry) (fun s => standalone s || !actsActive s) s) ready,
    (fun (s : State) => given (.heartbeatTimeout) (fun s => decide (s.pair.state = .active ∧ s.cfg.cycleLen * 500000000 ≤
     (s.tim.raw - s.pair.heartbeatRaw) * 1152000)) s) (({ paired_ .active with tim.raw := 500000 })),
    (fun (s : State) => given (.heartbeatTimeout) (fun s => decide (s.pair.state ≠ .active ∨ (s.tim.raw -
     s.pair.heartbeatRaw) * 1152000 < s.cfg.cycleLen * 500000000)) s) (({ paired_ .active with tim.raw := 499999 })),
    (fun (s : State) => given (.syncTimeoutExpiry) (fun s => decide (s.pair.state = .syncing ∧ rawSec
     s.cfg.pair.syncTimeout ≤ s.tim.raw - s.pair.syncRaw)) s) (({ paired_ .syncing with tim.raw := rawSec 60 })),
    (fun (s : State) => given (.syncTimeoutExpiry) (fun s => decide (s.pair.state ≠ .syncing)) s) ready,
    (fun key f (s : State) => given (.shadowLagExpiry key) (fun s => s.pair.shadow.find? (fun f => f.key == key) == some f
     && decide (rawUs s.cfg.pair.lag ≤ s.tim.raw - f.raw)) s) default default
     (({ ready with pair.shadow := [default], tim.raw := rawUs 8 })),
    (fun key f (s : State) => given (.shadowLagExpiry key) (fun s => s.pair.shadow.find? (fun f => f.key == key) == some f
     && decide (s.tim.raw - f.raw < rawUs s.cfg.pair.lag)) s) default default
     (({ ready with pair.shadow := [default], tim.raw := rawUs 8 - 1 })),
    (fun b (s : State) => given (.relinquishTimeout) (fun s => s.pair.relinquish == some b && decide (25000000 ≤ s.tim.raw
     - s.pair.relinquishRaw)) s) book (({ ready with pair.relinquish := some book, tim.raw := 25000000 })),
    (fun b (s : State) => given (.relinquishTimeout) (fun s => s.pair.relinquish == some b && decide (s.tim.raw -
     s.pair.relinquishRaw < 25000000)) s) book (({ ready with pair.relinquish := some book, tim.raw := 24999999 })),
    (fun (s : State) => given (.relinquishTimeout) (fun s => s.pair.relinquish.isNone) s) ready,
    (fun e (s : State) => given (.mirrorApply) (fun s => s.pair.mirrors.find? (fun e => e.2.ended && e.1 + 1 ==
     s.cycleNum) == some e && follows s) s) (((0, { (default : Mirror) with ended := true })))
     (({ paired_ .standby with cycleNum := 1, pair.mirrors := [(0, { (default : Mirror) with ended := true })] })),
    (fun (s : State) => given (.mirrorApply) (fun s => (s.pair.mirrors.find? (fun e => e.2.ended && e.1 + 1 ==
     s.cycleNum)).isNone) s) ready].all id) = true := by decide +kernel

/-- The hypotheses of LeashRowsAct, clause by clause. -/
theorem test_meets_leashRowsAct : ([
    (fun lane (s : State) => given (.leashLaneState lane true) (fun s => decide (lane < Config.lanes s.variant) &&
     !standalone s && !(laneSt s lane).up && !(laneSt s lane).stopped) s) 15 ready,
    (fun lane (s : State) => given (.leashLaneState lane true) (fun s => (laneSt s lane).up || (laneSt s lane).stopped) s)
     15 (leashed laneUp .solo),
    (fun lane (s : State) => given (.leashLaneState lane true) (fun s => (laneSt s lane).up || (laneSt s lane).stopped) s)
     15 (leashed { laneUp with up := false, stopped := true } .solo),
    (fun lane (s : State) => given (.leashLaneState lane false) (fun s => decide (lane < Config.lanes s.variant) &&
     !standalone s) s) 15 ready,
    (fun lane up (s : State) => given (.leashLaneState lane up) (fun s => decide (Config.lanes s.variant ≤ lane) ||
     standalone s) s) 16 default ready,
    (fun l seq f rest (s : State) => given (.leashAck l seq) (fun s => leashTagged l s && framesFrom (laneSt s l.lane) seq
     == f :: rest) s) link 0xFFFFFF (⟨0xFFFFFF, .heartbeat 1 0, none⟩) ([]) (leashed
     { laneUp with unacked := [⟨0xFFFFFF, .heartbeat 1 0, none⟩] } .solo),
    (fun l seq (s : State) => given (.leashAck l seq) (fun s => leashTagged l s && (framesFrom (laneSt s l.lane)
     seq).isEmpty) s) link 0 (leashed { laneUp with unacked := [⟨0xFFFFFF, .heartbeat 1 0, none⟩] } .solo),
    (fun l seq (s : State) => given (.leashNak l seq) (fun s => leashTagged l s && !(framesFrom (laneSt s l.lane)
     seq).isEmpty && decide ((laneSt s l.lane).nonce + (framesFrom (laneSt s l.lane) seq).length < 2 ^ 48)) s) link
     0xFFFFFF (leashed { laneUp with unacked := [⟨0xFFFFFF, .heartbeat 1 0, none⟩] } .solo),
    (fun l seq (s : State) => given (.leashNak l seq) (fun s => leashTagged l s && !(framesFrom (laneSt s l.lane)
     seq).isEmpty && decide (2 ^ 48 ≤ (laneSt s l.lane).nonce + (framesFrom (laneSt s l.lane) seq).length)) s) link
     0xFFFFFF (leashed { laneUp with unacked := [⟨0xFFFFFF, .heartbeat 1 0, none⟩], nonce := 2 ^ 48 - 1 } .solo),
    (fun lane (s : State) => given (.ackSend lane) (fun s => (laneSt s lane).up && (laneSt s lane).ackDue) s) 15 ((leashed
     { laneUp with ackDue := true } .solo)),
    (fun lane (s : State) => given (.ackSend lane) (fun s => !((laneSt s lane).up && (laneSt s lane).ackDue)) s) 15 ready,
    (fun lane (s : State) => given (.heartbeatSend lane) (fun s => laneOk s lane && leashKey s && !standalone s && decide
     ((laneSt s lane).txRaw + 5000 ≤ s.tim.raw) && !wraps s lane) s) 15
     ({ leashed { laneUp with nonce := 2 ^ 48 - 2 } .solo with tim.raw := 5000 }),
    (fun lane (s : State) => given (.heartbeatSend lane) (fun s => laneOk s lane && leashKey s && !standalone s && decide
     ((laneSt s lane).txRaw + 5000 ≤ s.tim.raw) && wraps s lane) s) 15
     ({ leashed { laneUp with nonce := 2 ^ 48 - 1 } .solo with tim.raw := 5000 }),
    (fun lane (s : State) => given (.heartbeatSend lane) (fun s => !(laneOk s lane && leashKey s && !standalone s &&
     decide ((laneSt s lane).txRaw + 5000 ≤ s.tim.raw))) s) 15 ((leashed laneUp .solo)),
    (fun l state epoch (s : State) => given (.leashHeartbeat l state epoch) (fun s => leashGood l s && decide
     (s.pair.state = .active ∧ (state = 1 ∨ state = 2))) s) link 1 default ((leashed laneUp .active)),
    (fun l state epoch (s : State) => given (.leashHeartbeat l state epoch) (fun s => leashGood l s && decide
     (s.pair.state = .active ∧ (state = 1 ∨ state = 2))) s) link 2 default ((leashed laneUp .active)),
    (fun l state epoch (s : State) => given (.leashHeartbeat l state epoch) (fun s => leashGood l s && decide
     (s.pair.state = .active ∧ state ≠ 1 ∧ state ≠ 2)) s) link 3 default ((leashed laneUp .active)),
    (fun l state epoch (s : State) => given (.leashHeartbeat l state epoch) (fun s => leashGood l s && decide
     (s.pair.state = .active ∧ state ≠ 1 ∧ state ≠ 2)) s) link 0 default ((leashed laneUp .active)),
    (fun l cycle gen dts (s : State) => given (.leashHead l cycle gen dts) (fun s => leashGood l s && decide (s.pair.epoch
     = l.epoch ∧ s.pair.state = .standby)) s) link default default default ((leashed laneUp .standby)),
    (fun l cycle instants (s : State) => given (.leashAdmit l cycle instants) (fun s => leashGood l s && decide
     (s.pair.epoch ≤ l.epoch) && follows s) s) link default default ((leashed laneUp .syncing)),
    (fun l cycle page data (s : State) => given (.leashPage l cycle page data) (fun s => leashGood l s && decide
     (s.pair.epoch ≤ l.epoch ∧ s.pair.state = .standby)) s) link default default default ((leashed laneUp .standby)),
    (fun l cycle digests (s : State) => given (.leashCdigest l cycle digests) (fun s => leashGood l s && decide
     (s.pair.epoch ≤ l.epoch) && follows s) s) link default default ((leashed laneUp .standby)),
    (fun l cycle admits pages cdigests crc (s : State) => given (.leashEnd l cycle admits pages cdigests crc) (fun s =>
     leashGood l s && decide (s.pair.epoch ≤ l.epoch) && follows s && (mirrorOf s cycle).counts != (admits, pages,
     cdigests)) s) link 7 1 0 1 0 (leashed laneUp .standby),
    (fun l key prpSeq crc f (s : State) => given (.leashFdigest l key prpSeq crc) (fun s => leashGood l s && decide
     (s.pair.epoch ≤ l.epoch ∧ s.pair.state = .standby) && s.pair.shadow.find? (fun f => f.key == key) == some f) s) link
     default default default default (({ leashed laneUp .standby with pair.shadow := [default] })),
    (fun l key prpSeq crc (s : State) => given (.leashFdigest l key prpSeq crc) (fun s => leashGood l s && decide
     (s.pair.epoch ≤ l.epoch ∧ s.pair.state = .standby) && (s.pair.shadow.find? (fun f => f.key == key)).isNone) s) link
     default default default ((leashed laneUp .standby)),
    (fun l index value effect (s : State) => given (.leashCoef l index value effect) (fun s => leashGood l s && decide
     (s.pair.epoch ≤ l.epoch ∧ index ≤ 36) && follows s) s) link 36 default default ((leashed laneUp .standby)),
    (fun l page (s : State) => given (.leashPageReq l page) ((leashGood l)) s) link default ((leashed laneUp .active)),
    (fun l page pages (s : State) => given (.leashPageResp l page pages) ((leashGood l)) s) link default default ((leashed
     laneUp .syncing)),
    (fun l partNumber brev (s : State) => given (.leashSync l 0 partNumber brev) (fun s => leashGood l s && decide
     (s.pair.state = .active)) s) link default default ((leashed laneUp .active)),
    (fun l partNumber brev (s : State) => given (.leashSync l 2 partNumber brev) (fun s => leashGood l s && decide
     (s.pair.state = .syncing) && !s.pair.syncDone) s) link default default ((leashed laneUp .syncing)),
    (fun l cycle instants (s : State) => given (.leashAdmit l cycle instants) (fun s => (laneSt s l.lane).up &&
     !standalone s && !(l.tagOk && leashKey s)) s) (({ link with tagOk := false })) default default ((leashed laneUp
     .standby)),
    (fun l cycle instants (s : State) => given (.leashAdmit l cycle instants) (fun s => leashTagged l s && decide (l.seq ≠
     (laneSt s l.lane).rxSeq)) s) (({ link with seq := 1 })) default default ((leashed laneUp .standby)),
    (fun l cycle instants (s : State) => given (.leashAdmit l cycle instants) (fun s => leashGood l s && decide (l.epoch <
     s.pair.epoch)) s) link default default (({ leashed laneUp .standby with pair.epoch := 1 })),
    (fun l cycle instants (s : State) => given (.leashAdmit l cycle instants) (fun s => !(laneSt s l.lane).up ||
     standalone s) s) link default default ready,
    (fun l seq (s : State) => given (.leashAck l seq) (fun s => (laneSt s l.lane).up && !standalone s && !(l.tagOk &&
     leashKey s)) s) ({ link with tagOk := false }) default (leashed laneUp .solo),
    (fun l seq (s : State) => given (.leashAck l seq) (fun s => (laneSt s l.lane).up && !standalone s && !(l.tagOk &&
     leashKey s)) s) link default ({ leashed laneUp .solo with key.tripped := true }),
    (fun l seq (s : State) => given (.leashNak l seq) (fun s => (laneSt s l.lane).up && !standalone s && !(l.tagOk &&
     leashKey s)) s) ({ link with tagOk := false }) default (leashed { laneUp with tagFails := 2 } .solo),
    (fun l seq (s : State) => given (.leashAck l seq) (fun s => !(laneSt s l.lane).up || standalone s) s) link default
     (leashed {} .solo),
    (fun l seq (s : State) => given (.leashNak l seq) (fun s => !(laneSt s l.lane).up || standalone s) s) link default
     (leashed {} .solo),
    (fun l cycle instants (s : State) => given (.leashAdmit l cycle instants) (fun s => leashNext l s && delivered
     (leashPassed l s) l) s) ({ link with moved := some (14, 4) }) default default
     ({ leashed laneUp .standby with pair.lanes := [(14, { rxSeq := 5 }), (15, laneUp)] }),
    (fun l cycle gen dts b (s : State) => given (.leashHead l cycle gen dts) (fun s => leashGood l s && decide
     (s.pair.epoch < l.epoch ∧ s.pair.state = .active ∧ s.pair.ownEpoch ≤ s.pair.epoch) && s.pair.relinquish == some b) s)
     ({ link with epoch := 8 }) 7 3 default (⟨0, 0, 0, 1⟩)
     ({ leashed laneUp .active with pair.epoch := 7, pair.ownEpoch := 7, pair.relinquish := some ⟨0, 0, 0, 1⟩ })].all id) = true := by decide +kernel

/-- The hypotheses of SelfTestRowsAct, clause by clause. -/
theorem test_meets_selfTestRowsAct : ([
    (fun l (s : State) => given (.leashLoopback l .due) (fun s => testsRun s && (laneSt s l.lane).up && dueAgain 5 l.lane
     50000000 s && !(laneSt s l.lane).loopSent) s) link (leashed laneUp .solo),
    (fun l (s : State) => given (.leashLoopback l .due) (fun s => testsRun s && (laneSt s l.lane).up && dueAgain 5 l.lane
     50000000 s && (laneSt s l.lane).loopSent) s) link (leashed { laneUp with loopSent := true } .solo),
    (fun l (s : State) => given (.leashLoopback l .due) (fun s => testsRun s && (laneSt s l.lane).up && dueAgain 5 l.lane
     50000000 s && (laneSt s l.lane).loopSent) s) link (leashed { laneUp with loopSent := true, loopFail := 2 } .solo),
    (fun l (s : State) => given (.leashLoopback l (.echo loopPattern)) (fun s => leashTagged l s && (laneSt s
     l.lane).loopSent) s) link (leashed { laneUp with loopSent := true, loopFail := 2 } .solo),
    (fun l (s : State) => given (.leashLoopback l .due) (fun s => !dueAgain 5 l.lane 50000000 s) s) link
     ({ ready with tim.raw := 49999999, pair.lastRun := [((5, 15), 0)] }),
    (fun l (s : State) => given (.leashLoopback l .due) (fun s => !(testsRun s && (laneSt s l.lane).up)) s) link (leashed
     {} .solo),
    (fun l (s : State) => given (.leashLoopback l .due) (fun s => !(testsRun s && (laneSt s l.lane).up)) s) link (leashed
     laneUp .failed),
    (fun die (s : State) => given (.dramScrub die none) (fun s => testsRun s && hasDie s die) s) 7 ready,
    (fun die place (s : State) => given (.dramScrub die (some place)) (fun s => testsRun s && hasDie s die) s) 7 default
     ready,
    (fun die place (s : State) => given (.dramScrub die place) (fun s => !(testsRun s && hasDie s die)) s) 8 default ready,
    (fun die place (s : State) => given (.dramScrub die place) (fun s => !(testsRun s && hasDie s die)) s) 7 default
     (({ ready with pair.state := .failed })),
    (fun isLane index opening (s : State) => decide (300 ≤ opening) && given (.eyeMonitor isLane index opening) (fun s =>
     testsRun s && dueAgain (if isLane then 4 else 3) index 500000000 s) s) default default 300
     (({ ready with pair.eyes := [(0, 700)] })),
    (fun isLane index opening (s : State) => decide (opening < 300) && given (.eyeMonitor isLane index opening) (fun s =>
     testsRun s && dueAgain (if isLane then 4 else 3) index 500000000 s) s) default default 299
     (({ ready with pair.eyes := [(0, 700)] })),
    (fun isLane index opening (s : State) => given (.eyeMonitor isLane index opening) (fun s => !testsRun s || !dueAgain
     (if isLane then 4 else 3) index 500000000 s) s) default default default (({ ready with pair.state := .failed })),
    (fun (s : State) => given (.katRun true) (fun s => testsRun s && dueAgain 6 0 30000000000 s) s) ready,
    (fun (s : State) => given (.katRun false) (fun s => testsRun s && dueAgain 6 0 30000000000 s) s) ready,
    (fun ok (s : State) => given (.katRun ok) (fun s => !dueAgain 6 0 30000000000 s) s) true
     ({ ready with tim.raw := 29999999999, pair.lastRun := [((6, 0), 0)] }),
    (fun array vector (s : State) => given (.goldenVectorRun array vector true) (fun s => decide (array < 4 * Config.dies
     s.variant) && testsRun s && dueAgain 1 array 50000000 s) s) default default ready,
    (fun array vector (s : State) => given (.goldenVectorRun array vector false) (fun s => decide (array < 4 * Config.dies
     s.variant) && testsRun s && dueAgain 1 array 50000000 s) s) 31 default ready,
    (fun array vector ok (s : State) => given (.goldenVectorRun array vector ok) (fun s => decide (4 * Config.dies
     s.variant ≤ array) || !testsRun s || !dueAgain 1 array 50000000 s) s) 32 0 true ready,
    (fun array vector ok (s : State) => given (.goldenVectorRun array vector ok) (fun s => decide (4 * Config.dies
     s.variant ≤ array) || !testsRun s || !dueAgain 1 array 50000000 s) s) 31 0 true ({ ready with pair.state := .failed }),
    (fun array vector ok (s : State) => given (.goldenVectorRun array vector ok) (fun s => decide (4 * Config.dies
     s.variant ≤ array) || !testsRun s || !dueAgain 1 array 50000000 s) s) 31 0 true
     ({ ready with tim.raw := 49999999, pair.lastRun := [((1, 31), 0)] }),
    (fun ok (s : State) => given (.katRun ok) (fun s => !testsRun s) s) default (({ ready with pair.state := .failed })),
    (fun l p (s : State) => given (.leashLoopback l (.request p)) ((leashTagged l)) s) link ([1]) (leashed laneUp .solo),
    (fun l p (s : State) => decide (p ≠ loopPattern) && given (.leashLoopback l (.echo p)) (fun s => leashTagged l s &&
     (laneSt s l.lane).loopSent && decide ((laneSt s l.lane).loopFail < 2)) s) link ([1]) (leashed
     { laneUp with loopSent := true, loopFail := 1 } .solo),
    (fun l p (s : State) => decide (p ≠ loopPattern) && given (.leashLoopback l (.echo p)) (fun s => leashTagged l s &&
     (laneSt s l.lane).loopSent && decide (2 ≤ (laneSt s l.lane).loopFail)) s) link ([1]) (leashed
     { laneUp with loopSent := true, loopFail := 2 } .solo),
    (fun l p (s : State) => given (.leashLoopback l (.echo p)) (fun s => leashTagged l s && !(laneSt s l.lane).loopSent)
     s) link ([1]) (leashed laneUp .solo)].all id) = true := by decide +kernel

/-- The hypotheses of FunctionRowsAct, clause by clause. -/
theorem test_meets_functionRowsAct : ([
    (fun vf (s : State) => given (.vfStarted vf) (fun s => decide ((vfSt s vf).o = ⟨.starting, false, false⟩)) s) default
     ((vf0 ⟨.starting, false, false⟩ .open_ none)),
    (fun vf (s : State) => given (.vfStarted vf) (fun s => decide ((vfSt s vf).o.obj ≠ .starting)) s) default ready,
    (fun vf b (s : State) => given (.vfQuiesceComplete vf) (fun s => decide ((vfSt s vf).o.obj = .on ∧ (vfSt s
     vf).admission = .quiescing) && !s.cmd.outst.any (fun o => o.func == vf + 1) && (vfSt s vf).quiesceCmd == some b) s)
     default book ((vf0 ⟨.on, false, false⟩ .quiescing (some book))),
    (fun vf (s : State) => given (.vfQuiesceComplete vf) (fun s => decide ((vfSt s vf).admission ≠ .quiescing) ||
     s.cmd.outst.any (fun o => o.func == vf + 1)) s) default ready,
    (fun vf (s : State) => given (.vfFlr vf) (fun s => vfExists s vf && decide ((vfSt s vf).admission ≠ .resetting ∧ (vfSt
     s vf).o.obj ≠ .on)) s) default ((vf0 {} .open_ none)),
    (fun vf (s : State) => given (.vfFlr vf) (fun s => vfExists s vf && decide ((vfSt s vf).admission = .quiesced ∧ (vfSt
     s vf).o.obj = .on)) s) default ((vf0 ⟨.on, false, false⟩ .quiesced none)),
    (fun vf (s : State) => given (.vfFlr vf) (fun s => !vfExists s vf || decide ((vfSt s vf).admission = .resetting)) s) 2
     vfs,
    (fun vf (s : State) => given (.vfFlr vf) (fun s => !vfExists s vf || decide ((vfSt s vf).admission = .resetting)) s) 1
     vfs,
    (fun vf (s : State) => given (.vfFlrComplete vf) (fun s => decide ((vfSt s vf).o.obj = .on ∧ (vfSt s vf).admission =
     .resetting)) s) default ((vf0 ⟨.on, false, false⟩ .resetting none)),
    (fun vf (s : State) => given (.vfFlrComplete vf) (fun s => decide ((vfSt s vf).o.obj ≠ .on ∨ (vfSt s vf).admission ≠
     .resetting)) s) default vfs,
    (fun en n (s : State) => given (.sriovChange en n) always s) default default ready,
    (fun (s : State) => given (.pfReset) always s) ready].all id) = true := by decide +kernel

/-- The hypotheses of KeyRowsAct, clause by clause. -/
theorem test_meets_keyRowsAct : ([
    (fun slot k r (s : State) => decide (k.engine ≠ 0) && given (.rollMsExpiry slot) (fun s => (slotSt s slot).rolled ==
     some (k, r) && decide (500000000 ≤ s.tim.raw - r)) s) 255 ((⟨0, 2, false, false, [], []⟩)) 0
     (({ rolled ⟨0, 2, false, false, [], []⟩ with tim.raw := 500000000 })),
    (fun slot k r (s : State) => decide (k.engine = 0) && given (.rollMsExpiry slot) (fun s => (slotSt s slot).rolled ==
     some (k, r) && decide (500000 * s.cfg.rollMs ≤ s.tim.raw - r)) s) 255 ((⟨0, 0, false, false, [], []⟩)) 0
     (({ rolled ⟨0, 0, false, false, [], []⟩ with cfg.rollMs := 10, tim.raw := 5000000 })),
    (fun slot (s : State) => given (.rollMsExpiry slot) (fun s => (slotSt s slot).rolled.isNone) s) default ready,
    (fun slot k (s : State) => decide (k.persist = true) && given (.keyRemask slot true) (fun s => decide (s.pwr.phase =
     .running) && (slotSt s slot).current == some k && (slotSt s slot).pending.isNone && (slotSt s slot).rolled.isNone &&
     (slotSt s slot).cur.isNone && dueAgain 14 slot 500000000 s) s) 0 (newKey 3 5 true false [4] [])
     ({ ready with key.slots := [(0, { bankA := some (newKey 3 5 true false [4] []) })] }),
    (fun slot k (s : State) => decide (k.persist = true) && given (.keyRemask slot true) (fun s => decide (s.pwr.phase =
     .running) && (slotSt s slot).current == some k && (slotSt s slot).pending.isNone && (slotSt s slot).rolled.isNone &&
     (slotSt s slot).cur.isNone && !dueAgain 14 slot 500000000 s) s) 0 (newKey 3 5 true false [4] [])
     ({ ready with key.slots := [(0, { bankA := some (newKey 3 5 true false [4] []) })], tim.raw := 499999999, pair.lastRun := [((14, 0), 0)] }),
    (fun slot (s : State) => given (.keyRemask slot true) (fun s => decide (s.pwr.phase = .running) && ((slotSt s
     slot).cur.isSome || (slotSt s slot).pending.isSome) && ((slotSt s slot).bankOf (slotSt s slot).bank).isNone &&
     dueAgain 13 slot 50000000 s) s) 0 keyed,
    (fun slot (s : State) => given (.keyRemask slot true) (fun s => decide (s.pwr.phase = .running) && ((slotSt s
     slot).cur.isSome || (slotSt s slot).pending.isSome) && ((slotSt s slot).bankOf (slotSt s slot).bank).isNone &&
     !dueAgain 13 slot 50000000 s) s) 0 ({ keyed with tim.raw := 49999999, pair.lastRun := [((13, 0), 0)] }),
    (fun slot (s : State) => given (.keyRemask slot false) (fun s => decide (s.pwr.phase = .running) && (slotSt s
     slot).current.isSome) s) 0 keyed,
    (fun slot ok (s : State) => given (.keyRemask slot ok) (fun s => decide (s.pwr.phase ≠ .running) || ((slotSt s
     slot).current.isNone && (slotSt s slot).pending.isNone && (slotSt s slot).rolled.isNone)) s) 0 default ready,
    (fun sign svn release b (s : State) => given (.fwActivateComplete sign svn release) (fun s => s.key.activate == some b
     && fwSigned (fwImage s (otherImage s)) sign && decide (s.key.rollback ≤ svn ∧ svn ≤ 64)) s) (⟨.vendorFirmware,
     signedBy .vendorFirmware []⟩) 64 1 book ({ ready with key.activate := some book }),
    (fun sign svn release b (s : State) => given (.fwActivateComplete sign svn release) (fun s => s.key.activate == some b
     && fwSigned (fwImage s (otherImage s)) sign && decide (svn < s.key.rollback ∨ 64 < svn)) s) (⟨.vendorFirmware,
     signedBy .vendorFirmware []⟩) 0 1 book ({ ready with key.activate := some book, key.rollback := 1 }),
    (fun sign svn release b (s : State) => given (.fwActivateComplete sign svn release) (fun s => s.key.activate == some b
     && fwSigned (fwImage s (otherImage s)) sign && decide (svn < s.key.rollback ∨ 64 < svn)) s) (⟨.vendorFirmware,
     signedBy .vendorFirmware []⟩) 65 1 book ({ ready with key.activate := some book }),
    (fun sign svn release b (s : State) => given (.fwActivateComplete sign svn release) (fun s => s.key.activate == some b
     && !fwSigned (fwImage s (otherImage s)) sign) s) default 64 default book (({ ready with key.activate := some book })),
    (fun sign svn release (s : State) => given (.fwActivateComplete sign svn release) (fun s => s.key.activate.isNone) s)
     default default default ready,
    (fun cause (s : State) => given (.tamperTrip cause) (fun s => decide (s.pwr.phase = .running) && sourceArmed cause s
     && !securityRetained s) s) 6 ready,
    (fun cause (s : State) => given (.tamperTrip cause) (fun s => decide (s.pwr.phase = .running) && sourceArmed cause s
     && securityRetained s) s) 6 ({ ready with pwr.domains := [((0, 11), (2, 0))] }),
    (fun cause (s : State) => given (.tamperTrip cause) (fun s => !sourceArmed cause s) s) 7 ready,
    (fun cause (s : State) => given (.tamperTrip cause) (fun s => !sourceArmed cause s) s) 2 ready,
    (fun cause (s : State) => given (.tamperTripUnpowered cause) (fun s => decide (s.pwr.phase = .waiting) && sourceArmed
     cause s && !rtcGood s) s) 6 waitingOff,
    (fun cause (s : State) => given (.tamperTripUnpowered cause) (fun s => decide (s.pwr.phase = .running)) s) default
     ready].all id) = true := by decide +kernel

/-- The hypotheses of BackupRowsAct, clause by clause. -/
theorem test_meets_backupRowsAct : ([
    (fun c (s : State) => given (.alarmFire) (fun s => s.bkd.alarm == some c && mainGood s && !s.bkd.halted && decide
     (calTicks c ≤ calPlace (rtcNow s))) s) ((cal 2000 1 1 0 0 0))
     (({ ready with bkd.alarm := some (cal 2000 1 1 0 0 0) })),
    (fun c (s : State) => given (.alarmFire) (fun s => s.bkd.alarm == some c && mainGood s && decide (calPlace (rtcNow s)
     < calTicks c)) s) ((cal 2000 1 1 0 0 1)) (({ ready with bkd.alarm := some (cal 2000 1 1 0 0 1) })),
    (fun (s : State) => given (.alarmFire) (fun s => s.bkd.alarm.isNone) s) ready,
    (fun d (s : State) => given (.pwrOnReqExpiry) (fun s => s.bkd.req == some d && mainGood s && decide (d ≤ (trimCount
     s.bkd (rtcTicks s)).1)) s) 0 (({ ready with bkd.req := some 0 })),
    (fun d (s : State) => given (.pwrOnReqExpiry) (fun s => s.bkd.req == some d && mainGood s && decide ((trimCount s.bkd
     (rtcTicks s)).1 < d)) s) 1 (({ ready with bkd.req := some 1 })),
    (fun (s : State) => given (.rtcHaltTimeout) (fun s => s.bkd.halted && decide (5000000000 ≤ s.tim.raw - s.bkd.haltRaw))
     s) (({ ready with bkd.halted := true, tim.raw := 5000000000 })),
    (fun (s : State) => given (.rtcHaltTimeout) (fun s => !(s.bkd.halted && decide (5000000000 ≤ s.tim.raw -
     s.bkd.haltRaw))) s) (({ ready with bkd.halted := true, tim.raw := 4999999999 })),
    (fun (s : State) => given (.rtcHaltTimeout) (fun s => !(s.bkd.halted && decide (5000000000 ≤ s.tim.raw -
     s.bkd.haltRaw))) s) ready,
    (fun (s : State) => given (.rtcOverrange) mainGood s) ready,
    (fun (s : State) => given (.rtcOverrange) (fun s => !mainGood s) s) State.reset,
    (fun (s : State) => given (.evBkdLeap) (fun s => decide (s.tim.state = .locked) && s.bkd.valid && !s.bkd.halted &&
     mainGood s && s.tim.leap61 && decide ((rtcNow s).hour = 0 ∧ (rtcNow s).min = 0 ∧ (rtcNow s).sec = 0) && decide
     (s.bkd.leapDay ≠ dayNumber (rtcNow s).year (rtcNow s).month (rtcNow s).day - 1)) s)
     (({ ready with tim.state := .locked, tim.leap61 := true, bkd.valid := true })),
    (fun (s : State) => given (.evBkdLeap) (fun s => decide (s.tim.state ≠ .locked) || !s.bkd.valid || s.bkd.halted) s)
     ready,
    (fun ticks (s : State) => given (.trimIntervalEnd ticks) (fun s => decide (s.cfg.trimEn = 1 ∧ s.tim.state = .locked)
     && s.bkd.valid && !s.bkd.halted && mainGood s && decide (max (lockedSince s) (s.bkd.trimStart.getD 0) + 1024 ≤ (now
     s).sec)) s) default (({ ready with tim.state := .locked, bkd.valid := true, tim.cur.offset := ⟨1024, 0, 0⟩ })),
    (fun ticks (s : State) => given (.trimIntervalEnd ticks) (fun s => decide (s.cfg.trimEn ≠ 1)) s) default ((withC (fun
     c => { c with trimEn := 0 }))),
    (fun vmain vcell (s : State) => given (.bkdSupplySwitch vmain vcell) (fun s => s.bkd.onCell) s) default default
     (({ ready with bkd.onCell := true })),
    (fun vmain vcell (s : State) => given (.bkdSupplySwitch vmain vcell) (fun s => !s.bkd.onCell) s) default default ready,
    (fun mv (s : State) => decide (mv < 2700) && given (.cellMeasure mv) (fun s => mainGood s && dueAgain 10 0
     1800000000000 s) s) 2699 ready,
    (fun mv (s : State) => decide (2800 ≤ mv) && given (.cellMeasure mv) (fun s => mainGood s && dueAgain 10 0
     1800000000000 s) s) 2800 ready,
    (fun mv (s : State) => decide (2700 ≤ mv) && decide (mv < 2800) && given (.cellMeasure mv) (fun s => mainGood s &&
     dueAgain 10 0 1800000000000 s) s) 2700 ready,
    (fun mv (s : State) => given (.cellMeasure mv) (fun s => !dueAgain 10 0 1800000000000 s) s) 2000
     ({ ready with tim.raw := 1799999999999, pair.lastRun := [((10, 0), 0)] }),
    (fun mv (s : State) => given (.cellMeasure mv) (fun s => !mainGood s) s) default State.reset,
    (fun (s : State) => given (.backupDomainReset) (fun s => !mainGood s) s) State.reset,
    (fun (s : State) => given (.backupDomainReset) mainGood s) ready].all id) = true := by decide +kernel

/-- The hypotheses of PowerRowsAct, clause by clause. -/
theorem test_meets_powerRowsAct : ([
    (fun aOk bOk dies clusters out i (s : State) => decide (dies.contains 0 = false) && given (.powerGood aOk bOk dies
     clusters out) (fun s => decide (s.pwr.phase ≠ .running ∧ s.pwr.phase ≠ .flushing) && bootImage s aOk bOk == some i) s)
     true true default default default 0 State.reset,
    (fun aOk bOk dies clusters out i (s : State) => decide (dies.contains 0 = false) && given (.powerGood aOk bOk dies
     clusters out) (fun s => decide (s.pwr.phase ≠ .running ∧ s.pwr.phase ≠ .flushing) && bootImage s aOk bOk == some i) s)
     true false default default default 0 (({ waitingOff with key.preferred := 1 })),
    (fun aOk bOk dies clusters out (s : State) => given (.powerGood aOk bOk dies clusters out) (fun s => decide
     (s.pwr.phase ≠ .running ∧ s.pwr.phase ≠ .flushing) && ((bootImage s aOk bOk).isNone || dies.contains 0)) s) default
     default default default default State.reset,
    (fun aOk bOk dies clusters out (s : State) => given (.powerGood aOk bOk dies clusters out) (fun s => decide
     (s.pwr.phase ≠ .running ∧ s.pwr.phase ≠ .flushing) && ((bootImage s aOk bOk).isNone || dies.contains 0)) s) true true
     (([0])) default default State.reset,
    (fun aOk bOk dies clusters out (s : State) => given (.powerGood aOk bOk dies clusters out) (fun s => decide
     (s.pwr.phase = .running ∨ s.pwr.phase = .flushing)) s) default default default default default ready,
    (fun t (s : State) => given (.configRestore true) (fun s => decide (s.pwr.phase = .running) && !s.pwr.restored &&
     !s.key.restricted && restoreTrigger s == some t) s) 2
     (({ ready with pwr.restored := false, pwr.restoreAsked := true })),
    (fun t (s : State) => given (.configRestore true) (fun s => decide (s.pwr.phase = .running) && !s.pwr.restored &&
     !s.key.restricted && restoreTrigger s == some t) s) 1 (({ ready with pwr.restored := false, tim.raw := rawSec 120 })),
    (fun t (s : State) => given (.configRestore false) (fun s => decide (s.pwr.phase = .running) && !s.pwr.restored &&
     !s.key.restricted && restoreTrigger s == some t) s) 0 (({ ready with pwr.restored := false, tim.state := .locked })),
    (fun ok (s : State) => given (.configRestore ok) (fun s => decide (s.pwr.phase ≠ .running) || s.pwr.restored ||
     s.key.restricted || (restoreTrigger s).isNone) s) default ready,
    (fun ok (s : State) => given (.configRestore ok) (fun s => decide (s.pwr.phase ≠ .running) || s.pwr.restored ||
     s.key.restricted || (restoreTrigger s).isNone) s) default (({ ready with pwr.restored := false })),
    (fun source (s : State) => decide (source ≤ 1) && given (.powerFail source) (fun s => decide (s.pwr.phase = .running))
     s) 1 ready,
    (fun r (s : State) => given (.powerFail 2) (fun s => decide (s.pwr.phase = .running ∧ s.pwr.restartBooked = some r ∧ r
     ≤ s.tim.raw)) s) 5 (({ ready with pwr.restartBooked := some 5, tim.raw := 5 })),
    (fun r (s : State) => given (.powerFail 2) (fun s => decide (s.pwr.restartBooked = some r ∧ s.tim.raw < r)) s) 5
     (({ ready with pwr.restartBooked := some 5, tim.raw := 4 })),
    (fun (s : State) => given (.powerFail 2) (fun s => s.pwr.restartBooked.isNone) s) ready,
    (fun source (s : State) => given (.powerFail source) (fun s => decide (s.pwr.phase ≠ .running ∨ 2 < source)) s)
     default State.reset,
    (fun source (s : State) => given (.powerFail source) (fun s => decide (s.pwr.phase ≠ .running ∨ 2 < source)) s) 3
     ready,
    (fun (s : State) => given (.ejectLever) (fun s => decide (s.pwr.phase = .running)) s) ready,
    (fun (s : State) => given (.ejectLever) (fun s => decide (s.pwr.phase ≠ .running)) s) State.reset,
    (fun die dom until_ (s : State) => given (.domainFree die dom until_) (fun s => decide (s.pwr.phase = .running ∧ dom ≤
     11 ∧ chooseState s die dom until_ ≠ (domainSt s die dom).1) && hasDie s die && !s.plm.exclDies.contains die) s) 7 3
     default ready,
    (fun die dom until_ (s : State) => given (.domainFree die dom until_) (fun s => decide (s.pwr.phase ≠ .running ∨ 11 <
     dom) || decide (chooseState s die dom until_ = (domainSt s die dom).1)) s) default 12 default ready,
    (fun die dom until_ (s : State) => given (.domainFree die dom until_) (fun s => decide (s.pwr.phase ≠ .running ∨ 11 <
     dom) || decide (chooseState s die dom until_ = (domainSt s die dom).1)) s) default default default State.reset,
    (fun die dom waited t (s : State) => given (.domainWake die dom waited) (fun s => decide (s.pwr.phase = .running ∧ dom
     ≤ 11 ∧ (domainSt s die dom).1 ≠ 0) && hasDie s die && !s.plm.exclDies.contains die && domainTol s die dom == some t &&
     decide (waited ≤ t)) s) 0 3 20 20
     (({ ready with pwr.domains := [((0, 3), (3, 0))], cfg := graphed.cfg, plm.nodeLoc := [(0, ⟨0, 3, 0⟩)] })),
    (fun die dom waited t (s : State) => given (.domainWake die dom waited) (fun s => decide (s.pwr.phase = .running ∧ dom
     ≤ 11 ∧ (domainSt s die dom).1 ≠ 0) && hasDie s die && !s.plm.exclDies.contains die && domainTol s die dom == some t &&
     decide (t < waited)) s) 0 3 21 20
     (({ ready with pwr.domains := [((0, 3), (3, 0))], cfg := graphed.cfg, plm.nodeLoc := [(0, ⟨0, 3, 0⟩)] })),
    (fun die dom waited (s : State) => given (.domainWake die dom waited) (fun s => decide (s.pwr.phase ≠ .running ∨ 11 <
     dom ∨ (domainSt s die dom).1 = 0)) s) default 12 default ready,
    (fun die dom waited (s : State) => given (.domainWake die dom waited) (fun s => decide (s.pwr.phase ≠ .running ∨ 11 <
     dom ∨ (domainSt s die dom).1 = 0)) s) default default default ready,
    (fun vin iin (s : State) => given (.pwrInputSample vin iin) (fun s => decide (s.pwr.phase = .running) && dueAgain 12 0
     5000000 s) s) default default ready,
    (fun vin iin (s : State) => given (.pwrInputSample vin iin) (fun s => (decide (s.pwr.phase ≠ .running) && (decide (vin
     < 3500) || s.pwr.ext)) || (decide (s.pwr.phase = .running) && !dueAgain 12 0 5000000 s)) s) 0 0 State.reset,
    (fun vin iin (s : State) => given (.pwrInputSample vin iin) (fun s => (decide (s.pwr.phase ≠ .running) && (decide (vin
     < 3500) || s.pwr.ext)) || (decide (s.pwr.phase = .running) && !dueAgain 12 0 5000000 s)) s) 0 0
     ({ ready with tim.raw := 4999999, pair.lastRun := [((12, 0), 0)] }),
    (fun vin iin (s : State) => decide (3500 ≤ vin) && given (.pwrInputSample vin iin) (fun s => decide (s.pwr.phase ≠
     .running) && !s.pwr.ext) s) 3500 0 waitingOff,
    (fun air tj (s : State) => given (.tempMeasure air tj) (fun s => decide (s.pwr.phase = .running) && dueAgain 11 0
     5000000 s) s) default default ready,
    (fun air tj (s : State) => given (.tempMeasure air tj) (fun s => decide (s.pwr.phase ≠ .running) || !dueAgain 11 0
     5000000 s) s) default default State.reset].all id) = true := by decide +kernel

/-! ### Registers -/

/-- Reset values that the register tables give: ARC_CYCLE_LEN, CMD_AQ_CTRL, TIM_CAP_TQ, SWC_POOL, PAIR_STATE, VFN_POLICY,
VFN_VF_TOL, LGC_KEY, LOP_COEF 2 and a VF's TIM_CAP_TQ. -/
theorem test_registers_at_reset :
    ([0x200, 0x420, 0x100020, 0x300000, 0xB00000, 0xC00000, 0xC00110, 0x900800, 0xA00108].map (pfRead State.reset),
      vfRead State.reset 3 0x1020)
      = ([0x480, 0x404, 0xFF05, 0xE000, 0xFF00, 500 * 65536, 20, 3, 0x3F800000], 0xFF05) := by decide +kernel
/-- The example of 01 R57: streams of 4,800 Hz and LEN 1,440. -/
theorem test_cycle_ref :
    pfRead { State.reset with cfg.cycleLen := 1440, cfg.streams := [(0, { (default : SvContext) with rate := 4800 })] } 0x210
      = 0x000612C0 := by decide +kernel

end Sys2Proof.Tests
end

/-! Family 01: the CONFIG-kind commands of the general, time, network and switch classes stage their settings (02 R75). -/
section ConfigNetwork
namespace Sys2Proof.Machine

open Safety

/-- A command that stands for a configuration packet, whatever parts it names, stages its setting in range and fails out of
range: which parts the variant has is decided before acceptance (02 R82) and leaves the effect alone. -/
theorem stagesWhen_of_configPacket {i : Instr} {h : Hdr} {op : Nat} {c u : State → Bool} {x : Setting}
    (hp : packetOf i = some { configPacket h op c x with unsupported := u }) (hi : isResume i = false) :
    StagesWhen i c x :=
  stagesWhen_of_eff hp hi rfl fun _ _ => rfl

/-- Settles O1: each command stands for a configuration packet whose range check is the one stated, so each clause is
`stagesWhen_of_configPacket` at that packet. -/
theorem configNetworkStages : Obligations.ConfigNetworkStages := by
  unfold Obligations.ConfigNetworkStages
  refine ⟨?sysCycleSet, ?timPtpConfig, ?timAsymSet, ?timThreshSet, ?netPortConfig, ?netMgmtConfig, ?swcQueueConfig,
    ?swcMcastSet, ?swcPortFwd, ?swcAging⟩
  case sysCycleSet => exact fun _ _ => stagesWhen_of_configPacket (op := 0x0006) rfl rfl
  case timPtpConfig => exact fun _ _ => stagesWhen_of_configPacket (op := 0x0100) rfl rfl
  case timAsymSet => exact fun _ _ => stagesWhen_of_configPacket (op := 0x0101) rfl rfl
  case timThreshSet => exact fun _ _ => stagesWhen_of_configPacket (op := 0x0102) rfl rfl
  case netPortConfig => exact fun _ _ _ => stagesWhen_of_configPacket (op := 0x0200) rfl rfl
  case netMgmtConfig => exact fun _ _ _ => stagesWhen_of_configPacket (op := 0x0201) rfl rfl
  case swcQueueConfig => exact fun _ _ => stagesWhen_of_configPacket (op := 0x0300) rfl rfl
  case swcMcastSet => exact fun _ _ _ _ => stagesWhen_of_configPacket (op := 0x0301) rfl rfl
  case swcPortFwd => exact fun _ _ _ => stagesWhen_of_configPacket (op := 0x0302) rfl rfl
  case swcAging => exact fun _ _ _ => stagesWhen_of_configPacket (op := 0x0303) rfl rfl

end Sys2Proof.Machine
end ConfigNetwork

/-! Family 02: the generation check of the acceptance checks (02 R81, R82). -/
section CommandInterface
namespace Sys2Proof.Machine

open Safety

/-- Taking a packet moves ring positions only: the generation stays (02 R68, R81). -/
@[simp] theorem taken_gen (h : Hdr) (s : State) : (taken h s).cmd.gen = s.cmd.gen := by
  unfold taken; split <;> rfl

/-- Taking a packet leaves restriction and tamper state alone. -/
@[simp] theorem taken_key (h : Hdr) (s : State) : (taken h s).key = s.key := by
  unfold taken; split <;> rfl

/-- The generation check is the fourth of Table CMD-6: it refuses exactly the packets that pass the three before it and carry
GENCHK with another generation. -/
theorem acceptCheck_eq_genMismatch_iff (p : Packet) (s : State) :
    acceptCheck p s = some stGenMismatch ↔
      p.unsupported s = false
      ∧ ((p.pfOnly && decide (p.h.func ≠ 0)) || p.denied s) = false
      ∧ ((s.key.restricted && !(isRead p.opcode || p.restrictedOk)) || (s.key.tripped && p.needsKey s)) = false
      ∧ p.h.genchk = true ∧ p.h.expGen ≠ s.cmd.gen := by
  have hgen : (p.h.genchk && decide (p.h.expGen ≠ s.cmd.gen)) = true ↔ p.h.genchk = true ∧ p.h.expGen ≠ s.cmd.gen := by
    simp only [Bool.and_eq_true, decide_eq_true_eq]
  rw [← hgen]
  unfold acceptCheck
  split
  case isTrue h1 => exact iff_of_false (by decide) fun ⟨h, _⟩ => absurd h (by rw [h1]; decide)
  case isFalse h1 =>
    split
    case isTrue h2 => exact iff_of_false (by decide) fun ⟨_, h, _⟩ => absurd h (by rw [h2]; decide)
    case isFalse h2 =>
      split
      case isTrue h3 => exact iff_of_false (by decide) fun ⟨_, _, h, _⟩ => absurd h (by rw [h3]; decide)
      case isFalse h3 =>
        simp only [Bool.not_eq_true] at h1 h2 h3
        split
        case isTrue h4 => exact iff_of_true rfl ⟨h1, h2, h3, h4⟩
        case isFalse h4 =>
          refine iff_of_false ?_ fun ⟨_, _, _, h⟩ => h4 h
          split
          · decide
          · split <;> decide

/-- Only a refusal for a share is counted (15 Table VFN-6). -/
theorem countRefusal_of_ne {st : Nat} (h : st ≠ stQueueFull) (p : Packet) (s : State) : countRefusal p st s = s :=
  if_neg fun hc => h hc.1

/-- A command refused at acceptance is completed with JSEQ 0 in the state in which its packet was taken (02 R82, R89). -/
theorem exec_refused {i : Instr} {p : Packet} {s : State} {st : Nat} (hp : packetOf i = some p) (hi : isResume i = false)
    (hs : servable p.h s = true) (h : acceptCheck p (taken p.h s) = some st) :
    exec i s = .next (pushDone p 0 st 0 (countRefusal p st (taken p.h s))) := by
  rw [exec_packet hp hi, submit_servable hs, serve_refused h]

/-- The generation check reads no staging area: where the checks before it read none either, another one changes nothing
(02 R81). -/
theorem acceptCheck_genMismatch_staging {p : Packet} {s : State} (x : Tbl Nat (List Staged))
    (hu : p.unsupported { s with cmd := { s.cmd with staging := x } } = p.unsupported s)
    (hd : p.denied { s with cmd := { s.cmd with staging := x } } = p.denied s)
    (hk : p.needsKey { s with cmd := { s.cmd with staging := x } } = p.needsKey s) :
    acceptCheck p { s with cmd := { s.cmd with staging := x } } = some stGenMismatch ↔ acceptCheck p s = some stGenMismatch := by
  simp only [acceptCheck_eq_genMismatch_iff, hu, hd, hk]

/-- An event leaves the command interface alone. -/
@[simp] theorem recordEvent_cmd (e : Event) (s : State) : (recordEvent e s).cmd = s.cmd := by
  rw [recordEvent_eq]

/-- A commit counts the generation up (02 R76). -/
@[simp] theorem commitStaging_gen (func : Nat) (s : State) : (commitStaging func s).cmd.gen = s.cmd.gen + 1 := by
  simp only [commitStaging, raise, recordEvent_cmd]

/-- Settles O47: refusal and its absence are the two directions of `acceptCheck_eq_genMismatch_iff`, whose checks neither taking
the packet nor staging a setting moves. -/
theorem generationIsChecked : Obligations.GenerationIsChecked := by
  unfold Obligations.GenerationIsChecked
  refine ⟨?refused, ?never, ?staged, commitStaging_gen⟩
  case refused =>
    intro i p s hp hs hu hd hk hg hne hi
    have hcheck : acceptCheck p (taken p.h s) = some stGenMismatch := by
      rw [acceptCheck_eq_genMismatch_iff, taken_key, taken_gen]
      exact ⟨hu, hd, hk, hg, hne⟩
    rw [exec_refused hp hi hs hcheck, countRefusal_of_ne (by decide)]
  case never =>
    intro p s h hcheck
    obtain ⟨-, -, -, hg, hne⟩ := (acceptCheck_eq_genMismatch_iff p s).mp hcheck
    rcases h with h | h
    · simp [hg] at h
    · exact hne h
  case staged =>
    intro p s l hcheck hu hd hk
    exact (acceptCheck_genMismatch_staging l (hu l) (hd l) (hk l)).mpr hcheck

end Sys2Proof.Machine
end CommandInterface

/-! Family 12: the counters of logic, where CTU and CTD share one edge memory and saturate (12 R368, R373). -/
section LogicCounters
namespace Sys2Proof.Machine

/-- An element that is there is read, whatever the default. -/
theorem nth_of_getElem? {α : Type} {l : List α} {n : Nat} {a : α} (h : l[n]? = some a) (d : α) : nth l n d = a := by
  rw [nth, List.getD_eq_getElem?_getD, h, Option.getD_some]

/-- The successor of an s32 can leave the range upwards only. -/
theorem satS32_add_one {i : Int} (lo : -2147483648 ≤ i) : satS32 (i + 1) = min (i + 1) 2147483647 := by
  unfold satS32 clampI; omega

/-- The predecessor of an s32 can leave the range downwards only. -/
theorem satS32_sub_one {i : Int} (hi : i ≤ 2147483647) : satS32 (i - 1) = max (i - 1) (-2147483648) := by
  unfold satS32 clampI; omega

/-- Whatever CV does, an edge leaves PV, and the edge memory holds the input and is primed no more (12 R368). -/
theorem counterEdge_memory (up i : Bool) (c : LCounter) :
    (counterEdge up i c).pv = c.pv ∧ (counterEdge up i c).prev = i ∧ (counterEdge up i c).primed = false :=
  ⟨rfl, rfl, rfl⟩

/-- CV counted up: by one on a rising edge that is not the primed input, at most 2^31 − 1 (12 R373). -/
theorem counterEdge_up_cv (i : Bool) {c : LCounter} (lo : -2147483648 ≤ c.cv) :
    (counterEdge true i c).cv = if i && !c.prev && !c.primed then min (c.cv + 1) 2147483647 else c.cv := by
  rw [← satS32_add_one lo]; rfl

/-- CV counted down: by one on a rising edge that is not the primed input, at least −2^31 (12 R373). -/
theorem counterEdge_down_cv (i : Bool) {c : LCounter} (hi : c.cv ≤ 2147483647) :
    (counterEdge false i c).cv = if i && !c.prev && !c.primed then max (c.cv - 1) (-2147483648) else c.cv := by
  rw [← satS32_sub_one hi]; rfl

/-- CTU gives its counter the edge up and compares PV with the new CV; the rest of the scan and of the tables stays. -/
theorem runOp_ctu {s : State} {x : Nat} {sc : Scan} {t : LTables} {c : LCounter} (h : t.counters[x]? = some c) :
    runOp s .ctu x sc t = ({ sc with acc := decide (c.pv ≤ (counterEdge true sc.acc c).cv) },
      { t with counters := t.counters.set x (counterEdge true sc.acc c) }) := by
  simp only [runOp, nth_of_getElem? h, (counterEdge_memory true sc.acc c).1]

/-- CTD gives its counter the edge down and compares the new CV with 0; the rest of the scan and of the tables stays. -/
theorem runOp_ctd {s : State} {x : Nat} {sc : Scan} {t : LTables} {c : LCounter} (h : t.counters[x]? = some c) :
    runOp s .ctd x sc t = ({ sc with acc := decide ((counterEdge false sc.acc c).cv ≤ 0) },
      { t with counters := t.counters.set x (counterEdge false sc.acc c) }) := by
  simp only [runOp, nth_of_getElem? h]

/-- Settles O58: the counter written back is `counterEdge` of the one read, and an s32 can leave its range on the side counted
towards only. -/
theorem countersCountEdges : Obligations.CountersCountEdges := by
  unfold Obligations.CountersCountEdges
  refine ⟨?up, ?down⟩
  case up =>
    intro s x sc t c hc lo _
    obtain ⟨hpv, hprev, hprimed⟩ := counterEdge_memory true sc.acc c
    have hrun := runOp_ctu (s := s) (sc := sc) hc
    exact ⟨counterEdge true sc.acc c, congrArg Prod.snd hrun, hpv, hprev, hprimed, counterEdge_up_cv sc.acc lo,
      congrArg Prod.fst hrun⟩
  case down =>
    intro s x sc t c hc _ hi
    obtain ⟨hpv, hprev, hprimed⟩ := counterEdge_memory false sc.acc c
    have hrun := runOp_ctd (s := s) (sc := sc) hc
    exact ⟨counterEdge false sc.acc c, congrArg Prod.snd hrun, hpv, hprev, hprimed, counterEdge_down_cv sc.acc hi,
      congrArg Prod.fst hrun⟩

end Sys2Proof.Machine
end LogicCounters

/-! Family other, logic words: the fields of a word stand where R362 puts them (12 R362). -/
section LogicWords
-- One proof after another: the stacks of proofs elaborated side by side exceed the memory of the check.
set_option Elab.async false
namespace Sys2Proof

/-- The instruction of an OPCODE is the one the table gives that OPCODE. -/
theorem logicOp_logicCode (op : LogicOp) : logicOp (logicCode op) = some op := by cases op <;> rfl

/-- The instruction that an OPCODE of seven bits stands for has that OPCODE, checked for each of the 128. -/
theorem all_logicCode_logicOp : ∀ n < 128, (logicOp n).all (logicCode · == n) = true := by decide +kernel

theorem logicCode_of_logicOp {n : Nat} {op : LogicOp} (hn : n < 128) (h : logicOp n = some op) : logicCode op = n := by
  have hall := all_logicCode_logicOp n hn
  rw [h] at hall
  exact eq_of_beq hall

/-- OPCODE has seven bits. -/
theorem logicCode_lt (op : LogicOp) : logicCode op < 128 := by cases op <;> decide

/-- OPCODE and OPERAND together fit the word. -/
theorem encodeLogic_toNat {op : LogicOp} {x : Nat} (hx : x < 33554432) :
    (encodeLogic op x).toNat = logicCode op * 33554432 + x := by
  have hc := logicCode_lt op
  rw [encodeLogic, BitVec.toNat_ofNat, Nat.mod_eq_of_lt (by omega)]

/-- What decodes: the instruction of bits [31:25] with bits [24:0], which are zero where the table gives no OPERAND. -/
theorem decodeLogic_eq_some_iff {w : BitVec 32} {op : LogicOp} {x : Nat} :
    decodeLogic w = some (op, x) ↔
      logicCode op = w.toNat / 33554432 ∧ x = w.toNat % 33554432 ∧ (logicKind op = .none → x = 0) := by
  unfold decodeLogic
  constructor
  · intro h
    split at h
    case h_2 => cases h
    case h_1 o ho =>
      split at h
      case isTrue => cases h
      case isFalse hk =>
        cases h
        have hw : w.toNat / 33554432 < 128 := by have := w.isLt; omega
        exact ⟨logicCode_of_logicOp hw ho, rfl, fun hn => Decidable.byContradiction fun h0 => hk ⟨hn, h0⟩⟩
  · rintro ⟨hc, hx, hk⟩
    rw [← hc, logicOp_logicCode]
    simp only [← hx]
    rw [if_neg fun ⟨hn, h0⟩ => h0 (hk hn)]

/-- Bits [31:25] of a word. -/
theorem opcodeBits_toNat (w : BitVec 32) : (w.extractLsb 31 25).toNat = w.toNat / 33554432 := by
  have := w.isLt
  rw [BitVec.extractLsb_toNat, Nat.shiftRight_eq_div_pow]
  omega

/-- Bits [24:0] of a word. -/
theorem operandBits_toNat (w : BitVec 32) : (w.extractLsb 24 0).toNat = w.toNat % 33554432 := by
  rw [BitVec.extractLsb_toNat, Nat.shiftRight_zero]

/-- A word is the encoding of its two fields. -/
theorem encodeLogic_fields {w : BitVec 32} {op : LogicOp} (h : logicCode op = w.toNat / 33554432) :
    encodeLogic op (w.toNat % 33554432) = w := by
  apply BitVec.eq_of_toNat_eq
  rw [encodeLogic_toNat (Nat.mod_lt _ (by decide)), h, Nat.div_add_mod']

/-- Settles O56: the fields of the encoded word are OPCODE and OPERAND again. -/
theorem logicDecodeUndoesEncode : Obligations.LogicDecodeUndoesEncode := by
  intro op x hx hk
  rw [decodeLogic_eq_some_iff, encodeLogic_toNat hx]
  exact ⟨by omega, by omega, hk⟩

/-- Settles O57: what decodes is read off `decodeLogic_eq_some_iff`, and a word decodes to nothing when no instruction has its
OPCODE or the one that has it admits no OPERAND. -/
theorem logicFieldsStandInPlace : Obligations.LogicFieldsStandInPlace := by
  constructor
  · intro w op x h
    obtain ⟨hc, hx, hk⟩ := decodeLogic_eq_some_iff.mp h
    rw [opcodeBits_toNat, operandBits_toNat]
    exact ⟨hx ▸ encodeLogic_fields hc, hc.symm, hx.symm, hk⟩
  · intro w
    rw [opcodeBits_toNat, operandBits_toNat, Option.eq_none_iff_forall_ne_some]
    constructor
    · intro h op hc
      refine Decidable.byContradiction fun hn => h (op, w.toNat % 33554432) (decodeLogic_eq_some_iff.mpr ⟨hc, rfl, fun hk => ?_⟩)
      exact Decidable.byContradiction fun h0 => hn ⟨hk, h0⟩
    · rintro h ⟨op, x⟩ hd
      obtain ⟨hc, hx, hk⟩ := decodeLogic_eq_some_iff.mp hd
      obtain ⟨hkind, hne⟩ := h op hc
      exact hne (hx ▸ hk hkind)

/-- Settles O55: each word's two fields are computed. -/
theorem logicWordsReadRight : Obligations.LogicWordsReadRight := by
  unfold Obligations.LogicWordsReadRight
  decide

end Sys2Proof
end LogicWords

/-! Family other, the machine: a step, a tick, reset, the totality of `exec`, and the steps of an object (09 Table GRF-6). -/
section Machine
-- One proof after another: the stacks of proofs elaborated side by side exceed the memory of the check.
set_option Elab.async false
namespace Sys2Proof.Machine

/-- Settles O42: `step` takes the front command by its definition. -/
theorem stepTakesFrontCommand : Obligations.StepTakesFrontCommand := fun _ _ _ => rfl

/-- A step on an empty queue is a tick. -/
theorem step_of_pending_nil {s : State} (h : s.pending = []) : step s = .next (tick s) := by
  unfold step; rw [h]

/-- Settles O43: the phase decides whether the tick counts. -/
theorem idleStepCountsRaw : Obligations.IdleStepCountsRaw := by
  constructor
  · rintro s h (hp | hp) <;> rw [step_of_pending_nil h, tick, hp]
  · rintro s h (hp | hp | hp) <;> rw [step_of_pending_nil h, tick, hp]

/-- Settles O44: every value is written out in `State.reset`. -/
theorem resetLeavesGivenValues : Obligations.ResetLeavesGivenValues :=
  ⟨rfl, rfl, rfl, rfl, rfl, rfl, rfl, rfl, rfl, rfl, rfl, rfl, rfl, rfl, rfl, rfl, rfl⟩

/-- An Announce is dropped or takes effect; either way there is a next state (03 R113). -/
theorem execPtpAnnounce_next (m : AnnounceMsg) (s : State) : ∃ t, execPtpAnnounce m s = .next t := by
  unfold execPtpAnnounce
  split <;> exact ⟨_, rfl⟩

/-- Settles O45: every arm of `exec` is a `.next` by its definition, but for the one that checks the domain first. -/
theorem noCommandStops : Obligations.NoCommandStops := by
  intro c s
  cases c
  case ptpAnnounce m => exact execPtpAnnounce_next m s
  all_goals (constructor; rfl)

/-- Settles O11: each row is the arm of `objEnable` or `objDisable` for its state. -/
theorem objectStatesMove : Obligations.ObjectStatesMove := by
  refine ⟨?off, ?starting, ?startingBooked, ?on, ?draining, ?drainingPending⟩
  case off => rintro ⟨_, _, _⟩ h; cases h; exact ⟨rfl, rfl⟩
  case starting => rintro ⟨_, _, _⟩ h hb; cases h; cases hb; exact ⟨rfl, rfl⟩
  case startingBooked => rintro ⟨_, _, _⟩ h hb; cases h; cases hb; exact ⟨rfl, rfl⟩
  case on => rintro ⟨_, _, _⟩ h; cases h; exact ⟨rfl, rfl⟩
  case draining => rintro ⟨_, _, _⟩ h hp; cases h; cases hp; exact ⟨rfl, rfl⟩
  case drainingPending => rintro ⟨_, _, _⟩ h hp; cases h; cases hp; exact ⟨rfl, rfl⟩

end Sys2Proof.Machine
end Machine

/-! Family other: the CONFIG-kind commands of streams, filters and signals, of the chapters behind them, and of graph images and
logic tasks (02 R75). -/
section ConfigStages
-- One proof after another: the stacks of proofs elaborated side by side exceed the memory of the check.
set_option Elab.async false
namespace Sys2Proof.Machine

open Safety

/-- Acceptance moves the command interface only, so no VF becomes RESETTING by it. -/
@[simp] theorem funcBusy_afterAccept (f : Nat) (p : Packet) (s : State) : funcBusy f (afterAccept p s) = funcBusy f s := by
  rw [afterAccept_eq]; rfl

@[simp] theorem funcExists_afterAccept (f : Nat) (p : Packet) (s : State) : funcExists (afterAccept p s) f = funcExists s f := by
  rw [afterAccept_eq]; rfl

@[simp] theorem vfExists_afterAccept (v : Nat) (p : Packet) (s : State) : vfExists (afterAccept p s) v = vfExists s v := by
  rw [afterAccept_eq]; rfl

@[simp] theorem vfSt_afterAccept (v : Nat) (p : Packet) (s : State) : vfSt (afterAccept p s) v = vfSt s v := by
  rw [afterAccept_eq]; rfl

@[simp] theorem afterAccept_variant (p : Packet) (s : State) : (afterAccept p s).variant = s.variant := by
  rw [afterAccept_eq]

/-- SIG_DEFINE asks for a RESETTING owner before its range check (15 R471). -/
theorem sigDefinePacket_eff (h : Hdr) (entries : List SigEntry) (j : Nat) (a : State) :
    (sigDefinePacket h entries).eff j a =
      if entries.any (fun e => e.valid && funcBusy e.sig.owner a) then failRes stBusy a
      else if (decide (0 < entries.length ∧ entries.length ≤ 32768) && entries.all sigEntryOk
        && entries.all (fun e => !e.valid || funcExists a e.sig.owner)) then stageRes h j 0x0600 (.sigDefine entries) a
      else failRes stFailed a := rfl

/-- PLM_OWNER_DIES of a VF: ST_BUSY while it is RESETTING, then the range check with the VF's existence (15 R457, R471). -/
theorem plmOwnerDiesPacket_eff (h : Hdr) (func dies j : Nat) (a : State) :
    (plmOwnerDiesPacket h func dies).eff j a =
      if funcBusy func a then failRes stBusy a
      else if (decide (dies < 256 ∧ 0 < dies % 2 ^ Config.dies a.variant) && funcExists a func) then
        stageRes h j 0x0801 (.ownerDies func dies) a
      else failRes stFailed a := rfl

/-- VFN_VF_CONFIG is guarded by its VF (15 R457, R471). -/
theorem vfnVfConfigPacket_eff (h : Hdr) (vf prot j : Nat) (a : State) :
    (vfnVfConfigPacket h vf prot).eff j a =
      if !vfExists a vf then failRes stFailed a
      else if (vfSt a vf).admission = .resetting then failRes stBusy a
      else if decide (prot ≤ 1) then stageRes h j 0x0C01 (.vfProt vf prot) a
      else failRes stFailed a := rfl

/-- A VF is RESETTING when its admission says so. -/
theorem funcBusy_succ (v : Nat) (s : State) : funcBusy (v + 1) s = decide ((vfSt s v).admission = .resetting) := by
  simp [funcBusy]

theorem funcExists_succ (v : Nat) (s : State) : funcExists s (v + 1) = vfExists s v := by
  simp [funcExists]

/-- Settles O2: each command stands for a configuration packet whose range check is the one stated; SIG_DEFINE first asks whether
an owner is RESETTING. -/
theorem configSignalStages : Obligations.ConfigSignalStages := by
  unfold Obligations.ConfigSignalStages
  refine ⟨?svSubscribe, ?svUnsubscribe, ?fltChainSet, ?fltHeelPin, ?sigDefine, ?sigDefineFails, ?sigDefineBusy, ?sigGsSubscribe,
    ?sigGpDefine, ?sigSvpDefine, ?sigSharedId⟩
  case svSubscribe => exact fun _ _ _ => stagesWhen_of_eff rfl rfl rfl fun _ _ => rfl
  case svUnsubscribe => exact fun _ _ => stagesWhen_of_eff rfl rfl rfl fun _ _ => rfl
  case fltChainSet => exact fun _ _ _ _ => stagesWhen_of_eff rfl rfl rfl fun _ _ => rfl
  case fltHeelPin => exact fun _ _ _ => stagesWhen_of_eff rfl rfl rfl fun _ _ => rfl
  case sigDefine =>
    intro h entries p s hp hg h0 hn hok hown
    cases hp
    refine exec_staged rfl rfl hg ?_
    rw [sigDefinePacket_eff, if_neg, if_pos]
    · rfl
    · simp only [Bool.and_eq_true, decide_eq_true_eq, List.all_eq_true, Bool.or_eq_true, Bool.not_eq_true', funcExists_afterAccept]
      refine ⟨⟨⟨h0, hn⟩, List.all_eq_true.mp hok⟩, fun e he => ?_⟩
      cases hv : e.valid
      · exact .inl rfl
      · exact .inr (hown e he hv).1
    · simp only [List.any_eq_true, Bool.and_eq_true, funcBusy_afterAccept, not_exists, not_and]
      intro e he hv
      rw [(hown e he hv).2]; decide
  case sigDefineFails =>
    refine fun h entries => fails_of_eff rfl rfl (by decide) rfl (.inl (by decide)) fun j a hc => ⟨a, ?_⟩
    simp only [Bool.and_eq_true, Bool.not_eq_true', Bool.or_eq_true, ← Bool.not_eq_true] at hc
    rw [sigDefinePacket_eff, if_neg hc.1, if_neg]
    · rfl
    · intro hgood
      simp only [Bool.and_eq_true] at hgood
      refine hc.2.elim (· hgood.1) fun hown => ?_
      obtain ⟨e, he, hv⟩ := List.any_eq_true.mp hown
      have := List.all_eq_true.mp hgood.2 e he
      simp_all
  case sigDefineBusy =>
    refine fun h entries => fails_of_eff rfl rfl (by decide) rfl (.inl (by decide)) fun j a hc => ⟨a, ?_⟩
    rw [sigDefinePacket_eff, if_pos hc]; rfl
  case sigGsSubscribe => exact fun _ _ _ => stagesWhen_of_eff rfl rfl rfl fun _ _ => rfl
  case sigGpDefine => exact fun _ _ _ => stagesWhen_of_eff rfl rfl rfl fun _ _ => rfl
  case sigSvpDefine => exact fun _ _ _ => stagesWhen_of_eff rfl rfl rfl fun _ _ => rfl
  case sigSharedId => exact fun _ _ => stagesWhen_of_eff rfl rfl rfl fun _ _ => rfl

/-- Settles O3: as O2; a command that names a VF asks for it first. -/
theorem configSystemStages : Obligations.ConfigSystemStages := by
  unfold Obligations.ConfigSystemStages
  refine ⟨?plmGroupSet, ?ownerDiesPf, ?ownerDiesVf, ?ownerDiesBusy, ?plmPolicy, ?lgcConfig, ?loopConfig, ?pairConfig, ?vfnPolicy,
    ?vfConfig, ?vfConfigNoVf, ?vfConfigBusy, ?keyConfig, ?bkdConfig, ?pwrPolicy⟩
  case plmGroupSet => exact fun _ _ _ _ => stagesWhen_of_eff rfl rfl rfl fun _ _ => rfl
  case ownerDiesPf =>
    refine fun h dies => stagesWhen_of_eff rfl rfl rfl fun j a => ?_
    rw [plmOwnerDiesPacket_eff]
    simp [funcBusy, funcExists, plmOwnerDiesPacket, configPacket]
  case ownerDiesVf =>
    intro h v dies p s hp hg hex hadm hlt hpos
    cases hp
    refine exec_staged rfl rfl hg ?_
    rw [plmOwnerDiesPacket_eff, funcBusy_afterAccept, funcBusy_succ, funcExists_afterAccept, funcExists_succ, afterAccept_variant,
      if_neg (by simpa using hadm), if_pos (by simp [hex, hlt, hpos])]
    rfl
  case ownerDiesBusy =>
    refine fun h v dies => fails_of_eff rfl rfl (by decide) rfl (.inl (by decide)) fun j a hc => ⟨a, ?_⟩
    rw [plmOwnerDiesPacket_eff, funcBusy_succ, if_pos hc]; rfl
  case plmPolicy => exact fun _ _ _ _ => stagesWhen_of_eff rfl rfl rfl fun _ _ => rfl
  case lgcConfig => exact fun _ _ _ => stagesWhen_of_eff rfl rfl rfl fun _ _ => rfl
  case loopConfig => exact fun _ _ => stagesWhen_of_eff rfl rfl rfl fun _ _ => rfl
  case pairConfig => exact fun _ _ => stagesWhen_of_eff rfl rfl rfl fun _ _ => rfl
  case vfnPolicy => exact fun _ _ => stagesWhen_of_eff rfl rfl rfl fun _ _ => rfl
  case vfConfig =>
    intro h vf prot p s hp hg hex hadm hprot
    cases hp
    refine exec_staged rfl rfl hg ?_
    rw [vfnVfConfigPacket_eff, if_neg (by simp [vfExists_afterAccept, hex]), if_neg (by rw [vfSt_afterAccept]; exact hadm),
      if_pos (by simpa using hprot)]
    rfl
  case vfConfigNoVf =>
    refine fun h vf prot => fails_of_eff rfl rfl (by decide) rfl (.inl (by decide)) fun j a hc => ⟨a, ?_⟩
    rw [vfnVfConfigPacket_eff, if_pos hc]; rfl
  case vfConfigBusy =>
    refine fun h vf prot => fails_of_eff rfl rfl (by decide) rfl (.inl (by decide)) fun j a hc => ⟨a, ?_⟩
    simp only [Bool.and_eq_true, decide_eq_true_eq] at hc
    rw [vfnVfConfigPacket_eff, if_neg (by simp [hc.1]), if_pos hc.2]; rfl
  case keyConfig => exact fun _ _ _ => stagesWhen_of_eff rfl rfl rfl fun _ _ => rfl
  case bkdConfig => exact fun _ _ _ => stagesWhen_of_eff rfl rfl rfl fun _ _ => rfl
  case pwrPolicy => exact fun _ _ => stagesWhen_of_eff rfl rfl rfl fun _ _ => rfl

/-- GRF_GRAPH_LOAD in the order of its checks (09 R275, R277); which command stages a setting is nothing to the setting. -/
theorem grfGraphLoadPacket_eff (h : Hdr) (image : ImageAt) (keySlot : Nat) (img : GraphImage) (j : Nat) (a : State) :
    (grfGraphLoadPacket h image keySlot img).eff j a =
      if 255 < keySlot ∨ image.addr % 64 ≠ 0 then failRes stFailed a
      else if imageReason a image.len keySlot img ≠ 0 then .done stFailed (resB 0 (imageReason a image.len keySlot img)) a
      else if (graphWrites img).any (writeClash (applySetting (candidate a h.func) ⟨0, 0x0700, 0, .graphLoad h.func img⟩)) then
        failRes stFailed a
      else stageRes h j 0x0700 (.graphLoad h.func img) (withoutStaged h.func img.graph a) := rfl

/-- LGC_TASK_DEFINE in the order of its checks (12 R386, R387). -/
theorem lgcTaskDefinePacket_eff (h : Hdr) (image : ImageAt) (keySlot valid task : Nat) (img : LogicImage) (j : Nat) (a : State) :
    (lgcTaskDefinePacket h image keySlot valid task img).eff j a =
      if image.addr % 64 ≠ 0 ∨ 255 < keySlot ∨ 1 < valid ∨ (valid = 1 ∧ task ≠ 0) then failRes stFailed a
      else if valid = 1 then
        if logicReason a (candidate a h.func) false image.len keySlot img ≠ 0 then
          .done stFailed (resB 0 (logicReason a (candidate a h.func) false image.len keySlot img)) a
        else if imagesFit (candidate a h.func).cycleLen [img] = false then .done stFailed (resB 0 7) a
        else if (taskWrites img.task img).any (writeClash (applySetting (candidate a h.func)
            ⟨0, 0x0900, 0, .lgcTask img.task true img⟩)) then failRes stFailed a
        else stageRes h j 0x0900 (.lgcTask img.task true img) a
      else if thas (candidate a h.func).tasks task then stageRes h j 0x0900 (.lgcTask task false img) a
      else failRes stFailed a := rfl

/-- A command that runs has passed the acceptance checks. -/
theorem goes_of_runs {p : Packet} {s : State} (h : runs p s = true) : goes p s = true := by
  simp only [runs, Bool.and_eq_true] at h
  exact h.1.1

/-- A command that runs and fails, whatever its result, answers in the accepted state (02 R83). -/
theorem exec_failed_of_runs {i : Instr} {p : Packet} {s : State} {res : Result} (hp : packetOf i = some p) (hi : isResume i = false)
    (hr : runs p s = true) (hf : p.failActs = false)
    (he : p.eff (jseqOf p s) (afterAccept p s) = .done stFailed res (afterAccept p s)) :
    exec i s = .next (finished p stFailed res s (afterAccept p s)) := by
  rw [exec_failed hp hi (goes_of_runs hr) ((runEff_of_runs hr).trans he) (by decide) hf, countStageRefusal_eq (.inl (by decide))]

/-- Settles O4: the checks of each load in their order, as the two packets make them. -/
theorem configImageStages : Obligations.ConfigImageStages := by
  unfold Obligations.ConfigImageStages
  refine ⟨?load, ?loadClash, ?loadReason, ?loadRange, ?unload, ?task, ?taskReason, ?taskFit, ?taskRange, ?taskRemove⟩
  case load =>
    refine fun h image keySlot img => does_of_eff rfl rfl (.inl (by decide)) fun j a hc => ?_
    simp only [Bool.and_eq_true, Bool.not_eq_true', beq_iff_eq, decide_eq_true_eq] at hc
    obtain ⟨⟨⟨⟨hk, ha⟩, hr⟩, hw⟩, -⟩ := hc
    rw [grfGraphLoadPacket_eff, if_neg (by omega), if_neg (by simpa using hr), if_neg (by simp [hw])]
    rfl
  case loadClash =>
    refine fun h image keySlot img => fails_of_eff rfl rfl (by decide) rfl (.inl (by decide)) fun j a hc => ⟨a, ?_⟩
    simp only [Bool.and_eq_true, beq_iff_eq, decide_eq_true_eq] at hc
    obtain ⟨⟨⟨hk, ha⟩, hr⟩, hw⟩ := hc
    rw [grfGraphLoadPacket_eff, if_neg (by omega), if_neg (by simpa using hr), if_pos hw]
    rfl
  case loadReason =>
    intro h image keySlot img p s hp hr hk ha hreason
    cases hp
    refine exec_failed_of_runs rfl rfl hr rfl ?_
    rw [grfGraphLoadPacket_eff, if_neg (by omega), if_pos hreason]
  case loadRange =>
    refine fun h image keySlot img => fails_of_eff rfl rfl (by decide) rfl (.inl (by decide)) fun j a hc => ⟨a, ?_⟩
    rw [grfGraphLoadPacket_eff, if_pos (of_decide_eq_true hc)]; rfl
  case unload => exact fun _ _ => stagesWhen_of_eff rfl rfl rfl fun _ _ => rfl
  case task =>
    intro h image keySlot img p s hp hg hk ha hr hfit hw
    cases hp
    refine exec_staged rfl rfl hg ?_
    rw [lgcTaskDefinePacket_eff, if_neg (by omega), if_pos rfl, if_neg (by simpa using hr), if_neg (by simp [hfit]), if_neg (by simp [hw])]
    rfl
  case taskReason =>
    intro h image keySlot img p s hp hr hk ha hreason
    cases hp
    refine exec_failed_of_runs rfl rfl hr rfl ?_
    rw [lgcTaskDefinePacket_eff, if_neg (by omega), if_pos rfl, if_pos hreason]
  case taskFit =>
    refine fun h image keySlot img => fails_of_eff rfl rfl (by decide) rfl (.inl (by decide)) fun j a hc => ⟨a, ?_⟩
    simp only [Bool.and_eq_true, Bool.not_eq_true', beq_iff_eq, decide_eq_true_eq] at hc
    obtain ⟨⟨⟨hk, ha⟩, hr⟩, hfit⟩ := hc
    rw [lgcTaskDefinePacket_eff, if_neg (by omega), if_pos rfl, if_neg (by simpa using hr), if_pos hfit]
  case taskRange =>
    refine fun h image keySlot valid task img => fails_of_eff rfl rfl (by decide) rfl (.inl (by decide)) fun j a hc => ⟨a, ?_⟩
    rw [lgcTaskDefinePacket_eff, if_pos (of_decide_eq_true hc)]; rfl
  case taskRemove =>
    refine fun h image keySlot task img => stagesWhen_of_eff rfl rfl rfl fun j a => ?_
    rw [lgcTaskDefinePacket_eff]
    by_cases hc : image.addr % 64 = 0 ∧ keySlot ≤ 255
    · simp [hc.1, hc.2, lgcTaskDefinePacket, Nat.not_lt.mpr hc.2]
    · rw [if_pos (by omega), if_neg (by simp [hc])]

end Sys2Proof.Machine
end ConfigStages

/-! Family other: the READ-kind commands answer (02 R73, Table CMD-5). -/
section Reads
-- One proof after another: the stacks of proofs elaborated side by side exceed the memory of the check.
set_option Elab.async false
namespace Sys2Proof.Machine

open Safety

/-- A command that completes below 0x10 does what its packet's effect answers; which command it is, is computed. -/
theorem does_eff {i : Instr} {p : Packet} {c : State → Bool} {st : Nat} {res : State → Result} {f : Nat → State → State}
    (hp : packetOf i = some p) (he : ∀ j a, c a = true → p.eff j a = .done st (res a) (f j a))
    (hi : isResume i = false := by rfl) (hst : st < 0x10 := by decide) : Does i c st res f :=
  does_of_eff hp hi (.inl hst) he

/-- A command whose effect answers a failure other than ST_QUEUE_FULL in the state it found; which command it is, is computed. -/
theorem fails_eff {i : Instr} {p : Packet} {c : State → Bool} {st : Nat} {res : Result} (hp : packetOf i = some p)
    (he : ∀ j a, c a = true → p.eff j a = .done st res a) (hi : isResume i = false := by rfl) (hf : p.failActs = false := by rfl)
    (hst : 0x10 ≤ st ∧ st ≠ stQueueFull := by decide) : Fails i c st res :=
  fails_of_eff hp hi hst.1 hf (.inl hst.2) fun j a hc => ⟨a, he j a hc⟩

/-- No result is the word 0. -/
@[simp] theorem noResult_apply (s : State) : noResult s = 0 := rfl

/-- An effect that leaves the accepted state as it is. -/
@[simp] theorem same_apply (j : Nat) (s : State) : same j s = s := rfl

/-- Settles O5: each read answers from the accepted state, within its ranges. -/
theorem networkReadsAnswer : Obligations.NetworkReadsAnswer := by
  unfold Obligations.NetworkReadsAnswer
  refine ⟨?nop, ?identify, ?timStatus, ?netPortStatus, ?mcastRead, ?mcastRange, ?lookup, ?lookupDie, ?streamRead, ?streamNone,
    ?streamRange, ?chainRead, ?chainRange⟩
  case nop => exact fun _ => does_eff rfl fun _ _ _ => rfl
  case identify => exact fun _ => does_eff rfl fun _ _ _ => rfl
  case timStatus => exact fun _ => does_eff rfl fun _ _ _ => rfl
  case netPortStatus => exact fun _ _ => does_eff rfl fun _ _ _ => rfl
  case mcastRead => exact fun _ _ _ => does_eff rfl fun _ _ hc => if_neg (by simpa using hc)
  case mcastRange => exact fun _ _ _ => fails_eff rfl fun _ _ hc => if_pos (by simpa using hc)
  case lookup => exact fun _ _ _ _ _ => does_eff rfl fun _ _ hc => if_neg (by simpa using hc)
  case lookupDie => exact fun _ _ _ _ _ => fails_eff rfl fun _ _ hc => if_pos (by simpa using hc)
  case streamRead =>
    refine fun _ _ => does_eff rfl fun _ _ hc => ?_
    simp only [Bool.and_eq_true, decide_eq_true_eq, Option.isSome_iff_ne_none] at hc
    exact (if_neg (by omega)).trans (if_neg (by simpa using hc.2))
  case streamNone =>
    refine fun _ _ => does_eff rfl fun _ _ hc => ?_
    simp only [Bool.and_eq_true, decide_eq_true_eq] at hc
    exact (if_neg (by omega)).trans (if_pos hc.2)
  case streamRange => exact fun _ _ => fails_eff rfl fun _ _ hc => if_pos (by simpa using hc)
  case chainRead => exact fun _ _ => does_eff rfl fun _ _ hc => if_neg (by simpa using hc)
  case chainRange => exact fun _ _ => fails_eff rfl fun _ _ hc => if_pos (by simpa using hc)

/-- Settles O6: as O5; a read of an object first asks whether the object is there. -/
theorem systemReadsAnswer : Obligations.SystemReadsAnswer := by
  unfold Obligations.SystemReadsAnswer
  refine ⟨?graph, ?graphNone, ?sched, ?schedNone, ?schedRange, ?heel, ?heelNone, ?share, ?shareBusy, ?shareNone, ?task, ?taskNone,
    ?loop, ?pair, ?rtc, ?pwr, ?slot, ?slotRange⟩
  case graph =>
    refine fun h graph o g => does_eff rfl fun j a hc => ?_
    simp [grfGraphReadPacket, (beq_iff_eq.mp hc : tget a.cfg.graphs graph = some (o, g))]
  case graphNone =>
    refine fun h graph => fails_eff rfl fun j a hc => ?_
    simp [grfGraphReadPacket, (Option.isNone_iff_eq_none.mp hc : tget a.cfg.graphs graph = none), failRes]
  case sched =>
    refine fun h handle e => does_eff rfl fun j a hc => ?_
    simp only [Bool.and_eq_true, decide_eq_true_eq, beq_iff_eq] at hc
    obtain ⟨⟨hne, hlt⟩, he⟩ := hc
    simp [scheduleReadPacket, hne, Nat.not_le.mpr hlt, he]
  case schedNone =>
    refine fun h handle => does_eff rfl fun j a hc => ?_
    simp only [Bool.and_eq_true, decide_eq_true_eq, Option.isNone_iff_eq_none] at hc
    obtain ⟨⟨hne, hlt⟩, he⟩ := hc
    simp [scheduleReadPacket, hne, Nat.not_le.mpr hlt, he]
  case schedRange =>
    refine fun h handle => fails_eff rfl fun j a hc => ?_
    rw [decide_eq_true_eq] at hc
    exact (if_neg hc.1).trans (if_pos hc.2)
  case heel =>
    refine fun h x => does_eff rfl fun j a hc => ?_
    simp [scheduleReadPacket, (beq_iff_eq.mp hc : a.flt.pending = some x)]
  case heelNone =>
    refine fun h => does_eff rfl fun j a hc => ?_
    simp [scheduleReadPacket, (Option.isNone_iff_eq_none.mp hc : a.flt.pending = none)]
  case share =>
    refine fun h func => does_eff rfl fun j a hc => ?_
    simp only [Bool.and_eq_true, Bool.not_eq_true', ← Bool.not_eq_true] at hc
    exact (if_neg hc.1).trans (if_pos hc.2)
  case shareBusy => exact fun _ _ => fails_eff rfl fun _ _ hc => if_pos hc
  case shareNone =>
    refine fun h func => fails_eff rfl fun j a hc => ?_
    simp only [Bool.and_eq_true, Bool.not_eq_true', ← Bool.not_eq_true] at hc
    exact (if_neg hc.1).trans (if_neg hc.2)
  case task => exact fun _ _ => does_eff rfl fun _ _ hc => if_pos hc
  case taskNone => exact fun _ _ => fails_eff rfl fun _ _ hc => if_neg (by simpa using hc)
  case loop => exact fun _ => does_eff rfl fun _ _ _ => rfl
  case pair => exact fun _ => does_eff rfl fun _ _ _ => rfl
  case rtc => exact fun _ => does_eff rfl fun _ _ _ => rfl
  case pwr => exact fun _ => does_eff rfl fun _ _ _ => rfl
  case slot => exact fun _ _ => does_eff rfl fun _ _ hc => if_neg (by simpa using hc)
  case slotRange => exact fun _ _ => fails_eff rfl fun _ _ hc => if_pos (by simpa using hc)

/-- A command on a VF goes on when the VF exists and is not RESETTING (15 R457, R471). -/
theorem vfGuard_of_ready {v : Nat} {f : State → OpRes} {s : State} (he : vfExists s v = true)
    (ha : (vfSt s v).admission ≠ .resetting) : vfGuard v f s = f s := by
  simp [vfGuard, he, ha]

/-- A VF that does not exist is a range error (15 R457). -/
theorem vfGuard_of_not_exists {v : Nat} {f : State → OpRes} {s : State} (he : vfExists s v = false) :
    vfGuard v f s = failRes stFailed s := by
  simp [vfGuard, he]

/-- A VF that is RESETTING is busy (15 R471). -/
theorem vfGuard_of_resetting {v : Nat} {f : State → OpRes} {s : State} (he : vfExists s v = true)
    (ha : (vfSt s v).admission = .resetting) : vfGuard v f s = failRes stBusy s := by
  simp [vfGuard, he, ha]

/-- Settles O7: each read answers with its buffer written, within its ranges. -/
theorem bufferReadsWrite : Obligations.BufferReadsWrite := by
  unfold Obligations.BufferReadsWrite
  refine ⟨?signals, ?signalsRange, ?map, ?mapRange, ?events, ?eventsRange, ?health, ?identity, ?vf, ?vfNoBuffer, ?vfNone, ?vfBusy⟩
  case signals =>
    refine fun h id count under buf => does_eff rfl fun j a hc => ?_
    rw [decide_eq_true_eq] at hc
    exact if_neg (by omega)
  case signalsRange => exact fun _ _ _ _ _ => fails_eff rfl fun _ _ hc => if_pos (by simpa using hc)
  case map =>
    refine fun h type first count buf => does_eff rfl fun j a hc => ?_
    rw [decide_eq_true_eq] at hc
    exact if_neg (by omega)
  case mapRange => exact fun _ _ _ _ _ => fails_eff rfl fun _ _ hc => if_pos (by simpa using hc)
  case events =>
    refine fun h first count buf => does_eff rfl fun j a hc => ?_
    rw [decide_eq_true_eq] at hc
    exact if_neg (by omega)
  case eventsRange => exact fun _ _ _ _ => fails_eff rfl fun _ _ hc => if_pos (of_decide_eq_true hc)
  case health => exact fun _ _ => does_eff rfl fun _ _ _ => rfl
  case identity => exact fun _ _ => does_eff rfl fun _ _ _ => rfl
  case vf =>
    refine fun h vf buf => does_eff rfl fun j a hc => ?_
    simp only [Bool.and_eq_true, decide_eq_true_eq] at hc
    obtain ⟨he, ha, hb⟩ := hc
    simp [vfStatusPacket, vfGuard_of_ready he ha, hb]
  case vfNoBuffer =>
    refine fun h vf => does_eff rfl fun j a hc => ?_
    simp only [Bool.and_eq_true, decide_eq_true_eq] at hc
    obtain ⟨he, ha⟩ := hc
    simp [vfStatusPacket, vfGuard_of_ready he ha]
  case vfNone =>
    refine fun h vf buf => fails_eff rfl fun j a hc => ?_
    simp only [vfStatusPacket]
    exact vfGuard_of_not_exists (by simpa using hc)
  case vfBusy =>
    refine fun h vf buf => fails_eff rfl fun j a hc => ?_
    simp only [Bool.and_eq_true, decide_eq_true_eq] at hc
    simp only [vfStatusPacket]
    exact vfGuard_of_resetting hc.1 hc.2

end Sys2Proof.Machine
end Reads

/-! Family other: the ACTION-kind commands of the general, time, switch, stream and placement classes, and the enables. -/
section Actions
-- One proof after another: the stacks of proofs elaborated side by side exceed the memory of the check.
set_option Elab.async false
namespace Sys2Proof.Machine

open Safety

/-- CONFIG_COMMIT once the stored size fits and no switch is booked: what the validation finds decides (02 R76, R80). -/
theorem configCommitPacket_eff_of_validated {h : Hdr} {a : State} (hs : storedSize (candidate a h.func) ≤ 18874368)
    (hl : a.lgc.switchAt.isNone = true) (j : Nat) :
    (configCommitPacket h).eff j a = match validate a h.func with
      | .bad x => .done stFailed (failName x) a
      | .noPlace x e => .done stFailed (failName x) (evNoFit e a)
      | .good => .done stOk (resB 0 (commitStaging h.func a).cmd.gen) (commitStaging h.func a) := by
  refine (if_neg (show ¬ bankSize < _ by unfold bankSize; omega)).trans ((if_neg (by simpa using hl)).trans ?_)
  cases validate a h.func <;> rfl

/-- QUEUE_DELETE of a pair that is there (02 R87). -/
theorem queueDeletePacket_eff_of_some {h : Hdr} {qp : Nat} {a : State} {x : Qp} (hx : tget a.cmd.qps (h.func, qp) = some x) (j : Nat) :
    (queueDeletePacket h qp).eff j a =
      if !pairRange h.func qp then failRes stFailed a
      else if h.qp = qp ∨ 0 < ringWaiting x ∨ 0 < takenCount a h.func qp then failRes stBusy a
      else okRes (dropPairs h.func (fun q => q == qp) a) := by
  simp only [queueDeletePacket, hx]

/-- Settles O8: a commit is judged by its validation, and the pair commands by the pair that they name. -/
theorem generalActionsAct : Obligations.GeneralActionsAct := by
  unfold Obligations.GeneralActionsAct
  refine ⟨?commit, ?commitSize, ?commitSwitch, ?commitBad, ?commitNoFit, ?abort, ?create, ?createFails, ?delete, ?deleteBusy,
    ?deleteFails⟩
  case commit =>
    refine fun h => does_eff rfl fun j a hc => ?_
    simp only [Bool.and_eq_true, decide_eq_true_eq] at hc
    obtain ⟨⟨hs, hl⟩, hv⟩ := hc
    rw [configCommitPacket_eff_of_validated hs hl]
    split at hv <;> simp_all
  case commitSize =>
    exact fun h => does_of_eff rfl rfl (.inr rfl) fun j a hc => if_pos (of_decide_eq_true hc)
  case commitSwitch =>
    refine fun h => does_of_eff rfl rfl (.inr rfl) fun j a hc => ?_
    simp only [Bool.and_eq_true, decide_eq_true_eq] at hc
    exact (if_neg (show ¬ bankSize < _ by unfold bankSize; omega)).trans (if_pos hc.2)
  case commitBad =>
    refine fun h x => does_of_eff rfl rfl (.inr rfl) fun j a hc => ?_
    simp only [Bool.and_eq_true, decide_eq_true_eq] at hc
    obtain ⟨⟨hs, hl⟩, hv⟩ := hc
    rw [configCommitPacket_eff_of_validated hs hl]
    split at hv <;> simp_all
  case commitNoFit =>
    refine fun h x e => does_of_eff rfl rfl (.inr rfl) fun j a hc => ?_
    simp only [Bool.and_eq_true, decide_eq_true_eq] at hc
    obtain ⟨⟨hs, hl⟩, hv⟩ := hc
    rw [configCommitPacket_eff_of_validated hs hl]
    split at hv <;> simp_all [evNoFit]
  case abort => exact fun _ => does_eff rfl fun _ _ _ => rfl
  case create =>
    refine fun h p => does_eff rfl fun j a hc => ?_
    simp only [Bool.and_eq_true, Bool.not_eq_true'] at hc
    exact if_neg (by simp [hc.1, hc.2])
  case createFails => exact fun h p => fails_eff rfl fun j a hc => if_pos (by simpa using hc)
  case delete =>
    refine fun h qp => does_eff rfl fun j a hc => ?_
    simp only [Bool.and_eq_true, decide_eq_true_eq] at hc
    obtain ⟨⟨hr, hne⟩, hx⟩ := hc
    split at hx
    case h_2 => cases hx
    case h_1 x hget =>
      rw [decide_eq_true_eq] at hx
      rw [queueDeletePacket_eff_of_some hget, if_neg (by simp [hr]), if_neg (by omega)]
      rfl
  case deleteBusy =>
    refine fun h qp => fails_eff rfl fun j a hc => ?_
    simp only [Bool.and_eq_true] at hc
    obtain ⟨hr, hx⟩ := hc
    split at hx
    case h_2 => cases hx
    case h_1 x hget =>
      rw [queueDeletePacket_eff_of_some hget, if_neg (by simp [hr]), if_pos (of_decide_eq_true hx)]
      rfl
  case deleteFails =>
    refine fun h qp => fails_eff rfl fun j a hc => ?_
    cases hget : tget a.cmd.qps (h.func, qp) with
    | none => simp only [queueDeletePacket, hget]; rfl
    | some x =>
      have hr : pairRange h.func qp = false := by simpa [thas, hget] using hc
      rw [queueDeletePacket_eff_of_some hget, if_pos (by simp [hr])]
      rfl

/-- An MTIME that is read off the time units ends before the next second. -/
theorem munits_mtimeOfUnits_lt (t : Int) : munits (mtimeOfUnits t) < ((mtimeOfUnits t).sec + 1) * secUnits := by
  simp only [munits, mtimeOfUnits, secUnits, two32]
  omega

/-- A second that is two or more ahead of module time is not past. -/
theorem mlt_now_eq_false {s : State} {sec : Nat} (h : (now s).sec + 2 ≤ sec) : mlt ⟨sec, 0, 0⟩ (now s) = false := by
  have hnow : munits (now s) < ((now s).sec + 1) * secUnits := munits_mtimeOfUnits_lt _
  rw [mlt, decide_eq_false_iff_not]
  simp only [munits, secUnits, two32] at hnow ⊢
  omega

/-- Settles O9: each action by its packet's checks in their order. -/
theorem networkActionsAct : Obligations.NetworkActionsAct := by
  unfold Obligations.NetworkActionsAct
  refine ⟨?path, ?pathRange, ?step, ?stepBusy, ?stepPast, ?stepSoon, ?flush, ?resync, ?resyncNot, ?resyncRange, ?freeze, ?thaw,
    ?freezeRange⟩
  case path => exact fun _ _ => does_eff rfl fun _ _ hc => if_pos (of_decide_eq_true hc)
  case pathRange => exact fun _ _ => fails_eff rfl fun _ _ hc => if_neg (by simpa using hc)
  case step =>
    refine fun h atSec => waits_of_eff rfl rfl fun j a hc => ?_
    simp only [Bool.and_eq_true, decide_eq_true_eq] at hc
    exact (if_neg (by simpa using hc.1)).trans ((if_neg (by rw [mlt_now_eq_false hc.2]; simp)).trans (if_neg (by omega)))
  case stepBusy => exact fun _ _ => fails_eff rfl fun _ _ hc => if_pos hc
  case stepPast =>
    refine fun h atSec => fails_eff rfl fun j a hc => ?_
    simp only [Bool.and_eq_true] at hc
    obtain ⟨⟨hn, hs⟩, hl⟩ := hc
    exact (if_neg (by simpa using hn)).trans (if_pos (by simp [hs, hl]))
  case stepSoon =>
    refine fun h atSec => fails_eff rfl fun j a hc => ?_
    simp only [Bool.and_eq_true, decide_eq_true_eq, Bool.not_eq_true'] at hc
    obtain ⟨⟨hn, hs⟩, hl⟩ := hc
    exact (if_neg (by simpa using hn)).trans ((if_neg (ne_true_of_eq_false hs)).trans (if_pos hl))
  case flush => exact fun _ _ => does_eff rfl fun _ _ _ => rfl
  case resync =>
    refine fun h stream => does_eff rfl fun j a hc => ?_
    simp only [Bool.and_eq_true, decide_eq_true_eq] at hc
    obtain ⟨⟨hr, ho⟩, hs⟩ := hc
    exact (if_neg (by omega)).trans (if_pos ⟨ho, hs⟩)
  case resyncNot =>
    refine fun h stream => does_eff rfl fun j a hc => ?_
    simp only [Bool.and_eq_true, decide_eq_true_eq, Bool.not_eq_true', ← Bool.not_eq_true] at hc
    exact (if_neg (by omega)).trans (if_neg hc.2)
  case resyncRange => exact fun _ _ => fails_eff rfl fun _ _ hc => if_pos (of_decide_eq_true hc)
  case freeze => exact fun _ => does_eff rfl fun _ _ _ => rfl
  case thaw => exact fun _ => does_eff rfl fun _ _ _ => rfl
  case freezeRange => exact fun _ _ => fails_eff rfl fun _ _ hc => if_pos (of_decide_eq_true hc)

/-- A command whose status depends on what it finds: below 0x10 it has its effect, and a failure has none. -/
theorem does_of_status {i : Instr} {p : Packet} {c : State → Bool} {st : Nat} {f : Nat → State → State}
    (hp : packetOf i = some p) (he : ∀ j a, c a = true → p.eff j a = .done st 0 (f j a))
    (hst : ∀ j a, c a = true → st < 0x10 ∨ st = stFailed ∧ f j a = a)
    (hi : isResume i = false := by rfl) (hf : p.failActs = false := by rfl) : Does i c st noResult f := by
  intro q s hq hr hc
  have heff := he (jseqOf q s) (afterAccept q s) hc
  rcases hst (jseqOf q s) (afterAccept q s) hc with h | ⟨rfl, h⟩
  · exact does_of_eff hp hi (.inl h) he q s hq hr hc
  · cases hp.symm.trans hq
    rw [exec_failed_of_runs hp hi hr hf (heff.trans (by rw [h])), h, noResult_apply]

theorem stOk_lt : stOk < 0x10 := by decide

/-- Enable and disable complete with ST_OK or ST_PENDING (Table GRF-6). -/
theorem objChange_status (en : Bool) (o : ObjSt) : (objChange en o).2.1 < 0x10 := by
  obtain ⟨obj, drainBooked, enPending⟩ := o
  cases en <;> cases obj <;> cases drainBooked <;> cases enPending <;> decide

/-- The flag of an enable command is the number 1. -/
theorem enableFlag_eq (en : Bool) : ((if en then 1 else 0 : Nat) == 1) = en := by cases en <;> rfl

theorem enableFlag_le (en : Bool) : ¬ 1 < (if en then 1 else 0 : Nat) := by cases en <;> decide

/-- A change booked for the boundary completes as an enable or disable does (09 R294). -/
theorem bookChange_status (en : Bool) (o : ObjSt) (b : Option Bool) : (bookChange en o b).2.2.1 < 0x10 := by
  unfold bookChange
  split
  · split
    · split <;> exact stOk_lt
    · exact stOk_lt
  · exact objChange_status en o

/-- A port completes as its object does. -/
theorem portChange_status (port : Nat) (en : Bool) (j : Nat) (a : State) : (portChange port en j a).2 < 0x10 :=
  objChange_status en (portSt a port).o

/-- A stream completes as its object does. -/
theorem streamChange_status (n : Nat) (en : Bool) (j : Nat) (a : State) : (streamChange n en j a).1 < 0x10 :=
  objChange_status en (strSt a n).o

/-- A graph completes as its booking does. -/
theorem graphChange_status (g : Nat) (en : Bool) (j : Nat) (a : State) : (graphChange g en j a).1 < 0x10 :=
  bookChange_status en (graphSt a g).o (graphSt a g).atBoundary

/-- A node group completes as its booking does. -/
theorem groupChange_status (g k : Nat) (en : Bool) (j : Nat) (a : State) : (groupChange g k en j a).1 < 0x10 :=
  bookChange_status en (groupSt (graphSt a g) k) (tget (graphSt a g).groupAt k)

/-- The loop completes as an object does, whichever command it is. -/
theorem loopChange_status (en : Bool) (j : Nat) (a : State) :
    (loopChange en j a).1 = (loopChange en 0 a).1 ∧ (loopChange en j a).1 < 0x10 := by
  unfold loopChange
  dsimp only
  split
  · split
    · split <;> exact ⟨rfl, stOk_lt⟩
    · exact ⟨rfl, stOk_lt⟩
  · exact ⟨rfl, objChange_status en a.lop.o⟩

/-- A VF completes as its object does, whichever command it is, or fails with nothing changed (15 R463, R465). -/
theorem vfChange_status (v : Nat) (en : Bool) (j : Nat) (a : State) :
    (vfChange v en j a).1 = (vfChange v en 0 a).1
      ∧ ((vfChange v en j a).1 < 0x10 ∨ (vfChange v en j a).1 = stFailed ∧ (vfChange v en j a).2 = a) := by
  unfold vfChange
  dsimp only
  split
  · exact ⟨rfl, .inr ⟨rfl, rfl⟩⟩
  · split
    · exact ⟨rfl, .inr ⟨rfl, rfl⟩⟩
    · exact ⟨rfl, .inl (objChange_status en (vfSt a v).o)⟩

/-- TYPE 0 names a graph (Table GRF-11). -/
theorem enableById_graph {id : Nat} {a : State} (h : graphExists a id = true) (en : Bool) (j : Nat) :
    enableById 0 id en j a = graphChange id en j a := by
  simp only [enableById, if_true, h]

/-- TYPE 1 names a node group of a graph (Table GRF-11). -/
theorem enableById_group {id o : Nat} {g : GraphImage} {a : State} (hg : tget a.cfg.graphs (id / 64) = some (o, g))
    (hk : id % 64 < g.ngroups) (en : Bool) (j : Nat) : enableById 1 id en j a = groupChange (id / 64) (id % 64) en j a := by
  simp only [enableById, Nat.one_ne_zero, if_false, hg, if_pos hk]

/-- Settles O10: each enable answers the step of its object; the checks before it are those of its packet. -/
theorem enablesAct : Obligations.EnablesAct := by
  unfold Obligations.EnablesAct
  refine ⟨?port, ?stream, ?gs, ?gp, ?svp, ?graph, ?group, ?task, ?loop, ?vf, ?portRange, ?streamRange, ?gsRange, ?gpRange, ?grfRange,
    ?taskRange, ?loopRange, ?vfRange, ?vfBusy⟩
  case port =>
    refine fun h port en st => does_of_status rfl (fun j a hc => ?_) fun j a hc => .inl ?_
    all_goals rw [beq_iff_eq] at hc
    · exact (if_neg (enableFlag_le en)).trans (by rw [enableFlag_eq]; exact congrArg (OpRes.done · 0 _) hc)
    · exact hc ▸ portChange_status port en 0 a
  case stream =>
    refine fun h stream en st => does_of_status rfl (fun j a hc => ?_) fun j a hc => .inl ?_
    all_goals
      simp only [Bool.and_eq_true, decide_eq_true_eq, beq_iff_eq] at hc
      obtain ⟨⟨hs, hctx⟩, hst⟩ := hc
    · refine (if_neg ?_).trans ((if_neg ?_).trans ?_)
      · have := enableFlag_le en; omega
      · cases en <;> simp_all [Option.isSome_iff_ne_none]
      · rw [enableFlag_eq]; exact congrArg (OpRes.done · 0 _) hst
    · exact hst ▸ streamChange_status stream en 0 a
  case gs =>
    refine fun h ctx en st => does_of_status rfl (fun j a hc => ?_) fun j a hc => .inl ?_
    all_goals
      simp only [Bool.and_eq_true, decide_eq_true_eq, beq_iff_eq, Option.isSome_iff_ne_none] at hc
      obtain ⟨⟨hn, hctx⟩, hst⟩ := hc
    · refine (if_neg ?_).trans ?_
      · have := enableFlag_le en
        rw [Option.isNone_iff_eq_none]
        exact fun hbad => hbad.elim (by omega) (·.elim this hctx)
      · rw [enableFlag_eq]; exact congrArg (OpRes.done · 0 _) hst
    · exact hst ▸ objChange_status en _
  case gp =>
    refine fun h ctx en st => does_of_status rfl (fun j a hc => ?_) fun j a hc => .inl ?_
    all_goals
      simp only [Bool.and_eq_true, decide_eq_true_eq, beq_iff_eq, Option.isSome_iff_ne_none] at hc
      obtain ⟨⟨hn, hctx⟩, hst⟩ := hc
    · refine (if_neg ?_).trans ((if_neg (by omega)).trans ((if_neg (by simpa using hctx)).trans ?_))
      · have := enableFlag_le en; omega
      · rw [enableFlag_eq]; exact congrArg (OpRes.done · 0 _) hst
    · exact hst ▸ objChange_status en _
  case svp =>
    refine fun h n en st => does_of_status rfl (fun j a hc => ?_) fun j a hc => .inl ?_
    all_goals
      simp only [Bool.and_eq_true, decide_eq_true_eq, beq_iff_eq, Option.isSome_iff_ne_none] at hc
      obtain ⟨⟨hn, hctx⟩, hst⟩ := hc
    · refine (if_neg ?_).trans ((if_pos (by omega)).trans ?_)
      · have := enableFlag_le en; omega
      · rw [Nat.add_sub_cancel_left]
        refine (if_neg (by simpa using hctx)).trans ?_
        rw [enableFlag_eq]; exact congrArg (OpRes.done · 0 _) hst
    · exact hst ▸ objChange_status en _
  case graph =>
    refine fun h graph en st => does_of_status rfl (fun j a hc => ?_) fun j a hc => .inl ?_
    all_goals
      simp only [Bool.and_eq_true, beq_iff_eq] at hc
      obtain ⟨hex, hst⟩ := hc
    · have hen := enableFlag_le en
      simp only [grfEnablePacket]
      rw [if_neg (by omega), enableFlag_eq, enableById_graph hex]
      exact congrArg (OpRes.done · 0 _) hst
    · exact hst ▸ graphChange_status graph en 0 a
  case group =>
    refine fun h id o g en st => does_of_status rfl (fun j a hc => ?_) fun j a hc => .inl ?_
    all_goals
      simp only [Bool.and_eq_true, decide_eq_true_eq, beq_iff_eq] at hc
      obtain ⟨⟨hg, hk⟩, hst⟩ := hc
    · have hen := enableFlag_le en
      simp only [grfEnablePacket]
      rw [if_neg (by omega), enableFlag_eq, enableById_group hg hk]
      exact congrArg (OpRes.done · 0 _) hst
    · exact hst ▸ groupChange_status (id / 64) (id % 64) en 0 a
  case task =>
    refine fun h task en st => does_of_status rfl (fun j a hc => ?_) fun j a hc => .inl ?_
    all_goals
      simp only [Bool.and_eq_true, beq_iff_eq] at hc
      obtain ⟨hdef, hst⟩ := hc
    · refine (if_neg ?_).trans ?_
      · have := enableFlag_le en; simp [hdef]; omega
      · rw [enableFlag_eq]; exact congrArg (OpRes.done · 0 _) hst
    · exact hst ▸ objChange_status en _
  case loop =>
    refine fun h en st => does_of_status rfl (fun j a hc => ?_) fun j a hc => .inl ?_
    all_goals
      simp only [Bool.and_eq_true, beq_iff_eq] at hc
      obtain ⟨hl, hst⟩ := hc
    · refine (if_neg ?_).trans ?_
      · have := enableFlag_le en; simp [← Option.not_isSome, hl]; omega
      · rw [enableFlag_eq]
        exact congrArg (OpRes.done · 0 _) ((loopChange_status en j a).1.trans hst)
    · exact hst ▸ (loopChange_status en 0 a).2
  case vf =>
    refine fun h vf en st => does_of_status rfl (fun j a hc => ?_) fun j a hc => ?_
    all_goals
      simp only [Bool.and_eq_true, decide_eq_true_eq, beq_iff_eq] at hc
      obtain ⟨⟨hex, hadm⟩, hst⟩ := hc
      obtain ⟨hj, hres⟩ := vfChange_status vf en j a
      rw [hst] at hj
    · simp only [vfEnablePacket, vfGuard_of_ready hex hadm, if_neg (enableFlag_le en), enableFlag_eq, hj]
    · rwa [hj] at hres
  case portRange => exact fun _ _ _ => fails_eff rfl fun _ _ hc => if_pos (of_decide_eq_true hc)
  case streamRange =>
    refine fun h stream enable => fails_eff rfl fun j a hc => ?_
    by_cases hr : 8191 < stream ∨ 1 < enable
    · exact if_pos hr
    · exact (if_neg hr).trans (if_pos (by simpa [hr] using hc))
  case gsRange => exact fun h ctx enable => fails_eff rfl fun j a hc => if_pos (by simpa [or_assoc] using hc)
  case gpRange => exact fun _ _ _ => fails_eff rfl fun _ _ hc => if_pos (of_decide_eq_true hc)
  case grfRange => exact fun _ _ _ _ => fails_eff rfl fun _ _ hc => if_pos (of_decide_eq_true hc)
  case taskRange => exact fun _ _ _ => fails_eff rfl fun _ _ hc => if_pos (by simpa using hc)
  case loopRange => exact fun _ _ => fails_eff rfl fun _ _ hc => if_pos (by simpa using hc)
  case vfRange =>
    refine fun h vf enable => fails_eff rfl fun j a hc => ?_
    simp only [vfEnablePacket]
    cases hex : vfExists a vf with
    | false => exact vfGuard_of_not_exists hex
    | true =>
      simp only [hex, Bool.not_true, Bool.false_or, decide_eq_true_eq] at hc
      rw [vfGuard_of_ready hex hc.1, if_pos hc.2]; rfl
  case vfBusy =>
    refine fun h vf enable => fails_eff rfl fun j a hc => ?_
    simp only [Bool.and_eq_true, decide_eq_true_eq] at hc
    simp only [vfEnablePacket]
    exact vfGuard_of_resetting hc.1 hc.2

end Sys2Proof.Machine
end Actions

/-! Family other: the ACTION-kind commands of filters, signals, schedules, logic tasks, the loop, the pair and the functions. -/
section MoreActions
-- One proof after another: the stacks of proofs elaborated side by side exceed the memory of the check.
set_option Elab.async false
namespace Sys2Proof.Machine

open Safety

/-- A command of another kind than CONFIG whose effect answers ST_QUEUE_FULL in the state it found. -/
theorem fails_full_eff {i : Instr} {p : Packet} {c : State → Bool} {res : Result} (op : Nat) (hp : packetOf i = some p)
    (he : ∀ j a, c a = true → p.eff j a = .done stQueueFull res a) (hi : isResume i = false := by rfl)
    (hf : p.failActs = false := by rfl) (hop : p.opcode = op := by rfl) (hk : isConfig op = false := by decide) :
    Fails i c stQueueFull res :=
  fails_of_eff hp hi (by decide) hf (.inr (hop ▸ hk)) fun j a hc => ⟨a, he j a hc⟩

/-- A heel is out of range: by its own fields, by its nanoseconds, or more than a day ahead (07 R228). -/
def heelOut (s : State) (ok : Bool) (sec ns : Nat) : Prop := ok = false ∨ 1000000000 ≤ ns ∨ (now s).sec + 86400 < sec

section
variable {ok clear strict : Bool} {sec ns src : Nat} {s : State}

theorem bookHeel_busy (h : s.flt.pending.isSome = true) : bookHeel ok sec ns clear strict src s = (stBusy, 0, s) := by
  simp only [bookHeel, h, if_true]

theorem bookHeel_past (h : s.flt.pending.isNone = true) (hp : atPast s sec ns = true) (hs : strict = true) :
    bookHeel ok sec ns clear strict src s = (stPast, 0, s) := by
  unfold atPast at hp
  simp only [bookHeel, h, hp, hs, if_true, ← Option.not_isNone, Bool.not_true, Bool.false_eq_true, if_false]

theorem bookHeel_out (h : s.flt.pending.isNone = true) (ho : heelOut s ok sec ns) (hs : ¬ (strict = true ∧ atPast s sec ns = true)) :
    bookHeel ok sec ns clear strict src s = (stFailed, 0, s) := by
  have hbad : (!ok || decide (1000000000 ≤ ns ∨ (now s).sec + 86400 < sec)) = true := by
    simpa [heelOut] using ho
  unfold atPast at hs
  simp only [bookHeel, h, hbad, if_true, ← Option.not_isNone, Bool.not_true, Bool.false_eq_true, if_false]
  split
  case isTrue hp => rw [if_neg fun h1 : strict = true => hs ⟨h1, hp⟩]
  case isFalse => rfl

theorem bookHeel_late (h : s.flt.pending.isNone = true) (ho : ¬ heelOut s ok sec ns) (hp : atPast s sec ns = true) (hs : strict = false) :
    bookHeel ok sec ns clear strict 0 s =
      (stLate, resB 0 (twos 64 (lateness s sec ns)), takeHeel (now s) clear (heelSrc 0) s) := by
  have hbad : (!ok || decide (1000000000 ≤ ns ∨ (now s).sec + 86400 < sec)) = false := by
    simpa [heelOut] using ho
  unfold atPast at hp
  simp only [bookHeel, h, hbad, hp, hs, if_true, ← Option.not_isNone, Bool.not_true, Bool.false_eq_true, if_false]
  rfl

theorem bookHeel_ok (h : s.flt.pending.isNone = true) (ho : ¬ heelOut s ok sec ns) (hp : atPast s sec ns = false) :
    bookHeel ok sec ns clear strict src s =
      (stOk, resB 0 (sec % 2 ^ 64) ||| resB 8 ns, { s with flt := { s.flt with pending := some ⟨sec, ns, clear, src, strict⟩ } }) := by
  have hbad : (!ok || decide (1000000000 ≤ ns ∨ (now s).sec + 86400 < sec)) = false := by
    simpa [heelOut] using ho
  unfold atPast at hp
  simp only [bookHeel, h, hbad, hp, ← Option.not_isNone, Bool.not_true, Bool.false_eq_true, if_false]
end

/-- SIG_FORCE of a defined signal: the table's room, the fields, then what the release or the force does (08 R248 to R250). -/
theorem sigForcePacket_eff_of_def {h : Hdr} {p : SigWriteParams} {a : State} {d : SigDef} (hd : sigDef a p.id = some d) (j : Nat) :
    (sigForcePacket h p).eff j a =
      if p.op = 0 ∧ (projectedForces a).contains p.id = false ∧ forceCap ≤ (projectedForces a).length then failRes stQueueFull a
      else if 1 < p.op ∨ (p.op = 0 ∧ valueFits d.type p.value = false) then failRes stFailed a
      else if p.op = 1 ∧ (projectedForces a).contains p.id = false then okRes a
      else okRes { a with sig := { a.sig with pendForce := a.sig.pendForce ++ [⟨p.id, p.op, p.value, p.qual⟩] } } := by
  simp only [sigForcePacket, hd]

/-- Settles O12: a heel is booked as `bookHeel` decides; a write and a force ask for the signal's definition. -/
theorem signalActionsAct : Obligations.SignalActionsAct := by
  unfold Obligations.SignalActionsAct
  refine ⟨?heel, ?heelBusy, ?heelPast, ?heelOut, ?heelLate, ?write, ?writeFails, ?force, ?release, ?forceFull, ?forceFails⟩
  case heel =>
    refine fun h atSec atNs clear => does_eff rfl fun j a hc => ?_
    simp only [Bool.and_eq_true, decide_eq_true_eq, Bool.not_eq_true'] at hc
    obtain ⟨⟨hn, hr⟩, hp⟩ := hc
    simp only [fltHeelPacket]
    rw [bookHeel_ok hn (by simp only [heelOut, decide_eq_false_iff_not]; omega) hp]
  case heelBusy =>
    refine fun h atSec atNs clear => fails_eff rfl fun j a hc => ?_
    simp only [fltHeelPacket]
    rw [bookHeel_busy hc]
  case heelPast =>
    refine fun h atSec atNs clear => fails_eff rfl fun j a hc => ?_
    simp only [Bool.and_eq_true] at hc
    obtain ⟨⟨hn, hs⟩, hp⟩ := hc
    simp only [fltHeelPacket]
    rw [bookHeel_past hn hp hs]
  case heelOut =>
    refine fun h atSec atNs clear => fails_eff rfl fun j a hc => ?_
    simp only [Bool.and_eq_true, decide_eq_true_eq, Bool.not_eq_true'] at hc
    obtain ⟨⟨hn, hr⟩, hp⟩ := hc
    simp only [fltHeelPacket]
    rw [bookHeel_out hn (by simp only [heelOut, decide_eq_false_iff_not]; omega)
      (by rw [← Bool.and_eq_true]; exact ne_true_of_eq_false hp)]
  case heelLate =>
    refine fun h atSec atNs clear => does_eff rfl fun j a hc => ?_
    simp only [Bool.and_eq_true, decide_eq_true_eq, Bool.not_eq_true'] at hc
    obtain ⟨⟨⟨hn, hr⟩, hs⟩, hp⟩ := hc
    simp only [fltHeelPacket]
    rw [bookHeel_late hn (by simp only [heelOut, decide_eq_false_iff_not]; omega) hp hs]
  case write =>
    refine fun h p d => does_eff rfl fun j a hc => ?_
    simp only [Bool.and_eq_true, decide_eq_true_eq, beq_iff_eq] at hc
    obtain ⟨⟨hd, hsrc, hop⟩, hfit⟩ := hc
    simp [sigWritePacket, hd, hsrc, hop, hfit, okRes]
  case writeFails =>
    refine fun h p => fails_eff rfl fun j a hc => ?_
    cases hd : sigDef a p.id with
    | none => simp only [sigWritePacket, hd, failRes]
    | some d =>
      have hbad : d.source ≠ 3 ∨ p.op ≠ 0 ∨ valueFits d.type p.value = false := by simpa [hd, or_assoc] using hc
      simp only [sigWritePacket, hd, if_pos hbad, failRes]
  case force =>
    refine fun h p => does_eff rfl fun j a hc => ?_
    simp only [Bool.and_eq_true, Bool.or_eq_true, beq_iff_eq, decide_eq_true_eq] at hc
    rcases hc with ⟨⟨hop, hroom⟩, hfit⟩ | ⟨⟨hop, hdef⟩, hin⟩
    · split at hfit
      case h_2 => cases hfit
      case h_1 d hd =>
        rw [sigForcePacket_eff_of_def hd, if_neg, if_neg (by simp [hop, hfit]), if_neg (by simp [hop])]
        · rfl
        · rintro ⟨-, hout, hlen⟩
          exact hroom.elim (by rw [hout]; decide) (by omega)
    · obtain ⟨d, hd⟩ := Option.isSome_iff_exists.mp hdef
      rw [sigForcePacket_eff_of_def hd, if_neg (by omega), if_neg (by omega), if_neg (by rw [hin]; simp)]
      rfl
  case release =>
    refine fun h p => does_eff rfl fun j a hc => ?_
    simp only [Bool.and_eq_true, Bool.not_eq_true', beq_iff_eq] at hc
    obtain ⟨⟨hop, hdef⟩, hout⟩ := hc
    obtain ⟨d, hd⟩ := Option.isSome_iff_exists.mp hdef
    rw [sigForcePacket_eff_of_def hd, if_neg (by omega), if_neg (by omega), if_pos ⟨hop, hout⟩]
    rfl
  case forceFull =>
    refine fun h p => fails_full_eff 0x0641 rfl fun j a hc => ?_
    simp only [Bool.and_eq_true, Bool.not_eq_true', beq_iff_eq, decide_eq_true_eq] at hc
    obtain ⟨⟨hop, hout⟩, hlen⟩ := hc
    exact if_pos ⟨hop, hout, hlen⟩
  case forceFails =>
    refine fun h p => fails_eff rfl fun j a hc => ?_
    simp only [Bool.or_eq_true, Bool.and_eq_true, beq_iff_eq, decide_eq_true_eq, Option.isNone_iff_eq_none] at hc
    have hop : p.op ≠ 0 := by omega
    cases hd : sigDef a p.id with
    | none => simp [sigForcePacket, hop, hd, failRes]
    | some d =>
      have hlt : 1 < p.op := hc.resolve_right (by simp [hd])
      simp [sigForcePacket, hop, hd, hlt, failRes]

/-- SCHEDULE of another action than a heel, with a free handle and the configuration restored (09 R299, R300). -/
theorem schedulePacket_eff_of_free {h : Hdr} {p : SchedParams} {a : State} {n : Nat} (h5 : p.action ≠ 5)
    (hn : freeHandle a = some n) (hr : a.pwr.restored = true) (j : Nat) :
    (schedulePacket h p).eff j a =
      if atPast a p.atSec p.atNs = true ∧ h.strict = true then failRes stPast a
      else if 1000000000 ≤ p.atNs ∨ actionOk p = false ∨ actionNames a p.action p.target = false then failRes stFailed a
      else
        let t := { a with grf := { a.grf with sched := (tset a.grf.sched n
          ⟨p.atSec, p.atNs, p.action, p.target, p.arg0, p.arg1, h.strict, j, h.func, atPast a p.atSec p.atNs, now a⟩) } }
        if atPast a p.atSec p.atNs then .done stLate (resB 0 (twos 64 (lateness a p.atSec p.atNs))) t else .done stOk (resB 0 n) t := by
  simp only [schedulePacket, if_neg h5, hn, hr, Bool.true_eq_false, if_false]

/-- The handle that is free, when one is. -/
theorem schedulePacket_eff_of_none {h : Hdr} {p : SchedParams} {a : State} (h5 : p.action ≠ 5) (hn : freeHandle a = none) (j : Nat) :
    (schedulePacket h p).eff j a = failRes stQueueFull a := by
  simp only [schedulePacket, if_neg h5, hn]

/-- GRF_SETTING_GROUP of a graph that waits for none (09 R297). -/
theorem grfSettingGroupPacket_eff_of_some {h : Hdr} {graph group : Nat} {a : State} {e : Nat × GraphImage}
    (hb : thas a.grf.groupCmds graph = false) (he : tget a.cfg.graphs graph = some e) (j : Nat) :
    (grfSettingGroupPacket h graph group).eff j a =
      if e.2.nsets ≤ group then failRes stFailed a else .wait (bookGroup graph group ⟨0, h.func, h.qp, j⟩ a) := by
  simp only [grfSettingGroupPacket, hb, he, Bool.false_eq_true, if_false]

/-- Settles O13: SCHEDULE asks for its handle, its time and its fields in this order; a heel is booked as FLT_HEEL books it. -/
theorem scheduleActionsAct : Obligations.ScheduleActionsAct := by
  unfold Obligations.ScheduleActionsAct
  refine ⟨?sched, ?late, ?past, ?full, ?busy, ?range, ?heel, ?cancel, ?cancelHeel, ?cancelFails, ?group, ?groupBusy, ?groupFails⟩
  case sched =>
    refine fun h p n => does_eff rfl fun j a hc => ?_
    simp only [Bool.and_eq_true, decide_eq_true_eq, beq_iff_eq, Bool.not_eq_true'] at hc
    obtain ⟨⟨⟨⟨⟨⟨h5, hn⟩, hr⟩, hns⟩, hok⟩, hnm⟩, hp⟩ := hc
    rw [schedulePacket_eff_of_free h5 hn hr, if_neg (by simp [hp]), if_neg (by simp [hok, hnm]; omega)]
    simp only [hp, Bool.false_eq_true, if_false]
  case late =>
    refine fun h p n => does_eff rfl fun j a hc => ?_
    simp only [Bool.and_eq_true, decide_eq_true_eq, beq_iff_eq, Bool.not_eq_true'] at hc
    obtain ⟨⟨⟨⟨⟨⟨⟨h5, hn⟩, hr⟩, hns⟩, hok⟩, hnm⟩, hp⟩, hs⟩ := hc
    rw [schedulePacket_eff_of_free h5 hn hr, if_neg (by simp [hs]), if_neg (by simp [hok, hnm]; omega)]
    simp only [hp, if_true]
  case past =>
    refine fun h p => fails_eff rfl fun j a hc => ?_
    simp only [Bool.and_eq_true, decide_eq_true_eq] at hc
    obtain ⟨⟨⟨⟨h5, hn⟩, hr⟩, hp⟩, hs⟩ := hc
    obtain ⟨n, hn⟩ := Option.isSome_iff_exists.mp hn
    rw [schedulePacket_eff_of_free h5 hn hr, if_pos ⟨hp, hs⟩]; rfl
  case full =>
    refine fun h p => fails_full_eff 0x0741 rfl fun j a hc => ?_
    simp only [Bool.and_eq_true, decide_eq_true_eq, Option.isNone_iff_eq_none] at hc
    exact schedulePacket_eff_of_none hc.1 hc.2 j
  case busy =>
    refine fun h p => fails_eff rfl fun j a hc => ?_
    simp only [Bool.and_eq_true, decide_eq_true_eq, Bool.not_eq_true'] at hc
    obtain ⟨⟨h5, hn⟩, hr⟩ := hc
    obtain ⟨n, hn⟩ := Option.isSome_iff_exists.mp hn
    simp only [schedulePacket, if_neg h5, hn, hr, if_true]; rfl
  case range =>
    refine fun h p => fails_eff rfl fun j a hc => ?_
    simp only [Bool.and_eq_true, Bool.or_eq_true, decide_eq_true_eq, Bool.not_eq_true'] at hc
    obtain ⟨⟨⟨⟨h5, hn⟩, hr⟩, hbad⟩, hp⟩ := hc
    obtain ⟨n, hn⟩ := Option.isSome_iff_exists.mp hn
    rw [schedulePacket_eff_of_free h5 hn hr, if_neg, if_pos (by rwa [or_assoc] at hbad)]; rfl
    rw [← Bool.and_eq_true]; exact ne_true_of_eq_false hp
  case heel =>
    refine fun h p => does_eff rfl fun j a hc => ?_
    simp only [Bool.and_eq_true, decide_eq_true_eq, Bool.not_eq_true'] at hc
    obtain ⟨⟨⟨h5, ht, h0, hns, hsec⟩, hn⟩, hp⟩ := hc
    have hok : actionOk p = true := by simp [actionOk, h5, ht, h0]
    simp only [schedulePacket, if_pos h5]
    rw [bookHeel_ok hn (by simp only [heelOut, hok]; simp; omega) hp]
    rfl
  case cancel =>
    refine fun h handle => does_eff rfl fun j a hc => ?_
    simp only [Bool.and_eq_true, decide_eq_true_eq] at hc
    exact (if_neg hc.1).trans (if_pos hc.2)
  case cancelHeel =>
    refine fun h => does_eff rfl fun j a hc => ?_
    simp only [scheduleCancelPacket, if_true]
    exact if_pos hc
  case cancelFails =>
    refine fun h handle => fails_eff rfl fun j a hc => ?_
    by_cases hh : handle = 0xFFFF
    · simp only [if_pos hh] at hc
      exact (if_pos hh).trans (if_neg (by simpa using hc))
    · simp only [if_neg hh, Bool.not_eq_true'] at hc
      exact (if_neg hh).trans (if_neg (ne_true_of_eq_false hc))
  case group =>
    refine fun h graph group o g => waits_of_eff rfl rfl fun j a hc => ?_
    simp only [Bool.and_eq_true, decide_eq_true_eq, beq_iff_eq, Bool.not_eq_true'] at hc
    obtain ⟨⟨hb, he⟩, hlt⟩ := hc
    rw [grfSettingGroupPacket_eff_of_some hb he, if_neg (by simpa using hlt)]
    rfl
  case groupBusy => exact fun _ _ _ => fails_eff rfl fun _ _ hc => if_pos hc
  case groupFails =>
    refine fun h graph group => fails_eff rfl fun j a hc => ?_
    simp only [Bool.and_eq_true, Bool.not_eq_true'] at hc
    obtain ⟨hb, he⟩ := hc
    split at he
    case h_1 e hget => rw [grfSettingGroupPacket_eff_of_some hb hget, if_pos (of_decide_eq_true he)]; rfl
    case h_2 hget => simp only [grfSettingGroupPacket, hb, hget, Bool.false_eq_true, if_false]; rfl

end Sys2Proof.Machine
end MoreActions

/-! Family other: the ACTION-kind commands of logic tasks, the loop, the pair, the functions and the event recorder. -/
section TaskActions
-- One proof after another: the stacks of proofs elaborated side by side exceed the memory of the check.
set_option Elab.async false
namespace Sys2Proof.Machine

open Safety

/-- LGC_ONLINE_LOAD with no switch booked and its fields in range: the image's own checks decide (12 R387 to R390). -/
theorem lgcOnlineLoadPacket_eff_of_inRange {h : Hdr} {image : ImageAt} {keySlot : Nat} {img : LogicImage} {a : State}
    (hs : a.lgc.switchAt.isNone = true) (hk : keySlot ≤ 255 ∧ image.addr % 64 = 0)
    (hr : logicReason a (switchCfg (tset a.lgc.staged2 img.task img) a.cfg) true image.len keySlot img = 0) (j : Nat) :
    (lgcOnlineLoadPacket h image ⟨keySlot, 0, 0⟩ img).eff j a = match taskImg a img.task with
      | none => .done stFailed (resB 0 7) a
      | some old =>
        if old.div ≠ img.div
            ∨ imagesFit a.cfg.cycleLen (procImages a (procOf a img.task) (tset a.lgc.staged2 img.task img)) = false then
          .done stFailed (resB 0 7) a
        else if (taskWrites img.task img).any (writeClash (switchCfg (tset a.lgc.staged2 img.task img) a.cfg)) then failRes stFailed a
        else okRes { a with lgc := { a.lgc with staged2 := tset a.lgc.staged2 img.task img } } := by
  have hsw : ¬ a.lgc.switchAt.isSome = true := by simpa using hs
  have hrange : ¬ (image.addr % 64 ≠ 0 ∨ 255 < keySlot ∨ 0 ≠ 0 ∨ 0 ≠ 0) := by omega
  cases ht : taskImg a img.task <;>
    simp only [lgcOnlineLoadPacket, if_neg hsw, if_neg hrange, if_neg (not_not_intro hr), ht]

/-- Settles O14: each action by its packet's checks in their order. -/
theorem logicActionsAct : Obligations.LogicActionsAct := by
  unfold Obligations.LogicActionsAct
  refine ⟨?mode, ?modeAll, ?modeFails, ?step, ?stepBusy, ?stepFails, ?value, ?valueFails, ?load, ?loadNone, ?loadRange, ?loadBusy,
    ?switch, ?switchCancel, ?switchBusy, ?restart, ?restartFails, ?coef, ?coefFails⟩
  case mode =>
    refine fun h task mode => does_eff rfl fun j a hc => ?_
    simp only [Bool.and_eq_true, decide_eq_true_eq] at hc
    obtain ⟨⟨hm, ht⟩, hd⟩ := hc
    simp only [lgcModePacket, if_neg (Nat.not_lt.mpr hm), if_neg ht, bookMode, hd, if_true]
    rfl
  case modeAll =>
    refine fun h mode => does_eff rfl fun j a hc => ?_
    simp only [lgcModePacket, if_neg (Nat.not_lt.mpr (of_decide_eq_true hc)), if_true]
    rfl
  case modeFails =>
    refine fun h task mode => fails_eff rfl fun j a hc => ?_
    simp only [Bool.or_eq_true, decide_eq_true_eq, Bool.and_eq_true, bne_iff_ne, Bool.not_eq_true'] at hc
    by_cases hm : 2 < mode
    · exact if_pos hm
    · obtain ⟨ht, hd⟩ := hc.resolve_left hm
      simp only [lgcModePacket, if_neg hm, if_neg ht, bookMode, hd, Bool.false_eq_true, if_false]
  case step =>
    refine fun h task => does_eff rfl fun j a hc => ?_
    simp only [Bool.and_eq_true, decide_eq_true_eq, Bool.not_eq_true'] at hc
    obtain ⟨⟨hb, hd⟩, ho, hm⟩ := hc
    exact (if_neg (ne_true_of_eq_false hb)).trans (if_neg (by simp [hd, ho, hm]))
  case stepBusy => exact fun _ _ => fails_eff rfl fun _ _ hc => if_pos hc
  case stepFails =>
    refine fun h task => fails_eff rfl fun j a hc => ?_
    simp only [Bool.and_eq_true, Bool.not_eq_true', Bool.and_eq_false_iff, decide_eq_false_iff_not, Decidable.not_and_iff_not_or_not] at hc
    exact (if_neg (ne_true_of_eq_false hc.1)).trans (if_pos hc.2)
  case value =>
    refine fun h p g => does_eff rfl fun j a hc => ?_
    simp only [Bool.and_eq_true, beq_iff_eq] at hc
    simp only [lgcValueWritePacket, hc.1, hc.2, if_true]
    rfl
  case valueFails =>
    refine fun h p => fails_eff rfl fun j a hc => ?_
    simp only [lgcValueWritePacket]
    split at hc
    case h_1 g hg => simp only [hg]; exact if_neg (by simpa using hc)
    case h_2 hg => simp only [hg]; rfl
  case load =>
    refine fun h image keySlot img old => does_eff rfl fun j a hc => ?_
    simp only [Bool.and_eq_true, decide_eq_true_eq, beq_iff_eq, Bool.not_eq_true'] at hc
    obtain ⟨⟨⟨⟨⟨⟨hs, hk⟩, hr⟩, ht⟩, hd⟩, hfit⟩, hw⟩ := hc
    rw [lgcOnlineLoadPacket_eff_of_inRange hs hk hr]
    simp only [ht]
    rw [if_neg (by simp [hd, hfit]), if_neg (ne_true_of_eq_false hw)]
    rfl
  case loadNone =>
    refine fun h image keySlot img => fails_eff rfl fun j a hc => ?_
    simp only [Bool.and_eq_true, decide_eq_true_eq, beq_iff_eq, Option.isNone_iff_eq_none (o := taskImg _ _)] at hc
    obtain ⟨⟨⟨hs, hk⟩, hr⟩, ht⟩ := hc
    rw [lgcOnlineLoadPacket_eff_of_inRange hs hk hr]
    simp only [ht]
  case loadRange =>
    refine fun h image p img => fails_eff rfl fun j a hc => ?_
    simp only [Bool.and_eq_true, decide_eq_true_eq] at hc
    exact (if_neg (by simpa using hc.1)).trans (if_pos hc.2)
  case loadBusy => exact fun _ _ _ _ => fails_eff rfl fun _ _ hc => if_pos hc
  case switch =>
    refine fun h => does_eff rfl fun j a hc => ?_
    simp only [Bool.and_eq_true, Bool.not_eq_true'] at hc
    obtain ⟨⟨⟨hs, he⟩, hl⟩, hb⟩ := hc
    simp only [lgcOnlineSwitchPacket]
    rw [if_neg (by simpa using hs), if_neg (by omega), if_neg (by omega), if_neg (by simp [he, hl, hb])]
  case switchCancel =>
    refine fun h => does_eff rfl fun j a hc => ?_
    exact (if_neg (by simpa using hc)).trans ((if_neg (by omega)).trans (if_pos rfl))
  case switchBusy => exact fun _ _ => fails_eff rfl fun _ _ hc => if_pos hc
  case restart =>
    refine fun h task kind => does_eff rfl fun j a hc => ?_
    simp only [Bool.and_eq_true, decide_eq_true_eq] at hc
    exact if_neg (by simp [hc.1, hc.2])
  case restartFails => exact fun _ _ _ => fails_eff rfl fun _ _ hc => if_pos (by simpa using hc)
  case coef =>
    refine fun h index value => does_eff rfl fun j a hc => ?_
    simp only [Bool.and_eq_true, decide_eq_true_eq] at hc
    obtain ⟨⟨hi, hok⟩, hl⟩ := hc
    exact if_neg (by simp [hi, hok, Option.isSome_iff_ne_none.mp hl])
  case coefFails => exact fun _ _ _ => fails_eff rfl fun _ _ hc => if_pos (by simpa [or_assoc] using hc)

/-- Settles O16: EVR_CLEAR judges UPTO against the records that exist, and EVR_MARK needs room for its record. -/
theorem eventActionsAct : Obligations.EventActionsAct := by
  unfold Obligations.EventActionsAct
  refine ⟨?clear, ?clearNothing, ?clearFails, ?mark, ?markFull⟩
  case clear =>
    refine fun h upto => does_eff rfl fun j a hc => ?_
    rw [decide_eq_true_eq] at hc
    exact (if_neg (by omega)).trans (if_neg (by omega))
  case clearNothing =>
    refine fun h upto => does_eff rfl fun j a hc => ?_
    rw [decide_eq_true_eq] at hc
    exact (if_neg (by omega)).trans (if_pos hc.1)
  case clearFails => exact fun _ _ => fails_eff rfl fun _ _ hc => if_pos (of_decide_eq_true hc)
  case mark => exact fun _ _ _ _ => does_eff rfl fun _ _ hc => if_neg (by simpa using hc)
  case markFull => exact fun _ _ _ _ => fails_full_eff 0x0D41 rfl fun _ _ hc => if_pos hc

end Sys2Proof.Machine
end TaskActions

/-! Family other: the ACTION-kind commands of the pair, the functions, the keys, the backup domain and power. -/
section KeyActions
-- One proof after another: the stacks of proofs elaborated side by side exceed the memory of the check.
set_option Elab.async false
namespace Sys2Proof.Machine

open Safety

/-! ### The pair and the functions (14, 15) -/

/-- What follows the effect of an accepted packet: the completion, or the wait (02 R82, R83, R90). -/
def answered (p : Packet) (s : State) : OpRes → State
  | .done st res t => finished p st res s (if st < 0x10 || p.failActs then t else countStageRefusal p st (afterAccept p s))
  | .wait t => waiting p s t

/-- Serving a packet that has been taken and is accepted. -/
theorem serve_taken {p : Packet} {s : State} (h : acceptCheck p (taken p.h s) = none) :
    serve p (taken p.h s) = answered p s (runEff p (jseqOf p s) (afterAccept p s)) := by
  have hj : (taken p.h s).cmd.jnlNext = s.cmd.jnlNext := by
    unfold taken; split <;> rfl
  cases hjl : journalled p.opcode p.h <;>
    simp only [serve, h, hjl, hj, jseqOf, afterAccept, if_true, Bool.false_eq_true, if_false] <;>
    split <;> simp only [answered, finished, waiting, jseqOf, afterAccept, if_true, Bool.false_eq_true, if_false, *]

/-- VF_RESUME serves what waits after its own packet has been served (15 R468). -/
theorem exec_vfResume_done {h : Hdr} {vf : Nat} {s t : State} {st : Nat} {res : Result}
    (hg : goes (vfResumePacket h vf) s = true)
    (he : runEff (vfResumePacket h vf) (jseqOf (vfResumePacket h vf) s) (afterAccept (vfResumePacket h vf) s) = .done st res t)
    (hst : st < 0x10) : exec (.vfResume h vf) s = .next (serveHeld (finished (vfResumePacket h vf) st res s t)) := by
  simp only [goes, Bool.and_eq_true, Option.isNone_iff_eq_none] at hg
  have hserve := serve_taken hg.2
  rw [he] at hserve
  simp only [answered, hst, decide_true, Bool.true_or, if_true] at hserve
  rw [← hserve, ← submit_servable hg.1]
  rfl

/-- Settles O15: the commands on a VF are guarded by it; VF_RESUME serves what its VF kept. -/
theorem functionActionsAct : Obligations.FunctionActionsAct := by
  unfold Obligations.FunctionActionsAct
  refine ⟨?relinquish, ?relinquishBusy, ?relinquishFails, ?rekey, ?rekeyFails, ?quiesce, ?quiesced, ?quiescing, ?quiesceFails,
    ?resume, ?share, ?shareFails, ?custody, ?custodyFails, ?tolPf, ?tolVf, ?tolRange, ?quiesceBusy, ?shareBusy, ?custodyBusy⟩
  case relinquish =>
    refine fun h => waits_of_eff rfl rfl fun j a hc => ?_
    simp only [Bool.and_eq_true, decide_eq_true_eq, beq_iff_eq] at hc
    obtain ⟨⟨hn, hs⟩, hp⟩ := hc
    exact (if_neg (by simpa using hn)).trans (if_neg (by simp [hs, hp]))
  case relinquishBusy => exact fun _ => fails_eff rfl fun _ _ hc => if_pos hc
  case relinquishFails =>
    refine fun h => fails_eff rfl fun j a hc => ?_
    simp only [Bool.and_eq_true, Bool.or_eq_true, decide_eq_true_eq, bne_iff_ne] at hc
    exact (if_neg (by simpa using hc.1)).trans (if_pos hc.2)
  case rekey =>
    refine fun h slot atCycle => does_eff rfl fun j a hc => ?_
    simp only [Bool.and_eq_true, decide_eq_true_eq] at hc
    obtain ⟨⟨hs, hl, hcyc⟩, hp⟩ := hc
    have hpn : ¬ (slotSt a slot).pending.isNone = true := by simpa using Option.isSome_iff_ne_none.mp hp
    refine if_neg ?_
    rintro (hbad | hbad | hbad | hbad)
    · omega
    · exact hbad hl
    · exact hpn hbad
    · omega
  case rekeyFails =>
    refine fun h slot atCycle => fails_eff rfl fun j a hc => if_pos ?_
    simp only [Bool.or_eq_true, decide_eq_true_eq] at hc
    exact hc.elim (·.imp_right (·.imp_right .inr)) fun hp => .inr (.inr (.inl hp))
  case quiesce =>
    refine fun h vf => waits_of_eff rfl rfl fun j a hc => ?_
    simp only [Bool.and_eq_true, decide_eq_true_eq] at hc
    obtain ⟨he, ho, ha⟩ := hc
    simp only [vfQuiescePacket]
    rw [vfGuard_of_ready he (by simp [ha]), if_neg (not_not_intro ho)]
    simp only [ha]
  case quiesced =>
    refine fun h vf => does_eff rfl fun j a hc => ?_
    simp only [Bool.and_eq_true, decide_eq_true_eq] at hc
    obtain ⟨he, ho, ha⟩ := hc
    simp only [vfQuiescePacket]
    rw [vfGuard_of_ready he (by simp [ha]), if_neg (not_not_intro ho)]
    simp only [ha]
    rfl
  case quiescing =>
    refine fun h vf => fails_eff rfl fun j a hc => ?_
    simp only [Bool.and_eq_true, decide_eq_true_eq] at hc
    obtain ⟨he, ho, ha⟩ := hc
    simp only [vfQuiescePacket]
    rw [vfGuard_of_ready he (by simp [ha]), if_neg (not_not_intro ho)]
    simp only [ha]
    rfl
  case quiesceFails =>
    refine fun h vf => fails_eff rfl fun j a hc => ?_
    simp only [vfQuiescePacket]
    cases hex : vfExists a vf with
    | false => exact vfGuard_of_not_exists hex
    | true =>
      simp only [hex, Bool.not_true, Bool.false_or, decide_eq_true_eq] at hc
      rw [vfGuard_of_ready hex hc.2, if_pos hc.1]; rfl
  case resume =>
    intro h vf p s hp hr hex ho ha
    cases hp
    refine exec_vfResume_done (goes_of_runs hr) ?_ (by decide)
    rw [runEff_of_runs hr]
    simp only [vfResumePacket]
    rw [vfGuard_of_ready (by rw [vfExists_afterAccept, hex]) (by rw [vfSt_afterAccept, ha]; simp), vfSt_afterAccept, if_pos ⟨ho, ha⟩]
    rfl
  case share =>
    refine fun h vf res grant => does_eff rfl fun j a hc => ?_
    simp only [Bool.and_eq_true, decide_eq_true_eq] at hc
    obtain ⟨⟨he, ha, hr, hg⟩, hcap, hfit⟩ := hc
    simp only [vfShareSetPacket]
    rw [vfGuard_of_ready he ha, if_neg (by omega)]
    exact if_neg (by omega)
  case shareFails =>
    refine fun h vf res grant => fails_eff rfl fun j a hc => ?_
    simp only [vfShareSetPacket]
    cases hex : vfExists a vf with
    | false => exact vfGuard_of_not_exists hex
    | true =>
      simp only [hex, Bool.not_true, Bool.false_or, Bool.and_eq_true, decide_eq_true_eq] at hc
      rw [vfGuard_of_ready hex hc.1, if_pos hc.2]; rfl
  case custody =>
    refine fun h vf => does_eff rfl fun j a hc => ?_
    simp only [Bool.and_eq_true, decide_eq_true_eq] at hc
    obtain ⟨he, ho, ha⟩ := hc
    simp only [vfCustodyReturnPacket]
    rw [vfGuard_of_ready he (by simp [ha])]
    exact if_neg (by simp [ho, ha])
  case custodyFails =>
    refine fun h vf => fails_eff rfl fun j a hc => ?_
    simp only [vfCustodyReturnPacket]
    cases hex : vfExists a vf with
    | false => exact vfGuard_of_not_exists hex
    | true =>
      simp only [hex, Bool.not_true, Bool.false_or, decide_eq_true_eq] at hc
      rw [vfGuard_of_ready hex hc.1, if_pos hc.2]; rfl
  case tolPf =>
    refine fun h tol => does_eff rfl fun j a hc => ?_
    rw [decide_eq_true_eq] at hc
    exact if_neg (by omega)
  case tolVf =>
    refine fun h v tol => does_eff rfl fun j a hc => ?_
    simp only [Bool.and_eq_true, decide_eq_true_eq] at hc
    obtain ⟨he, ha, hr⟩ := hc
    simp only [vfLatencySetPacket]
    rw [vfGuard_of_ready he ha]
    exact if_neg (by omega)
  case tolRange => exact fun _ _ => fails_eff rfl fun _ _ hc => if_pos (of_decide_eq_true hc)
  case quiesceBusy =>
    refine fun h vf => fails_eff rfl fun j a hc => ?_
    simp only [Bool.and_eq_true, decide_eq_true_eq] at hc
    simp only [vfQuiescePacket]
    exact vfGuard_of_resetting hc.1 hc.2
  case shareBusy =>
    refine fun h vf res grant => fails_eff rfl fun j a hc => ?_
    simp only [Bool.and_eq_true, decide_eq_true_eq] at hc
    simp only [vfShareSetPacket]
    exact vfGuard_of_resetting hc.1 hc.2
  case custodyBusy =>
    refine fun h vf => fails_eff rfl fun j a hc => ?_
    simp only [Bool.and_eq_true, decide_eq_true_eq] at hc
    simp only [vfCustodyReturnPacket]
    exact vfGuard_of_resetting hc.1 hc.2

/-! ### Keys (17) -/

/-- A command on a slot without a booked commit goes on (17 R516). -/
theorem slotFree_of_free {slot : Nat} {f : State → OpRes} {s : State} (h : slot ≤ 255) (hb : (slotSt s slot).booked.isNone = true) :
    slotFree slot f s = f s := by
  simp only [slotFree, if_neg (Nat.not_lt.mpr h), Option.isNone_iff_eq_none.mp hb]; rfl

/-- Nothing meets the operation (17 R528, R531). -/
theorem keyRun_of_calm {slot : Nat} {run : KeyRun} {f : State → OpRes} {s : State} (h : calm run = true) :
    keyRun slot run f s = f s := by
  simp only [calm, Bool.and_eq_true, Bool.not_eq_true', Option.isNone_iff_eq_none] at h
  simp only [keyRun, h.1, h.2, Bool.false_eq_true, if_false]

/-- A tamper source that trips meanwhile aborts the operation (17 R528). -/
theorem keyRun_of_trip {slot c : Nat} {run : KeyRun} {f : State → OpRes} {s : State} (h : run.trip = some c)
    (hs : sourceArmed c s = true) : keyRun slot run f s = .done stTamper 0 (tripRunning c (bump .keyTamperAbort s)) := by
  simp only [keyRun, h, hs, if_true]

/-- A parity error in a share of the key zeroises its slot (17 R531). -/
theorem keyRun_of_parity {slot : Nat} {run : KeyRun} {f : State → OpRes} {s : State} (ht : run.trip = none) (hp : run.parity = true) :
    keyRun slot run f s = .done stFailed 0 (correctParity 0 (.keyShare slot) s) := by
  simp only [keyRun, ht, hp, if_true]

/-- A command whose failure itself acts or is recorded does what its packet's effect answers, whatever the status (02 R83). -/
theorem does_acting {i : Instr} {p : Packet} {c : State → Bool} {st : Nat} {res : State → Result} {f : Nat → State → State}
    (hp : packetOf i = some p) (he : ∀ j a, c a = true → p.eff j a = .done st (res a) (f j a))
    (hi : isResume i = false := by rfl) (hf : p.failActs = true := by rfl) : Does i c st res f :=
  does_of_eff hp hi (.inr hf) he

/-- Who signs an attestation: the identity key, or the CURRENT key of a slot (17 R520). -/
theorem keyAttestPacket_eff {h : Hdr} {slot signer : Nat} {p : AttestParams} (buf : Nat) (hcalm : calm p.run = true) (j : Nat) (a : State) :
    (keyAttestPacket h slot signer p buf).eff j a =
      match (slotSt a slot).current, if signer = 0xFFFF then some identityKey else (engineKey a signer 4 [2]).map Key.material with
      | some k, some sk =>
        if 255 < slot then failRes stFailed a
        else okRes (keyDone (hostWrite h.func buf
          (statementBytes a slot k p.challenge ++ fixLen 96 (Config.sign sk (statementBytes a slot k p.challenge))) a))
      | _, _ => failRes stFailed a := by
  simp only [keyAttestPacket]
  refine (keyRun_of_calm hcalm).trans ?_
  rfl

/-- Settles O17: the slot is free and nothing meets the operation, so the operation itself decides. -/
theorem keyActionsAct : Obligations.KeyActionsAct := by
  unfold Obligations.KeyActionsAct
  refine ⟨?importOk, ?importFault, ?loadOk, ?loadFault, ?generate, ?verify, ?verifyFails, ?commit, ?commitBooked, ?commitFails,
    ?discard, ?discardAll, ?discardNamed, ?attest, ?attestBy, ?attestNone, ?attestNoSigner, ?fw, ?fwBusy, ?fwRange, ?activate,
    ?activateBusy, ?rollback, ?rollbackFails, ?clear, ?clearFails, ?recovery, ?clearVendor, ?loadTrip, ?importTrip, ?generateTrip,
    ?verifyTrip, ?attestTrip, ?verifyParity⟩
  case importOk =>
    refine fun h slot buf b hcalm => does_acting rfl fun j a hc => ?_
    simp only [Bool.and_eq_true, decide_eq_true_eq, Option.isNone_iff_eq_none (o := headFault _ _ _ _)] at hc
    obtain ⟨⟨hs, hb⟩, hh⟩ := hc
    simp only [keyImportPacket]
    rw [slotFree_of_free hs hb, keyRun_of_calm hcalm, hh]
  case importFault =>
    refine fun h slot buf b r hcalm => does_acting rfl fun j a hc => ?_
    simp only [Bool.and_eq_true, decide_eq_true_eq, beq_iff_eq] at hc
    obtain ⟨⟨hs, hb⟩, hh⟩ := hc
    simp only [keyImportPacket]
    rw [slotFree_of_free hs hb, keyRun_of_calm hcalm, hh]
    rfl
  case loadOk =>
    refine fun h slot b hcalm => does_acting rfl fun j a hc => ?_
    simp only [Bool.and_eq_true, decide_eq_true_eq, Option.isNone_iff_eq_none (o := blobFault _ _ _)] at hc
    obtain ⟨⟨hs, hb⟩, hh⟩ := hc
    simp only [keyLoadPacket]
    rw [slotFree_of_free hs hb, keyRun_of_calm hcalm, hh]
  case loadFault =>
    refine fun h slot b r hcalm => does_acting rfl fun j a hc => ?_
    simp only [Bool.and_eq_true, decide_eq_true_eq, beq_iff_eq] at hc
    obtain ⟨⟨hs, hb⟩, hh⟩ := hc
    simp only [keyLoadPacket]
    rw [slotFree_of_free hs hb, keyRun_of_calm hcalm, hh]
    rfl
  case generate =>
    refine fun h p hcalm => does_acting rfl fun j a hc => ?_
    simp only [Bool.and_eq_true, decide_eq_true_eq, Option.isNone_iff_eq_none (o := Machine.loadFault _ _ _ _ _ _ _)] at hc
    obtain ⟨⟨⟨hs, ht⟩, hb⟩, hh⟩ := hc
    simp only [keyGeneratePacket]
    rw [slotFree_of_free hs hb, keyRun_of_calm hcalm, if_neg (by omega), hh]
  case verify =>
    refine fun h slot mode kcv run k hcalm => does_acting rfl fun j a hc => ?_
    simp only [Bool.and_eq_true, decide_eq_true_eq, beq_iff_eq] at hc
    obtain ⟨⟨⟨hs, hb⟩, hk⟩, hpass⟩ := hc
    simp only [keyVerifyPacket]
    rw [slotFree_of_free hs hb, keyRun_of_calm hcalm, hk]
    exact if_pos hpass
  case verifyFails =>
    refine fun h slot mode kcv run hcalm => does_acting rfl fun j a hc => ?_
    simp only [Bool.and_eq_true, decide_eq_true_eq] at hc
    obtain ⟨⟨hs, hb⟩, hk⟩ := hc
    simp only [keyVerifyPacket]
    rw [slotFree_of_free hs hb, keyRun_of_calm hcalm]
    split at hk
    case h_1 k hget => rw [hget]; exact if_neg (by simpa using hk)
    case h_2 hget => rw [hget]; rfl
  case commit =>
    refine fun h slot => does_eff rfl fun j a hc => ?_
    simp only [Bool.and_eq_true, decide_eq_true_eq] at hc
    obtain ⟨⟨hs, hb⟩, hk⟩ := hc
    simp only [keyCommitPacket]
    rw [slotFree_of_free hs hb, hk]
    rfl
  case commitBooked =>
    refine fun h slot atCycle => waits_of_eff rfl rfl fun j a hc => ?_
    simp only [Bool.and_eq_true, decide_eq_true_eq] at hc
    obtain ⟨⟨⟨hs, h0, hcyc⟩, hb⟩, hk⟩ := hc
    simp only [keyCommitPacket]
    rw [slotFree_of_free hs hb, hk]
    exact (if_neg (by decide)).trans ((if_neg h0).trans (if_neg (by omega)))
  case commitFails =>
    refine fun h slot atCycle => fails_eff rfl fun j a hc => ?_
    simp only [Bool.and_eq_true, decide_eq_true_eq, Bool.or_eq_true] at hc
    obtain ⟨⟨hs, hb⟩, hk⟩ := hc
    simp only [keyCommitPacket]
    rw [slotFree_of_free hs hb]
    by_cases hcom : (!committable a slot) = true
    · exact if_pos hcom
    · obtain ⟨h0, hcyc⟩ := hk.resolve_left hcom
      exact (if_neg hcom).trans ((if_neg h0).trans (if_pos hcyc))
  case discard =>
    refine fun h slot => does_eff rfl fun j a hc => ?_
    simp only [Bool.and_eq_true, decide_eq_true_eq] at hc
    simp only [keyDiscardPacket]
    rw [slotFree_of_free hc.1 hc.2]
    rfl
  case discardAll =>
    refine fun h slot => does_eff rfl fun j a hc => ?_
    simp only [Bool.and_eq_true, decide_eq_true_eq, Bool.not_eq_true'] at hc
    obtain ⟨⟨hs, hb⟩, hn⟩ := hc
    simp only [keyDiscardPacket]
    rw [slotFree_of_free hs hb]
    exact if_neg (ne_true_of_eq_false hn)
  case discardNamed =>
    refine fun h slot => fails_eff rfl fun j a hc => ?_
    simp only [Bool.and_eq_true, decide_eq_true_eq] at hc
    obtain ⟨⟨hs, hb⟩, hn⟩ := hc
    simp only [keyDiscardPacket]
    rw [slotFree_of_free hs hb]
    exact if_pos hn
  case attest =>
    refine fun h slot p buf k hcalm => does_acting rfl fun j a hc => ?_
    simp only [Bool.and_eq_true, decide_eq_true_eq, beq_iff_eq] at hc
    rw [keyAttestPacket_eff buf hcalm, hc.2]
    exact if_neg (by omega)
  case attestBy =>
    refine fun h slot signer p buf k sk hcalm => does_acting rfl fun j a hc => ?_
    simp only [Bool.and_eq_true, decide_eq_true_eq, beq_iff_eq] at hc
    obtain ⟨⟨⟨hs, hne⟩, hk⟩, hsk⟩ := hc
    rw [keyAttestPacket_eff buf hcalm, hk, if_neg hne, hsk]
    exact if_neg (by omega)
  case attestNone =>
    refine fun h slot signer p buf hcalm => does_acting rfl fun j a hc => ?_
    simp only [Bool.or_eq_true, decide_eq_true_eq, Option.isNone_iff_eq_none] at hc
    rw [keyAttestPacket_eff buf hcalm]
    split
    case h_1 hk _ => exact if_pos (hc.resolve_right (by rw [hk]; simp))
    case h_2 => rfl
  case attestNoSigner =>
    refine fun h slot signer p buf hcalm => does_acting rfl fun j a hc => ?_
    simp only [Bool.and_eq_true, decide_eq_true_eq, Option.isNone_iff_eq_none] at hc
    rw [keyAttestPacket_eff buf hcalm, if_neg hc.1, hc.2]
    cases (slotSt a slot).current <;> rfl
  case fw =>
    refine fun h offset data => does_eff rfl fun j a hc => ?_
    simp only [Bool.and_eq_true, decide_eq_true_eq] at hc
    exact (if_neg (by simpa using hc.1)).trans (if_neg (by omega))
  case fwBusy => exact fun _ _ _ => fails_eff rfl fun _ _ hc => if_pos hc
  case fwRange =>
    refine fun h offset data => fails_eff rfl fun j a hc => ?_
    simp only [Bool.and_eq_true, decide_eq_true_eq] at hc
    exact (if_neg (by simpa using hc.1)).trans (if_pos hc.2)
  case activate => exact fun _ => waits_of_eff rfl rfl fun _ _ hc => if_neg (by simpa using hc)
  case activateBusy => exact fun _ => fails_eff rfl fun _ _ hc => if_pos hc
  case rollback =>
    refine fun h level => waits_of_eff rfl rfl fun j a hc => ?_
    simp only [Bool.and_eq_true, decide_eq_true_eq, Option.isNone_iff_eq_none] at hc
    simp only [keyRollbackAdvancePacket, blowEnd, hc.1]
    exact if_neg (by omega)
  case rollbackFails =>
    refine fun h level => fails_eff rfl fun j a hc => ?_
    simp only [Bool.and_eq_true, decide_eq_true_eq, Option.isNone_iff_eq_none] at hc
    simp only [keyRollbackAdvancePacket, blowEnd, hc.1]
    exact if_pos hc.2
  case clear =>
    refine fun h sign point => does_eff rfl fun j a hc => ?_
    simp only [Bool.and_eq_true, beq_iff_eq] at hc
    exact if_neg (by simp [clearSigned, hc.1, hc.2])
  case clearFails => exact fun _ _ _ => fails_eff rfl fun _ _ hc => if_pos hc
  case recovery => exact fun _ _ => does_eff rfl fun _ _ _ => rfl
  case clearVendor =>
    refine fun h sign => does_eff rfl fun j a hc => if_neg ?_
    simp only [clearSigned, hc]; decide
  case loadTrip =>
    refine fun h slot b c ht => does_acting rfl fun j a hc => ?_
    simp only [Bool.and_eq_true, decide_eq_true_eq] at hc
    obtain ⟨⟨hs, hb⟩, harm⟩ := hc
    exact (slotFree_of_free hs hb).trans (keyRun_of_trip ht harm)
  case importTrip =>
    refine fun h slot buf b c ht => does_acting rfl fun j a hc => ?_
    simp only [Bool.and_eq_true, decide_eq_true_eq] at hc
    obtain ⟨⟨hs, hb⟩, harm⟩ := hc
    exact (slotFree_of_free hs hb).trans (keyRun_of_trip ht harm)
  case generateTrip =>
    refine fun h p c ht => does_acting rfl fun j a hc => ?_
    simp only [Bool.and_eq_true, decide_eq_true_eq] at hc
    obtain ⟨⟨hs, hb⟩, harm⟩ := hc
    exact (slotFree_of_free hs hb).trans (keyRun_of_trip ht harm)
  case verifyTrip =>
    refine fun h slot mode kcv run c ht => does_acting rfl fun j a hc => ?_
    simp only [Bool.and_eq_true, decide_eq_true_eq] at hc
    obtain ⟨⟨hs, hb⟩, harm⟩ := hc
    exact (slotFree_of_free hs hb).trans (keyRun_of_trip ht harm)
  case attestTrip =>
    refine fun h slot signer p buf c ht => does_acting rfl fun j a hc => ?_
    simp only [keyAttestPacket]
    exact keyRun_of_trip ht hc
  case verifyParity =>
    refine fun h slot mode kcv run ht hp => does_acting rfl fun j a hc => ?_
    simp only [Bool.and_eq_true, decide_eq_true_eq] at hc
    exact (slotFree_of_free hc.1 hc.2).trans (keyRun_of_parity ht hp)

/-! ### The backup domain and power (18, 19) -/

/-- Settles O18: each action by its packet's checks in their order. -/
theorem backupActionsAct : Obligations.BackupActionsAct := by
  unfold Obligations.BackupActionsAct
  refine ⟨?halt, ?halted, ?write, ?writeFails, ?release, ?releaseBad, ?releaseNot, ?alarmOff, ?alarm, ?alarmDate, ?alarmPast,
    ?alarmSubsec, ?req, ?reqRange, ?restart, ?restartFails, ?restore, ?restored⟩
  case halt => exact fun _ => does_eff rfl fun _ _ hc => if_neg (by simpa using hc)
  case halted => exact fun _ => does_eff rfl fun _ _ hc => if_pos hc
  case write => exact fun _ _ => does_eff rfl fun _ _ hc => if_pos (by simpa using hc)
  case writeFails => exact fun _ _ => fails_eff rfl fun _ _ hc => if_neg fun hall => by simp [hall.1] at hc
  case release =>
    refine fun h => does_eff rfl fun j a hc => ?_
    simp only [Bool.and_eq_true] at hc
    exact (if_neg (by simp [hc.1])).trans (if_pos hc.2)
  case releaseBad =>
    refine fun h => does_acting rfl fun j a hc => ?_
    simp only [Bool.and_eq_true, Bool.not_eq_true'] at hc
    exact (if_neg (by simp [hc.1])).trans (if_neg (ne_true_of_eq_false hc.2))
  case releaseNot => exact fun _ => does_eff rfl fun _ _ hc => if_pos hc
  case alarmOff => exact fun _ _ => does_eff rfl fun _ _ hc => if_neg (not_not_intro (of_decide_eq_true hc))
  case alarm =>
    refine fun h c => does_eff rfl fun j a hc => ?_
    simp only [Bool.and_eq_true, decide_eq_true_eq] at hc
    obtain ⟨⟨h0, hd⟩, hlt⟩ := hc
    exact (if_neg (not_not_intro h0)).trans ((if_neg (by simp [hd])).trans (if_neg (by omega)))
  case alarmDate =>
    refine fun h c => fails_eff rfl fun j a hc => ?_
    simp only [Bool.and_eq_true, decide_eq_true_eq] at hc
    exact (if_neg (not_not_intro hc.1)).trans (if_pos hc.2)
  case alarmPast =>
    refine fun h c => fails_eff rfl fun j a hc => ?_
    simp only [Bool.and_eq_true, decide_eq_true_eq] at hc
    obtain ⟨⟨h0, hd⟩, hle⟩ := hc
    exact (if_neg (not_not_intro h0)).trans ((if_neg (by simp [hd])).trans (if_pos hle))
  case alarmSubsec => exact fun _ _ _ => fails_eff rfl fun _ _ hc => if_pos (of_decide_eq_true hc)
  case req => exact fun _ _ => does_eff rfl fun _ _ hc => if_neg (Nat.not_lt.mpr (of_decide_eq_true hc))
  case reqRange => exact fun _ _ => fails_eff rfl fun _ _ hc => if_pos (of_decide_eq_true hc)
  case restart => exact fun _ => does_eff rfl fun _ _ _ => rfl
  case restartFails => exact fun _ _ => fails_eff rfl fun _ _ hc => if_pos (of_decide_eq_true hc)
  case restore => exact fun _ => does_eff rfl fun j a hc => congrArg okRes (if_neg (by simpa using hc))
  case restored => exact fun _ => does_eff rfl fun j a hc => congrArg okRes (if_pos hc)

end Sys2Proof.Machine
end KeyActions

/-! Family other: completions, the journal, and what refused and failed commands leave unchanged (02). -/
section Completions
-- One proof after another: the stacks of proofs elaborated side by side exceed the memory of the check.
set_option Elab.async false
namespace Sys2Proof.Machine

open Safety

/-! ### Posting (02 R64 to R67, R70) -/

/-- The place of a completion in the ring of its pair: the tail, PHASE and what is unsignalled move (02 R66, R70). -/
def postedQp (s : State) (q : Qp) : Qp :=
  { q with cqTail := (q.cqTail + 1) % 2 ^ q.cqLog2,
           phase := if (q.cqTail + 1) % 2 ^ q.cqLog2 = 0 then !q.phase else q.phase,
           unsignalled := if q.coalCount ≤ q.unsignalled + 1 then 0 else q.unsignalled + 1,
           firstUnsig := if q.unsignalled = 0 then s.tim.raw else q.firstUnsig }

/-- The completion that is posted (02 Table CMD-14). -/
def completionOf (o : Outst) (q : Qp) (st : Nat) (res : Result) : Completion := ⟨o.func, o.qp, o.tag, st, q.phase, o.opcode, o.jseq, res⟩

/-- A completion of a pair that is there is written at its place, and its vector is raised when it is the last to wait for that. -/
theorem postCompletion_of_some {o : Outst} {st : Nat} {res : Result} {s : State} {q : Qp}
    (hq : tget s.cmd.qps (o.func, o.qp) = some q) :
    postCompletion o st res s = { s with cmd := { s.cmd with
      cpls := s.cmd.cpls ++ [completionOf o q st res]
      qps := tset s.cmd.qps (o.func, o.qp) (postedQp s q)
      msix := if q.coalCount ≤ q.unsignalled + 1 then tmod s.cmd.msix (o.func, q.vector) 0 (· + 1) else s.cmd.msix } } := by
  unfold postCompletion
  simp only [hq, decide_eq_true_eq]
  split <;> simp only [postedQp, completionOf, msixRaise, *, if_true, if_false]

/-- Packets that have not completed stay, and hold no pair but their own (02 R64). -/
theorem postReady_append_waiting {pr : Nat × Nat} {l : List Outst} (hl : ∀ o ∈ l, o.done = none ∧ (o.func, o.qp) ≠ pr)
    (r : List Outst) {b : List (Nat × Nat)} (hb : pr ∉ b) (s : State) :
    ∃ b', pr ∉ b' ∧ postReady (l ++ r) b s = postReady r b' { s with cmd := { s.cmd with outst := s.cmd.outst ++ l } } := by
  induction l generalizing b s with
  | nil => exact ⟨b, hb, by simp⟩
  | cons o l ih =>
    obtain ⟨hdone, hne⟩ := hl o (List.mem_cons_self ..)
    have hl' := fun x hx => hl x (List.mem_cons_of_mem _ hx)
    rw [List.cons_append, postReady]
    by_cases hin : b.contains (o.func, o.qp) = true
    · rw [if_pos hin]
      obtain ⟨b', hb', h⟩ := ih hl' hb { s with cmd := { s.cmd with outst := s.cmd.outst ++ [o] } }
      exact ⟨b', hb', by rw [h]; simp⟩
    · rw [if_neg hin]
      simp only [hdone]
      obtain ⟨b', hb', h⟩ := ih hl' (b := (o.func, o.qp) :: b) (by simp [hb, Ne.symm hne])
        { s with cmd := { s.cmd with outst := s.cmd.outst ++ [o] } }
      exact ⟨b', hb', by rw [h]; simp⟩

/-- A completed packet whose turn has come is posted (02 R64, 15 R461). -/
theorem postReady_cons_posted {o : Outst} {b : List (Nat × Nat)} {st : Nat} {res : Result} {s : State} (hb : (o.func, o.qp) ∉ b)
    (hd : o.done = some (st, res)) (hm : busMasterOn s o.func = true) (r : List Outst) :
    postReady (o :: r) b s = postReady r b (postCompletion o st res s) := by
  rw [postReady, if_neg (by simpa using hb)]
  simp only [hd, hm, if_true]

/-- With no packet of its pair before it, a command's completion is posted at once. -/
theorem pushDone_of_alone {p : Packet} {j st : Nat} {res : Result} {s : State} (hm : busMasterOn s p.h.func = true)
    (hl : ∀ o ∈ s.cmd.outst, o.done = none ∧ (o.func, o.qp) ≠ (p.h.func, p.h.qp)) :
    pushDone p j st res s = postCompletion ⟨p.h.func, p.h.qp, p.h.tag, p.opcode, j, some (st, res)⟩ st res s := by
  unfold pushDone flushOutst
  obtain ⟨b, hb, h⟩ := postReady_append_waiting hl [⟨p.h.func, p.h.qp, p.h.tag, p.opcode, j, some (st, res)⟩] (b := [])
    (List.not_mem_nil) { s with cmd := { s.cmd with outst := [] } }
  rw [h, postReady_cons_posted hb rfl hm]
  simp only [List.nil_append, postReady]

/-- What is counted in a table under a key reads one more there. -/
theorem tgetD_tmod_self {κ : Type} [DecidableEq κ] {α : Type} (t : Tbl κ α) (k : κ) (d : α) (f : α → α) :
    tgetD (tmod t k d f) k d = f (tgetD t k d) := by
  rw [tmod, tgetD_tset_self]

/-- Settles O52: the completion is posted at once (`pushDone_of_alone`), and each field is that of `postCompletion_of_some`. -/
theorem completionIsPosted : Obligations.CompletionIsPosted := by
  intro p j st res s q hq hm hl t
  have ht : t = _ := (pushDone_of_alone hm hl).trans (postCompletion_of_some hq)
  clear_value t
  subst ht
  refine ⟨rfl, rfl, ⟨postedQp s q, tget_tset_self .., rfl, rfl, rfl, rfl, rfl⟩, ?_, fun k hk => tget_tset_ne _ _ hk.symm, ?_, rfl⟩
  · dsimp only
    split
    · exact tgetD_tmod_self ..
    · rfl
  · intro k hk
    dsimp only
    split
    · exact tget_tset_ne _ _ hk.symm
    · rfl

/-- DONE is written in the journal alone (02 R90). -/
theorem jnlDone_jnl (j st : Nat) (s : State) :
    jnlDone j st s = { s with cmd := { s.cmd with jnl := (jnlDone j st s).cmd.jnl } } := by
  unfold jnlDone
  split
  · split <;> rfl
  · rfl

/-- The packets taken, once one of them has completed. -/
def markDone (j st : Nat) (res : Result) (o : Outst) : Outst :=
  if o.jseq == j && o.done.isNone then { o with done := some (st, res) } else o

theorem markDone_same {j st : Nat} {res : Result} {o : Outst} (h : o.jseq = j) (hd : o.done = none) :
    markDone j st res o = { o with done := some (st, res) } := by
  simp [markDone, h, hd]

theorem markDone_other {j st : Nat} {res : Result} {o : Outst} (h : o.jseq ≠ j) : markDone j st res o = o := by
  simp [markDone, h]

/-- The journal has the STATUS of a command, and the packets taken are those of the list. -/
def noted (j st : Nat) (l : List Outst) (s : State) : State :=
  { s with cmd := { s.cmd with jnl := (jnlDone j st s).cmd.jnl, outst := l } }

/-- Completing marks the packet, then posts what can be posted. -/
theorem completeCmd_eq_flush (j st : Nat) (res : Result) (s : State) :
    completeCmd j st res s = flushOutst (noted j st (s.cmd.outst.map (markDone j st res)) s) := by
  unfold completeCmd
  rw [jnlDone_jnl]
  rfl

section
variable {s : State} {a b : Outst}

/-- Behind a packet of its pair that has not completed, a completion waits (02 R64). -/
theorem flushOutst_blocked (h : s.cmd.outst = [a, b]) (ha : a.done = none) (hp : (b.func, b.qp) = (a.func, a.qp)) :
    flushOutst s = s := by
  unfold flushOutst
  simp only [h, postReady, ha, hp, List.contains_nil, List.contains_cons, beq_self_eq_true, Bool.true_or, Bool.false_eq_true, if_false,
    if_true, List.nil_append, List.cons_append]
  rw [← h]

/-- The state without packets that have been taken and not posted. -/
def emptied (s : State) : State := { s with cmd := { s.cmd with outst := [] } }

theorem flushOutst_eq_postReady (s : State) : flushOutst s = postReady s.cmd.outst [] (emptied s) := rfl

/-- A completion before a packet that has not completed is posted, and that packet stays. -/
theorem flushOutst_first {st : Nat} {res : Result} (h : s.cmd.outst = [a, b]) (ha : a.done = some (st, res)) (hb : b.done = none)
    (hm : busMasterOn s a.func = true) :
    flushOutst s = { postCompletion a st res (emptied s) with cmd := { (postCompletion a st res (emptied s)).cmd with
      outst := (postCompletion a st res (emptied s)).cmd.outst ++ [b] } } := by
  rw [flushOutst_eq_postReady, h, postReady_cons_posted (s := emptied s) List.not_mem_nil ha hm]
  simp only [postReady, hb, List.contains_nil, Bool.false_eq_true, if_false]

/-- A completion alone is posted. -/
theorem flushOutst_alone {st : Nat} {res : Result} (h : s.cmd.outst = [a]) (ha : a.done = some (st, res))
    (hm : busMasterOn s a.func = true) : flushOutst s = postCompletion a st res (emptied s) := by
  rw [flushOutst_eq_postReady, h, postReady_cons_posted (s := emptied s) List.not_mem_nil ha hm]
  rfl

/-- Two completions are posted in ring order. -/
theorem flushOutst_both {sa sb : Nat} {ra rb : Result} (h : s.cmd.outst = [a, b]) (ha : a.done = some (sa, ra))
    (hb : b.done = some (sb, rb)) (hma : busMasterOn s a.func = true)
    (hmb : busMasterOn (postCompletion a sa ra (emptied s)) b.func = true) :
    flushOutst s = postCompletion b sb rb (postCompletion a sa ra (emptied s)) := by
  rw [flushOutst_eq_postReady, h, postReady_cons_posted (s := emptied s) List.not_mem_nil ha hma, postReady_cons_posted List.not_mem_nil hb hmb]
  rfl

/-- Posting leaves Bus Master Enable alone. -/
@[simp] theorem busMasterOn_postCompletion (o : Outst) (st : Nat) (res : Result) (f : Nat) :
    busMasterOn (postCompletion o st res s) f = busMasterOn s f := by
  cases hq : tget s.cmd.qps (o.func, o.qp) with
  | none => simp only [postCompletion, hq]
  | some q => rw [postCompletion_of_some hq]; rfl

/-- Posting takes no packet. -/
@[simp] theorem postCompletion_outst (o : Outst) (st : Nat) (res : Result) : (postCompletion o st res s).cmd.outst = s.cmd.outst := by
  cases hq : tget s.cmd.qps (o.func, o.qp) with
  | none => simp only [postCompletion, hq]
  | some q => rw [postCompletion_of_some hq]

/-- The second completion of a pair carries the PHASE that the first has left. -/
theorem postCompletion_two_cpls {sa sb : Nat} {ra rb : Result} {q : Qp} (hq : tget s.cmd.qps (a.func, a.qp) = some q)
    (hp : (b.func, b.qp) = (a.func, a.qp)) {t : State} (hc : t.cmd.cpls = (postCompletion a sa ra s).cmd.cpls)
    (ht : t.cmd.qps = (postCompletion a sa ra s).cmd.qps) :
    (postCompletion b sb rb t).cmd.cpls = s.cmd.cpls ++ [completionOf a q sa ra, completionOf b (postedQp s q) sb rb] := by
  rw [postCompletion_of_some hq] at hc ht
  have hqb : tget t.cmd.qps (b.func, b.qp) = some (postedQp s q) := by rw [ht, hp]; exact tget_tset_self ..
  rw [postCompletion_of_some hqb]
  simp only [hc, List.append_assoc, List.cons_append, List.nil_append]
end

/-- Settles O53: while the first waits the second is kept, and once both have completed they are posted one after the other. -/
theorem completionsKeepRingOrder : Obligations.CompletionsKeepRingOrder := by
  intro s a b q x y sa sb hout ha hb hp hj hq hm
  have hfunc : b.func = a.func := (congrArg Prod.fst hp).symm
  have hb1 : completeCmd b.jseq sb y s = noted b.jseq sb [a, { b with done := some (sb, y) }] s := by
    rw [completeCmd_eq_flush, hout, List.map_cons, List.map_cons, List.map_nil, markDone_other hj, markDone_same rfl hb]
    exact flushOutst_blocked rfl ha hp.symm
  have ha1 : completeCmd a.jseq sa x s = _ := completeCmd_eq_flush ..
  rw [hout, List.map_cons, List.map_cons, List.map_nil, markDone_same rfl ha, markDone_other (Ne.symm hj),
    flushOutst_first (s := noted ..) (a := { a with done := some (sa, x) }) rfl rfl hb hm] at ha1
  refine ⟨by rw [hb1]; rfl, q.phase, (postedQp s q).phase, ?_⟩
  have hba : (completeCmd a.jseq sa x (completeCmd b.jseq sb y s)).cmd.cpls = s.cmd.cpls
      ++ [⟨a.func, a.qp, a.tag, sa, q.phase, a.opcode, a.jseq, x⟩,
          ⟨b.func, b.qp, b.tag, sb, (postedQp s q).phase, b.opcode, b.jseq, y⟩] := by
    have houtst : (noted b.jseq sb [a, { b with done := some (sb, y) }] s).cmd.outst = [a, { b with done := some (sb, y) }] := rfl
    rw [hb1, completeCmd_eq_flush, houtst, List.map_cons, List.map_cons, List.map_nil, markDone_same rfl ha,
      markDone_other (o := { b with done := some (sb, y) }) (Ne.symm hj),
      flushOutst_both (s := noted _ _ _ (noted _ _ _ s)) (a := { a with done := some (sa, x) }) (b := { b with done := some (sb, y) }) rfl rfl rfl hm
        ((busMasterOn_postCompletion ..).trans (hfunc ▸ hm))]
    exact postCompletion_two_cpls (s := emptied (noted _ _ _ (noted _ _ _ s)))
      (a := { a with done := some (sa, x) }) (b := { b with done := some (sb, y) })
      hq hp.symm rfl rfl
  refine ⟨hba, hba.symm ▸ ?_⟩
  have hmb : busMasterOn (completeCmd a.jseq sa x s) b.func = true := by
    rw [ha1, hfunc]; exact (busMasterOn_postCompletion ..).trans hm
  have houtst : (completeCmd a.jseq sa x s).cmd.outst = [b] := by
    rw [ha1]; simp [emptied]
  rw [completeCmd_eq_flush b.jseq, houtst, List.map_cons, List.map_nil, markDone_same rfl hb, 
    flushOutst_alone (s := noted ..) (a := { b with done := some (sb, y) }) rfl rfl hmb]
  exact postCompletion_two_cpls (s := emptied (noted a.jseq sa _ s)) (b := { b with done := some (sb, y) }) hq hp.symm
    (congrArg (·.cmd.cpls) ha1) (congrArg (·.cmd.qps) ha1)

end Sys2Proof.Machine
end Completions

/-! Family other: the journal, and what refused, failing, reading and configuring commands leave unchanged (02 R75, R82, R83, R88). -/
section Frames
-- One proof after another: the stacks of proofs elaborated side by side exceed the memory of the check.
set_option Elab.async false
namespace Sys2Proof.Machine

open Safety

/-! ### What posting and taking leave alone -/

/-- Posting moves what is taken, posted, in the rings and signalled, and nothing else (02 R70). -/
theorem postCompletion_frame (o : Outst) (st : Nat) (res : Result) (s : State) : ∃ c q m,
    postCompletion o st res s = { s with cmd := { s.cmd with cpls := c, qps := q, msix := m } } := by
  cases hq : tget s.cmd.qps (o.func, o.qp) with
  | none => exact ⟨s.cmd.cpls, s.cmd.qps, s.cmd.msix, by simp only [postCompletion, hq]⟩
  | some q => exact ⟨_, _, _, postCompletion_of_some hq⟩

/-- Posting what can be posted is no more. -/
theorem postReady_frame (l : List Outst) (b : List (Nat × Nat)) (s : State) : ∃ o c q m,
    postReady l b s = { s with cmd := { s.cmd with outst := o, cpls := c, qps := q, msix := m } } := by
  induction l generalizing b s with
  | nil => exact ⟨_, _, _, _, rfl⟩
  | cons x l ih =>
    have hkept : ∀ b', ∃ o c q m, postReady l b' { s with cmd := { s.cmd with outst := s.cmd.outst ++ [x] } }
        = { s with cmd := { s.cmd with outst := o, cpls := c, qps := q, msix := m } } := fun b' => by
      obtain ⟨o, c, q, m, h⟩ := ih b' { s with cmd := { s.cmd with outst := s.cmd.outst ++ [x] } }
      exact ⟨o, c, q, m, h⟩
    rw [postReady]
    split
    · exact hkept b
    · split
      case h_1 st res _ =>
        split
        · obtain ⟨c, q, m, hpost⟩ := postCompletion_frame x st res s
          obtain ⟨o, c', q', m', h⟩ := ih b (postCompletion x st res s)
          exact ⟨o, c', q', m', by rw [h, hpost]⟩
        · exact hkept _
      case h_2 => exact hkept _

theorem flushOutst_frame (s : State) : ∃ o c q m,
    flushOutst s = { s with cmd := { s.cmd with outst := o, cpls := c, qps := q, msix := m } } := by
  obtain ⟨o, c, q, m, h⟩ := postReady_frame s.cmd.outst [] (emptied s)
  exact ⟨o, c, q, m, h⟩

theorem pushDone_frame (p : Packet) (j st : Nat) (res : Result) (s : State) : ∃ o c q m,
    pushDone p j st res s = { s with cmd := { s.cmd with outst := o, cpls := c, qps := q, msix := m } } := by
  obtain ⟨o, c, q, m, h⟩ := flushOutst_frame { s with cmd := { s.cmd with outst := s.cmd.outst ++
    [⟨p.h.func, p.h.qp, p.h.tag, p.opcode, j, some (st, res)⟩] } }
  exact ⟨o, c, q, m, h⟩

/-- Taking a packet moves ring positions and the turn (02 R64, R68). -/
theorem taken_frame (h : Hdr) (s : State) : ∃ q r, taken h s = { s with cmd := { s.cmd with qps := q, rrLast := r } } := by
  unfold taken
  split
  · exact ⟨_, _, rfl⟩
  · exact ⟨s.cmd.qps, s.cmd.rrLast, rfl⟩

/-! ### The journal (02 R88 to R90) -/

/-- The entry of a command as its acceptance writes it (02 R89). -/
theorem afterAccept_journal {p : Packet} {s : State} (hj : journalled p.opcode p.h = true) :
    ∃ e : JEntry, (afterAccept p s).cmd.jnl = tset s.cmd.jnl (s.cmd.jnlNext % 131072) e
      ∧ (afterAccept p s).cmd.jnlNext = s.cmd.jnlNext + 1
      ∧ (afterAccept p s).cmd.jnlOldest = max s.cmd.jnlOldest (s.cmd.jnlNext + 1 - 131072)
      ∧ e.seq = s.cmd.jnlNext ∧ e.gen = s.cmd.gen ∧ e.tag = p.h.tag ∧ e.opcode = p.opcode ∧ e.func = p.h.func ∧ e.qp = p.h.qp
      ∧ e.accept = 0xA5 ∧ e.done = 0 := by
  obtain ⟨q, r, ht⟩ := taken_frame p.h s
  rw [afterAccept, if_pos hj, ht]
  exact ⟨_, rfl, rfl, rfl, rfl, rfl, rfl, rfl, rfl, rfl, rfl, rfl⟩

/-- DONE goes to the entry that the sequence names. -/
theorem jnlDone_of_entry {j st : Nat} {s : State} {e : JEntry} (he : tget s.cmd.jnl (j % 131072) = some e) (hs : e.seq = j) :
    tget (jnlDone j st s).cmd.jnl (j % 131072) = some { e with status := st, done := 0x5A } := by
  simp only [jnlDone, jnlSize, he, hs, if_true, tget_tset_self]

/-- Settles O54: the entry is written by the acceptance, completed by `jnlDone`, and nothing after that writes the journal. -/
theorem journalHoldsEachCommand : Obligations.JournalHoldsEachCommand := by
  refine ⟨?accepted, ?completed, ?unjournalled, ?kinds⟩
  case accepted =>
    intro p s hj
    obtain ⟨e, hjnl, hnext, hold, hseq, hgen, htag, hop, hfunc, hqp, hacc, hdone⟩ := afterAccept_journal (s := s) hj
    exact ⟨⟨e, by rw [hjnl, tget_tset_self], hseq, hgen, htag, hop, hfunc, hqp, hacc, hdone⟩, hnext, hold,
      fun k hk => by rw [hjnl, tget_tset_ne _ _ hk.symm]⟩
  case completed =>
    intro p st res s t hj ht
    obtain ⟨e, hjnl, -, -, hseq, -, htag, hop, -, -, hacc, -⟩ := afterAccept_journal (s := s) hj
    have he : tget t.cmd.jnl (s.cmd.jnlNext % 131072) = some e := by rw [ht, hjnl, tget_tset_self]
    obtain ⟨o, c, q, m, hpush⟩ := pushDone_frame p s.cmd.jnlNext st res (jnlDone s.cmd.jnlNext st t)
    have hfin : (finished p st res s t).cmd.jnl = (jnlDone s.cmd.jnlNext st t).cmd.jnl := by
      simp only [finished, jseqOf, hj, if_true, hpush]
    exact ⟨{ e with status := st, done := 0x5A }, by rw [hfin, jnlDone_of_entry he hseq], hseq, rfl, hacc, rfl, hop, htag⟩
  case unjournalled =>
    intro p s hj
    obtain ⟨q, r, ht⟩ := taken_frame p.h s
    simp only [afterAccept, jseqOf, hj, Bool.false_eq_true, if_false, ht, and_self]
  case kinds =>
    intro op h
    simp only [journalled, Bool.not_eq_false', Bool.and_eq_true]

/-! ### Refusals (02 R82, R89) -/

/-- The acceptance checks in their order: the status of the first that fails, when the fifth is of both shares. -/
def firstStatus (c1 c2 c3 c4 c5 : Bool) : Option Nat :=
  if c1 then some stNotSupported else if c2 then some stDenied else if c3 then some stTamper
  else if c4 then some stGenMismatch else if c5 then some stQueueFull else none

/-- `acceptCheck` makes the checks of Table CMD-6 in their order. -/
theorem acceptCheck_eq_firstStatus (p : Packet) (s : State) :
    acceptCheck p s = firstStatus (p.unsupported s) ((p.pfOnly && decide (p.h.func ≠ 0)) || p.denied s)
      ((s.key.restricted && !(isRead p.opcode || p.restrictedOk)) || (s.key.tripped && p.needsKey s))
      (p.h.genchk && decide (p.h.expGen ≠ s.cmd.gen))
      (decide (share s p.h.func 2 < queueUse s p.h.func + 1
        ∨ share s p.h.func 3 < tgetD s.vfn.cells p.h.func 0 + cellsFor p.isLoad p.h.pblkLen p.outBytes)) := by
  unfold acceptCheck firstStatus
  by_cases h2 : share s p.h.func 2 < queueUse s p.h.func + 1 <;> simp [h2]

/-- Which of the statuses it is, says which check failed first. -/
theorem firstStatus_spec (c1 c2 c3 c4 c5 : Bool) :
    (firstStatus c1 c2 c3 c4 c5 = some stNotSupported ↔ c1 = true)
    ∧ (firstStatus c1 c2 c3 c4 c5 = some stDenied ↔ c1 = false ∧ c2 = true)
    ∧ (firstStatus c1 c2 c3 c4 c5 = some stTamper ↔ c1 = false ∧ c2 = false ∧ c3 = true)
    ∧ (firstStatus c1 c2 c3 c4 c5 = some stGenMismatch ↔ c1 = false ∧ c2 = false ∧ c3 = false ∧ c4 = true)
    ∧ (firstStatus c1 c2 c3 c4 c5 = some stQueueFull ↔ c1 = false ∧ c2 = false ∧ c3 = false ∧ c4 = false ∧ c5 = true)
    ∧ (firstStatus c1 c2 c3 c4 c5 = none ↔ c1 = false ∧ c2 = false ∧ c3 = false ∧ c4 = false ∧ c5 = false) := by
  revert c1 c2 c3 c4 c5; decide

theorem mem_of_firstStatus {c1 c2 c3 c4 c5 : Bool} {st : Nat} (h : firstStatus c1 c2 c3 c4 c5 = some st) :
    st ∈ [stNotSupported, stDenied, stTamper, stGenMismatch, stQueueFull] := by
  have hany : ∀ d1 d2 d3 d4 d5, ∀ x ∈ firstStatus d1 d2 d3 d4 d5, x ∈ [stNotSupported, stDenied, stTamper, stGenMismatch, stQueueFull] := by
    decide
  exact hany c1 c2 c3 c4 c5 st h

/-- Counting a refusal moves one counter, and none for the PF or another status (15 Table VFN-6). -/
theorem countRefusal_frame (p : Packet) (st : Nat) (s : State) : ∃ k,
    countRefusal p st s = { s with counters := k } ∧ (p.h.func = 0 ∨ st ≠ stQueueFull → k = s.counters) := by
  unfold countRefusal
  split
  case isTrue h => exact ⟨_, rfl, fun hn => by rcases hn with hn | hn <;> simp [h] at hn⟩
  case isFalse h => exact ⟨s.counters, rfl, fun _ => rfl⟩

/-- Settles O48: `acceptCheck` is `firstStatus` of the checks, and a refused packet is taken, counted and completed. -/
theorem refusalsAreNotAccepted : Obligations.RefusalsAreNotAccepted := by
  refine ⟨?checks, ?refused⟩
  case checks =>
    intro p s
    simp only [acceptCheck_eq_firstStatus]
    exact ⟨fun st h => mem_of_firstStatus h, firstStatus_spec ..⟩
  case refused =>
    intro i p s st hp hi hs hcheck
    have hexec := exec_refused hp hi hs hcheck
    refine ⟨hexec, fun t ht => ?_⟩
    obtain ⟨q, r, htaken⟩ := taken_frame p.h s
    obtain ⟨k, hcount, hk⟩ := countRefusal_frame p st (taken p.h s)
    obtain ⟨o, c, q', m, hpush⟩ := pushDone_frame p 0 st 0 (countRefusal p st (taken p.h s))
    have heq : pushDone p 0 st 0 (countRefusal p st (taken p.h s)) = t := by
      rw [hexec] at ht; injection ht
    rw [hcount, htaken] at hpush
    rw [← heq, hcount, htaken, hpush]
    exact ⟨rfl, rfl, rfl, rfl, rfl, fun h => by rw [hk h, htaken]⟩

end Sys2Proof.Machine
end Frames

/-! Family other: what failing, reading and configuring commands leave unchanged (02 R75, R83, Table CMD-5). -/
section Unchanged
-- One proof after another: the stacks of proofs elaborated side by side exceed the memory of the check.
set_option Elab.async false
namespace Sys2Proof.Machine

open Safety

/-! ### What serving a command moves (02 Table CMD-5) -/

/-- From `s` to `t` only the command interface has moved, on behalf of a function: its generation and queue pair 0 registers are as
they were, no other function's staging area has moved, none at all for a read, and a counter only for a VF. -/
structure OnlyServed (func : Nat) (rd : Bool) (s t : State) : Prop where
  frame : t = { s with cmd := t.cmd, counters := t.counters }
  gen : t.cmd.gen = s.cmd.gen
  ready : t.cmd.ready = s.cmd.ready
  aq : t.cmd.aq = s.cmd.aq
  staging : rd = true → t.cmd.staging = s.cmd.staging
  others : ∀ f, f ≠ func → staged t f = staged s f
  counters : func = 0 → t.counters = s.counters

variable {func : Nat} {rd : Bool} {s t u : State} {p : Packet}

theorem OnlyServed.refl : OnlyServed func rd s s := ⟨rfl, rfl, rfl, rfl, fun _ => rfl, fun _ _ => rfl, fun _ => rfl⟩

theorem OnlyServed.trans (h : OnlyServed func rd s t) (h' : OnlyServed func rd t u) : OnlyServed func rd s u where
  frame := by rw [h'.frame, h.frame]
  gen := h'.gen.trans h.gen
  ready := h'.ready.trans h.ready
  aq := h'.aq.trans h.aq
  staging hr := (h'.staging hr).trans (h.staging hr)
  others f hf := (h'.others f hf).trans (h.others f hf)
  counters hf := (h'.counters hf).trans (h.counters hf)

/-- A change of the command interface that leaves its settings alone. -/
theorem OnlyServed.of_cmd {c : CmdSt} (hg : c.gen = s.cmd.gen) (hr : c.ready = s.cmd.ready) (ha : c.aq = s.cmd.aq)
    (hs : c.staging = s.cmd.staging) : OnlyServed func rd s { s with cmd := c } :=
  ⟨rfl, hg, hr, ha, fun _ => hs, fun f _ => congrArg (tgetD · f []) hs, fun _ => rfl⟩

theorem onlyServed_pushDone (j st : Nat) (res : Result) : OnlyServed func rd s (pushDone p j st res s) := by
  obtain ⟨o, c, q, m, h⟩ := pushDone_frame p j st res s
  rw [h]
  exact .of_cmd rfl rfl rfl rfl

theorem onlyServed_jnlAccept (op : Nat) (h : Hdr) : OnlyServed func rd s (jnlAccept op h s) := .of_cmd rfl rfl rfl rfl

theorem onlyServed_jnlDone (j st : Nat) : OnlyServed func rd s (jnlDone j st s) := by
  unfold jnlDone
  split
  · split
    · exact .of_cmd rfl rfl rfl rfl
    · exact .refl
  · exact .refl

theorem onlyServed_countRefusal (st : Nat) : OnlyServed p.h.func rd s (countRefusal p st s) := by
  obtain ⟨k, h, hk⟩ := countRefusal_frame p st s
  rw [h]
  exact ⟨rfl, rfl, rfl, rfl, fun _ => rfl, fun _ _ => rfl, fun hf => hk (.inl hf)⟩

theorem onlyServed_countStageRefusal (st : Nat) : OnlyServed p.h.func rd s (countStageRefusal p st s) := by
  unfold countStageRefusal
  split
  · exact onlyServed_countRefusal st
  · exact .refl

/-- What the package controller writes to the host for a read. -/
theorem onlyServed_hostWrite (f buf : Nat) (d : Bytes) : OnlyServed func rd s (hostWrite f buf d s) := .of_cmd rfl rfl rfl rfl

/-- A setting enters the function's own staging area. -/
theorem onlyServed_staging (l : List Staged) :
    OnlyServed func false s { s with cmd := { s.cmd with staging := tset s.cmd.staging func l } } where
  frame := rfl
  gen := rfl
  ready := rfl
  aq := rfl
  staging h := by cases h
  others f hf := by simp only [staged, tgetD, tget_tset_ne _ _ hf.symm]
  counters _ := rfl

/-- The effect of a packet has failed, or has moved only what serving it moves. -/
inductive Harmless (func : Nat) (rd : Bool) (s : State) : OpRes → Prop
  | failed {st : Nat} {res : Result} {t : State} (h : 0x10 ≤ st) : Harmless func rd s (.done st res t)
  | served {st : Nat} {res : Result} {t : State} (h : OnlyServed func rd s t) : Harmless func rd s (.done st res t)

theorem Harmless.same {st : Nat} {res : Result} : Harmless func rd s (.done st res s) := .served .refl

theorem Harmless.failRes {st : Nat} : Harmless func rd s (failRes st s) := .same

theorem Harmless.ite {c : Prop} [Decidable c] {r r' : OpRes} (h : Harmless func rd s r) (h' : Harmless func rd s r') :
    Harmless func rd s (if c then r else r') := by
  split
  · exact h
  · exact h'

theorem Harmless.vfGuard {v : Nat} {f : State → OpRes} (h : Harmless func rd s (f s)) : Harmless func rd s (vfGuard v f s) :=
  .ite .failRes (.ite .failRes h)

theorem Harmless.stageRes {h : Hdr} {j op : Nat} {x : Setting} : Harmless h.func false s (stageRes h j op x s) :=
  .served (onlyServed_staging _)

theorem Harmless.configPacket {h : Hdr} {op : Nat} {c : State → Bool} {x : Setting} {j : Nat} :
    Harmless h.func false s ((configPacket h op c x).eff j s) := .ite .stageRes .failRes

/-- Serving a packet whose effect is harmless. -/
theorem onlyServed_serve (hf : p.failActs = false) (he : ∀ j a, Harmless p.h.func rd a (p.eff j a)) :
    OnlyServed p.h.func rd s (serve p s) := by
  have hrun : ∀ j a, Harmless p.h.func rd a (runEff p j a) := fun j a => .ite .failRes (.ite .failRes (he j a))
  have hdone : ∀ j a b st res, OnlyServed p.h.func rd s a → OnlyServed p.h.func rd a b →
      OnlyServed p.h.func rd s (pushDone p j st res (if journalled p.opcode p.h then jnlDone j st b else b)) := by
    intro j a b st res ha hb
    refine (ha.trans hb).trans (OnlyServed.trans ?_ (onlyServed_pushDone ..))
    split
    · exact onlyServed_jnlDone ..
    · exact .refl
  have haccept : OnlyServed p.h.func rd s (if journalled p.opcode p.h then jnlAccept p.opcode p.h s else s) := by
    split
    · exact onlyServed_jnlAccept ..
    · exact .refl
  unfold serve
  split
  case h_1 st _ => exact (onlyServed_countRefusal st).trans (onlyServed_pushDone ..)
  case h_2 =>
    dsimp only
    generalize (if journalled p.opcode p.h then jnlAccept p.opcode p.h s else s) = a at haccept ⊢
    generalize (if journalled p.opcode p.h then s.cmd.jnlNext else 0) = j
    cases hr : runEff p j a with
    | wait b => exact absurd (hr ▸ hrun j a) nofun
    | done st res b =>
      refine hdone j a _ st res haccept ?_
      have hb := hr ▸ hrun j a
      split
      case isTrue hc =>
        cases hb with
        | failed h => simp [hf, Nat.not_lt.mpr h] at hc
        | served h => exact h
      case isFalse => exact onlyServed_countStageRefusal st

theorem onlyServed_takeServe (hf : p.failActs = false) (he : ∀ j a, Harmless p.h.func rd a (p.eff j a)) :
    OnlyServed p.h.func rd s (takeServe p s) := by
  unfold takeServe
  split
  · exact .refl
  · refine OnlyServed.trans ?_ (onlyServed_serve hf he)
    exact .of_cmd rfl rfl rfl rfl

/-- Submitting it places it in its ring, and serves it when it can. -/
theorem onlyServed_submit (i : Instr) (hf : p.failActs = false) (he : ∀ j a, Harmless p.h.func rd a (p.eff j a)) :
    OnlyServed p.h.func rd s (submit i p s) := by
  unfold submit
  split
  · exact .refl
  · split
    · exact .refl
    · split
      · exact .refl
      · dsimp only
        split
        · refine OnlyServed.trans ?_ (onlyServed_takeServe hf he)
          exact .of_cmd rfl rfl rfl rfl
        · exact .of_cmd rfl rfl rfl rfl

/-! ### The commands by their kind -/

/-- The commands whose failure itself acts, or is recorded (02 R83, log entry 111). -/
def FailureActs (i : Instr) : Prop :=
  (∃ h, i = .bkdRtcHaltRelease h) ∨ (∃ h, i = .configCommit h) ∨ (∃ h n b x, i = .keyImport h n b x)
    ∨ (∃ h n x, i = .keyLoad h n x) ∨ (∃ h x, i = .keyGenerate h x) ∨ (∃ h n m v r, i = .keyVerify h n m v r)
    ∨ (∃ h n g x b, i = .keyAttest h n g x b)

/-- What the packet of a command does when it fails, and a READ-kind or CONFIG-kind one when it is served. -/
structure PacketFacts (i : Instr) (p : Packet) : Prop where
  failActs : p.failActs = true → FailureActs i
  kind : (isConfig p.opcode || isRead p.opcode) = true → p.failActs = false ∧ isResume i = false
  read : isRead p.opcode = true → ∀ j a, Harmless p.h.func true a (p.eff j a)
  config : isConfig p.opcode = true → ∀ j a, Harmless p.h.func false a (p.eff j a)

section
variable {i : Instr}

theorem PacketFacts.of_read (hf : p.failActs = false) (hi : isResume i = false) (h : ∀ rd j a, Harmless p.h.func rd a (p.eff j a)) :
    PacketFacts i p :=
  ⟨fun ht => absurd (hf.symm.trans ht) Bool.false_ne_true, fun _ => ⟨hf, hi⟩, fun _ => h true, fun _ => h false⟩

theorem PacketFacts.of_config (hf : p.failActs = false) (hi : isResume i = false) (hr : isRead p.opcode = false)
    (h : ∀ j a, Harmless p.h.func false a (p.eff j a)) : PacketFacts i p :=
  ⟨fun ht => absurd (hf.symm.trans ht) Bool.false_ne_true, fun _ => ⟨hf, hi⟩,
    fun ht => absurd (hr.symm.trans ht) Bool.false_ne_true, fun _ => h⟩

theorem PacketFacts.of_action (hf : p.failActs = true → FailureActs i) (hk : (isConfig p.opcode || isRead p.opcode) = false) :
    PacketFacts i p := by
  obtain ⟨hc, hr⟩ := Bool.or_eq_false_iff.mp hk
  exact ⟨hf, fun ht => absurd (hk.symm.trans ht) Bool.false_ne_true, fun ht => absurd (hr.symm.trans ht) Bool.false_ne_true,
    fun ht => absurd (hc.symm.trans ht) Bool.false_ne_true⟩

end

/-- The commands by their kind: reads, settings, the actions whose failure acts, and the other actions. -/
theorem packetFacts (i : Instr) : (packetOf i).elim True (PacketFacts i) := by
  cases i with
  | nop | identify | timStatus | netPortStatus | loopRead | pairStatus | bkdRtcRead | pwrStatus => exact .of_read rfl rfl fun _ _ _ => .same
  | swcMcastRead | swcLookup | fltChainRead | keySlotRead => exact .of_read rfl rfl fun _ _ _ => .ite .failRes .same
  | lgcTaskRead => exact .of_read rfl rfl fun _ _ _ => .ite .same .failRes
  | svStreamRead | grfShareRead => exact .of_read rfl rfl fun _ _ _ => .ite .failRes (.ite .same .same)
  | sigRead | plmMapRead | evrRead => exact .of_read rfl rfl fun _ _ _ => .ite .failRes (.served (onlyServed_hostWrite ..))
  | pairHealthRead | keyIdentityRead => exact .of_read rfl rfl fun _ _ _ => .served (onlyServed_hostWrite ..)
  | scheduleRead =>
    refine .of_read rfl rfl fun _ _ _ => .ite ?_ (.ite .failRes ?_)
    · split <;> exact .same
    · split <;> exact .same
  | grfGraphRead h graph =>
    refine .of_read rfl rfl fun _ _ _ => ?_
    simp only [grfGraphReadPacket]
    split <;> exact .same
  | vfStatus h vf buf =>
    refine .of_read rfl rfl fun _ _ _ => ?_
    simp only [vfStatusPacket]
    refine .vfGuard (.served ?_)
    split
    · exact .refl
    · exact onlyServed_hostWrite ..
  | timPtpConfig | timAsymSet | timThreshSet | netPortConfig | netMgmtConfig | swcQueueConfig | swcMcastSet | swcPortFwd | swcAging
  | sigSharedId | svSubscribe | svUnsubscribe | fltChainSet | fltHeelPin | sigGsSubscribe | sigGpDefine | sigSvpDefine | grfGraphUnload
  | lgcConfig | plmGroupSet | plmPolicy | loopConfig | pairConfig | vfnPolicy | keyConfig | bkdConfig | sysCycleSet | pwrPolicy =>
    refine .of_config rfl rfl ?_ fun _ _ => .ite .stageRes .failRes
    conv => lhs; arg 1; whnf
    exact rfl
  | sigDefine | plmOwnerDies =>
    refine .of_config rfl rfl ?_ fun _ _ => .ite .failRes (.ite .stageRes .failRes)
    conv => lhs; arg 1; whnf
    exact rfl
  | vfnVfConfig =>
    refine .of_config rfl rfl ?_ fun _ _ => ?_
    · conv => lhs; arg 1; whnf
      exact rfl
    · simp only [vfnVfConfigPacket]
      exact .vfGuard .configPacket
  | grfGraphLoad h image keySlot img =>
    refine .of_config rfl rfl ?_ fun _ _ => .ite .failRes (.ite .same (.ite .failRes (.served (OnlyServed.trans ?_ (onlyServed_staging _)))))
    · conv => lhs; arg 1; whnf
      exact rfl
    · exact onlyServed_staging _
  | lgcTaskDefine h image keySlot valid task img =>
    refine .of_config rfl rfl ?_ fun _ _ => .ite .failRes (.ite (.ite .same (.ite .same (.ite .failRes .stageRes))) (.ite .stageRes .failRes))
    conv => lhs; arg 1; whnf
    exact rfl
  | bkdRtcHaltRelease h =>
    refine .of_action (fun _ => .inl ⟨h, rfl⟩) ?_
    conv => lhs; congr <;> (arg 1; whnf)
    rfl
  | configCommit h =>
    refine .of_action (fun _ => .inr (.inl ⟨h, rfl⟩)) ?_
    conv => lhs; congr <;> (arg 1; whnf)
    rfl
  | keyImport h n b x =>
    refine .of_action (fun _ => .inr (.inr (.inl ⟨h, n, b, x, rfl⟩))) ?_
    conv => lhs; congr <;> (arg 1; whnf)
    rfl
  | keyLoad h n x =>
    refine .of_action (fun _ => .inr (.inr (.inr (.inl ⟨h, n, x, rfl⟩)))) ?_
    conv => lhs; congr <;> (arg 1; whnf)
    rfl
  | keyGenerate h x =>
    refine .of_action (fun _ => .inr (.inr (.inr (.inr (.inl ⟨h, x, rfl⟩))))) ?_
    conv => lhs; congr <;> (arg 1; whnf)
    rfl
  | keyVerify h n m v r =>
    refine .of_action (fun _ => .inr (.inr (.inr (.inr (.inr (.inl ⟨h, n, m, v, r, rfl⟩)))))) ?_
    conv => lhs; congr <;> (arg 1; whnf)
    rfl
  | keyAttest h n g x b =>
    refine .of_action (fun _ => .inr (.inr (.inr (.inr (.inr (.inr ⟨h, n, g, x, b, rfl⟩)))))) ?_
    conv => lhs; congr <;> (arg 1; whnf)
    rfl
  | _ =>
    simp only [packetOf, Option.elim_none, Option.elim_some] <;>
    · refine .of_action (fun ht => absurd ht Bool.false_ne_true) ?_
      conv => lhs; congr <;> (arg 1; whnf)
      rfl

theorem packetFacts_of_packetOf {i : Instr} (hp : packetOf i = some p) : PacketFacts i p := by
  have h := packetFacts i
  rwa [hp] at h

/-- Settles O49: the effect of a failed command is dropped, but for the named commands. -/
theorem failuresChangeNothing : Obligations.FailuresChangeNothing := by
  refine ⟨fun i p s t st res hp hi hg hf hst he => exec_failed hp hi hg he hst hf, ?uncounted,
    fun i p s hp hi hg hc hr => exec_noRoom hp hi hg hr ((packetFacts_of_packetOf hp).kind (by rw [hc, Bool.true_or])).1,
    fun i p hp hf => (packetFacts_of_packetOf hp).failActs hf⟩
  case uncounted =>
    intro p st s h
    rcases h with h | h | h
    · simp [countStageRefusal, countRefusal, h]
    · simp [countStageRefusal, countRefusal, h]
    · simp [countStageRefusal, h]

/-! ### Reads and configuration (02 Table CMD-5) -/

/-- Settles O50: the packet of a read is submitted, and its effect is harmless. -/
theorem readsChangeNothing : Obligations.ReadsChangeNothing := by
  intro i p s hp hr
  have facts := packetFacts_of_packetOf hp
  obtain ⟨hf, hi⟩ := facts.kind (by rw [hr, Bool.or_true])
  have h := onlyServed_submit (s := s) i hf (facts.read hr)
  exact ⟨_, exec_packet hp hi s, h.frame, h.gen, h.staging rfl, h.ready, h.aq, h.counters⟩

/-- Settles O51: the packet of a setting is submitted, and its effect enters its function's staging area. -/
theorem configOnlyStages : Obligations.ConfigOnlyStages := by
  intro i p s hp hc
  have facts := packetFacts_of_packetOf hp
  obtain ⟨hf, hi⟩ := facts.kind (by rw [hc, Bool.true_or])
  have h := onlyServed_submit (s := s) i hf (facts.config hc)
  exact ⟨_, exec_packet hp hi s, h.frame, h.gen, h.ready, h.aq, h.others, h.counters⟩

end Sys2Proof.Machine
end Unchanged

/-! Family other: the rows of register accesses, the controller and time. -/
section ControllerRows
-- One proof after another: the stacks of proofs elaborated side by side exceed the memory of the check.
set_option Elab.async false
namespace Sys2Proof.Machine

open Safety

/-! ### Rows that answer (02, 03) -/

section Answering
variable {i : Instr} {c : State → Bool} {f g : State → State}

/-- A row that answers `g` meets its clause where `g` and the clause agree. -/
theorem answers_of (hexec : ∀ s, exec i s = .next (g s)) (h : ∀ s, c s = true → g s = f s) : Answers i c f :=
  fun s hc => (hexec s).trans (congrArg _ (h s hc))

/-- A row that tests `P` first, and a clause of those that pass. -/
theorem answers_pos {P : State → Prop} [∀ s, Decidable (P s)] (hexec : ∀ s, exec i s = .next (if P s then f s else g s))
    (h : ∀ s, c s = true → P s) : Answers i c f :=
  answers_of hexec fun s hc => if_pos (h s hc)

/-- A row that tests `P` first, and a clause of those that fail. -/
theorem answers_neg {P : State → Prop} [∀ s, Decidable (P s)] (hexec : ∀ s, exec i s = .next (if P s then g s else f s))
    (h : ∀ s, c s = true → ¬ P s) : Answers i c f :=
  answers_of hexec fun s hc => if_neg (h s hc)

end Answering

/-! ### Registers (02 R61 to R64, R67, R93) -/

/-- Posting moves no submission ring. -/
theorem sqTail_postCompletion (o : Outst) (st : Nat) (res : Result) (k : Nat × Nat) (s : State) :
    (tget (postCompletion o st res s).cmd.qps k).map (·.sqTail) = (tget s.cmd.qps k).map (·.sqTail) := by
  cases hq : tget s.cmd.qps (o.func, o.qp) with
  | none => simp only [postCompletion, hq]
  | some q =>
    rw [postCompletion_of_some hq]
    by_cases hk : (o.func, o.qp) = k
    · subst hk; simp only [tget_tset_self, hq, Option.map_some, postedQp]
    · simp only [tget_tset_ne _ _ hk]

theorem sqTail_postReady (l : List Outst) (b : List (Nat × Nat)) (k : Nat × Nat) (s : State) :
    (tget (postReady l b s).cmd.qps k).map (·.sqTail) = (tget s.cmd.qps k).map (·.sqTail) := by
  induction l generalizing b s with
  | nil => rfl
  | cons x l ih =>
    rw [postReady]
    split
    · exact ih ..
    · split
      · split
        · exact (ih ..).trans (sqTail_postCompletion ..)
        · exact ih ..
      · exact ih ..

theorem sqTail_pushDone (p : Packet) (j st : Nat) (res : Result) (k : Nat × Nat) (s : State) :
    (tget (pushDone p j st res s).cmd.qps k).map (·.sqTail) = (tget s.cmd.qps k).map (·.sqTail) := sqTail_postReady ..

/-- A packet of no row is refused as soon as it is taken (02 R82). -/
theorem placeUnknown_of_servable {func qp : Nat} {b : Bytes} {s : State} (hk : knownOpcode (opcodeOf b) = false)
    (hh : haltOutside b = false) (hs : servable (readHdr func qp b) s = true) :
    placeUnknown func qp b s = pushDone (unknownPacket func qp b) 0 stNotSupported 0 (taken (readHdr func qp b) s) := by
  have hhdr : (unknownPacket func qp b).h = readHdr func qp b := by simp [unknownPacket, hh]
  have hcheck : acceptCheck (unknownPacket func qp b) (taken (readHdr func qp b) s) = some stNotSupported := by
    simp [unknownPacket, hh, acceptCheck]
  have hsub := submit_servable (p := unknownPacket func qp b) (hhdr ▸ hs) (.cmdSqTail func qp ⟨0, [b]⟩)
  rw [placeUnknown, if_neg (by simp [hk]), hsub, hhdr, serve_refused hcheck, countRefusal_of_ne (by decide)]

/-- Settles O19: each row takes the branch that the clause names. -/
theorem registerAccessesAct : Obligations.RegisterAccessesAct := by
  refine ⟨?capture, ?noCapture, ?bkd, ?bkdOther, ?bkdBusy, ?latch, ?noLatch, ?tail, ?otherTail, ?unknown, ?unheard, ?head, ?headUnheard,
    ?enable, ?noEnable, ?disable, ?release, ?noRelease, ?jnlCursor, ?evrCursor⟩
  case capture => exact fun func go => answers_pos (fun _ => rfl) fun s hc => by simpa using hc
  case noCapture => exact fun func go => answers_neg (fun _ => rfl) fun s hc h => by simp [h] at hc
  case bkd => exact answers_pos (fun _ => rfl) fun s hc => by simpa using hc
  case bkdOther => exact fun go hgo => answers_neg (fun _ => rfl) fun s _ h => hgo h.1
  case bkdBusy => exact fun go => answers_neg (fun _ => rfl) fun s hc => by simp [hc]
  case latch => exact answers_neg (fun _ => rfl) fun s hc => by simpa using hc
  case noLatch => exact answers_pos (fun _ => rfl) fun s hc => by simp_all
  case tail =>
    refine fun func qp x => answers_of (fun _ => rfl) fun s hc => ?_
    simp only [Bool.and_eq_true, beq_iff_eq] at hc
    simp only [foldSt, List.foldl_nil, hc, and_self, if_true]
  case otherTail =>
    refine fun func qp tail x => answers_of (fun _ => rfl) fun s hc => ?_
    simp only [Bool.and_eq_true, beq_iff_eq, decide_eq_true_eq] at hc
    simp only [foldSt, List.foldl_nil, hc, and_false, if_false, id]
  case unknown =>
    refine fun func qp b x => answers_of (fun _ => rfl) fun s hc => ?_
    simp only [Bool.and_eq_true, Bool.not_eq_true', beq_iff_eq] at hc
    obtain ⟨⟨⟨⟨hx, -⟩, hk⟩, hh⟩, hs⟩ := hc
    have hheard : heard s func qp = true := by
      simp only [servable, Bool.and_eq_true] at hs
      exact hs.1.1
    have htail := sqTail_pushDone (unknownPacket func qp b) 0 stNotSupported 0 (func, qp) (taken (readHdr func qp b) s)
    have htaken : (tget (taken (readHdr func qp b) s).cmd.qps (func, qp)).map (·.sqTail) = some ((x.sqTail + 1) % 2 ^ x.sqLog2) := by
      have hx' : tget s.cmd.qps ((readHdr func qp b).func, (readHdr func qp b).qp) = some x := hx
      simp only [taken, hx']
      exact congrArg (Option.map _) (tget_tset_self ..)
    rw [htaken] at htail
    obtain ⟨y, hy, hyt⟩ := Option.map_eq_some_iff.mp htail
    simp only [foldSt, List.foldl_cons, List.foldl_nil, placeUnknown_of_servable hk hh hs, hy, hheard, hyt, and_self, if_true]
  case unheard =>
    refine fun func qp tail => answers_of (fun _ => rfl) fun s hc => ?_
    simp only [Bool.not_eq_true'] at hc
    simp only [foldSt, List.foldl_nil, hc, Bool.false_eq_true, false_and, if_false, id]
    split <;> rfl
  case head =>
    refine fun func qp head x => answers_of (fun _ => rfl) fun s hc => ?_
    simp only [Bool.and_eq_true, beq_iff_eq, decide_eq_true_eq] at hc
    obtain ⟨⟨⟨hx, hh⟩, hd⟩, hn⟩ := hc
    simp only [hx]
    exact if_neg (by simp [hh]; omega)
  case headUnheard =>
    refine fun func qp head => answers_of (fun _ => rfl) fun s hc => ?_
    dsimp only
    split
    · rfl
    · exact if_pos (.inl hc)
  case enable =>
    refine fun func sq cq => answers_of (fun _ => rfl) fun s hc => ?_
    simp only [Bool.and_eq_true, Bool.not_eq_true'] at hc
    obtain ⟨⟨⟨⟨hr, hb⟩, he⟩, hrel⟩, hok⟩ := hc
    refine (if_neg (by simp [hr, hb, he, hrel])).trans ?_
    simp only [hok, if_true]
  case noEnable => exact fun func sq cq => answers_pos (fun _ => rfl) fun s hc => by simpa [or_assoc] using hc
  case disable => exact fun func => answers_neg (fun _ => rfl) fun s hc => by simpa using hc
  case release => exact fun func => answers_pos (fun _ => rfl) fun s hc => by simpa using hc
  case noRelease => exact fun func => answers_neg (fun _ => rfl) fun s hc h => by simp [h] at hc
  case jnlCursor => exact fun func seq => answers_pos (fun _ => rfl) fun s hc => hc
  case evrCursor => exact fun seq s _ => rfl

/-- Settles O21: each row takes the branch that the clause names. -/
theorem controllerRowsAct : Obligations.ControllerRowsAct := by
  refine ⟨?coalesce, ?noCoalesce, fun _ _ _ => rfl, fun _ _ _ => rfl, ?takeover, ?noTakeover⟩
  case coalesce =>
    refine fun func qp x => answers_of (fun _ => rfl) fun s hc => ?_
    simp only [Bool.and_eq_true, beq_iff_eq, decide_eq_true_eq] at hc
    simp only [hc.1.1]
    exact if_pos ⟨hc.1.2, hc.2⟩
  case noCoalesce =>
    refine fun func qp => answers_of (fun _ => rfl) fun s hc => ?_
    dsimp only
    split
    · rfl
    next x hx =>
      simp only [hx, Bool.or_eq_true, Bool.not_eq_true', decide_eq_true_eq] at hc
      refine if_neg fun ⟨hb, h1, h2, h3⟩ => ?_
      rcases hc with hc | hc
      · simp [hb] at hc
      · omega
  case takeover => exact fun die0Answers => answers_neg (fun _ => rfl) fun s hc => by simpa [and_assoc] using hc
  case noTakeover => exact fun die0Answers => answers_pos (fun _ => rfl) fun s hc => by simpa [or_assoc] using hc

end Sys2Proof.Machine
end ControllerRows

/-! Family other: the rows of time. -/
section TimeRows
-- One proof after another: the stacks of proofs elaborated side by side exceed the memory of the check.
set_option Elab.async false
namespace Sys2Proof.Machine

open Safety

/-! ### Periodic work (log entry 138) -/

theorem every_of_due {kind unit ticks : Nat} {f : State → State} {s : State} (h : dueAgain kind unit ticks s = true) :
    every kind unit ticks f s = f (runNow kind unit s) := if_pos h

theorem every_of_not_due {kind unit ticks : Nat} {f : State → State} {s : State} (h : dueAgain kind unit ticks s = false) :
    every kind unit ticks f s = s := if_neg (ne_true_of_eq_false h)

/-! ### The skew of a die (03 R103) -/

theorem alignDie_of_aligned {x : TwoWay} (h : (exchangeSkew x).natAbs ≤ 1000) (die : Nat) (s : State) :
    alignDie die x s = copyMoved die x 0 s := by
  have h1 : ¬ 1000 < (exchangeSkew x).natAbs := by omega
  have h2 : ¬ 2000 < (exchangeSkew x).natAbs := by omega
  have h3 : ¬ (0 : Nat) = 3 := by decide
  simp only [alignDie, h1, h2, h3, if_false, copyMoved]

/-- The third skewed exchange is recorded. -/
theorem alignDie_of_third {die : Nat} {x : TwoWay} {s : State} (h : 1000 < (exchangeSkew x).natAbs) (h' : (exchangeSkew x).natAbs ≤ 2000)
    (hrun : tgetD s.tim.skewRun die 0 = 2) :
    alignDie die x s = recordEvent (evPkg 0x010A die (ps (exchangeSkew x)) 0 die) (copyMoved die x 3 s) := by
  have h2 : ¬ 2000 < (exchangeSkew x).natAbs := by omega
  simp only [alignDie, h, h2, hrun, if_true, if_false, copyMoved]

/-- A skew above 2 ns evacuates the die (log entry 18). -/
theorem alignDie_of_far {die : Nat} {x : TwoWay} {s : State} (h : 2000 < (exchangeSkew x).natAbs) (hrun : tgetD s.tim.skewRun die 0 = 0) :
    alignDie die x s = dieEvacuate die true (copyMoved die x 1 s) := by
  have h1 : 1000 < (exchangeSkew x).natAbs := by omega
  simp only [alignDie, h, h1, hrun, if_true, copyMoved]
  rfl

/-- Settles O22: each row takes the branch that the clause names. -/
theorem timeRowsAct : Obligations.TimeRowsAct := by
  refine ⟨?sync, ?twoStep, ?otherSync, ?followUp, ?noFollowUp, ?otherAnnounce, ?sameGm, ?worse, ?receipt, ?noReceipt, ?hold, ?holdEarly,
    ?t1, ?noT1, ?temp, ?noTemp, fun _ _ => rfl, ?aligned, ?third, ?far, ?noExchange, fun _ _ _ _ => rfl, ?pps, ?noPps, ?step, ?stepFails,
    ?stepEarly, ?noStep⟩
  case sync =>
    refine fun m hm => answers_of (fun _ => rfl) fun s hc => ?_
    exact (if_neg (by simpa [ofDomain] using hc)).trans (if_neg (by simp [hm]))
  case twoStep =>
    refine fun m hm => answers_of (fun _ => rfl) fun s hc => ?_
    exact (if_neg (by simpa [ofDomain] using hc)).trans (if_pos hm)
  case otherSync => exact fun m => answers_pos (fun _ => rfl) fun s hc => by simpa [ofDomain] using hc
  case followUp =>
    refine fun lan f corr m => answers_of (fun _ => rfl) fun s hc => ?_
    simp only [Bool.and_eq_true, beq_iff_eq] at hc
    simp only [ofDomain, hc, BEq.rfl, if_true]
  case noFollowUp =>
    refine fun lan f corr => answers_of (fun _ => rfl) fun s hc => ?_
    have hnone : (if ofDomain s f.domain = true then (lanSt s lan).twoStep else none) = none := by
      simp only [Bool.or_eq_true, bne_iff_ne, ne_eq, Option.isNone_iff_eq_none] at hc
      rcases hc with hc | hc <;> simp [ofDomain, hc]
    simp only [hnone, id]
  case otherAnnounce =>
    refine fun m s hc => ?_
    exact if_pos (by simpa [ofDomain] using hc)
  case sameGm =>
    refine fun m s hc => ?_
    simp only [Bool.and_eq_true, beq_iff_eq, decide_eq_true_eq] at hc
    refine (if_neg (by simp [ofDomain, hc.1])).trans ?_
    simp only [hc.2, if_true]
  case worse =>
    refine fun m s hc => ?_
    simp only [Bool.and_eq_true, decide_eq_true_eq] at hc
    obtain ⟨⟨hgm, hsel⟩, hbad⟩ := hc
    show (if _ then _ else _) = _
    split
    · rfl
    · simp only [hgm, hsel, hbad, Bool.and_self, if_false, if_true, false_and, id]
  case receipt => exact fun lan => answers_pos (fun _ => rfl) fun s hc => by simpa [annDeadline] using hc
  case noReceipt => exact fun lan => answers_neg (fun _ => rfl) fun s hc => by simpa [annDeadline, Classical.or_iff_not_imp_left] using hc
  case hold =>
    refine fun h => answers_of (fun _ => rfl) fun s hc => ?_
    simp only [Bool.and_eq_true, beq_iff_eq, decide_eq_true_eq] at hc
    simp only [hc.1]
    exact if_neg (Nat.not_lt.mpr hc.2)
  case holdEarly =>
    refine fun h => answers_of (fun _ => rfl) fun s hc => ?_
    simp only [Bool.and_eq_true, beq_iff_eq, decide_eq_true_eq] at hc
    simp only [hc.1]
    exact if_pos hc.2
  case t1 => exact answers_pos (fun _ => rfl) fun s hc => of_decide_eq_true hc
  case noT1 => exact answers_neg (fun _ => rfl) fun s hc => by simpa [Classical.or_iff_not_imp_left] using hc
  case temp => exact fun temp => answers_pos (fun _ => rfl) fun s hc => by simpa [ocxoAway] using hc
  case noTemp => exact fun temp => answers_neg (fun _ => rfl) fun s hc => by simpa [ocxoAway, Classical.or_iff_not_imp_left] using hc
  case aligned =>
    refine fun die x hx => answers_of (fun _ => rfl) fun s hc => ?_
    simp only [Bool.and_eq_true, bne_iff_ne] at hc
    exact (if_neg (by simp [hc])).trans ((every_of_due hc.2).trans (alignDie_of_aligned hx die _))
  case third =>
    refine fun die x hx hx' => answers_of (fun _ => rfl) fun s hc => ?_
    simp only [Bool.and_eq_true, bne_iff_ne, beq_iff_eq] at hc
    exact (if_neg (by simp [hc])).trans ((every_of_due hc.1.2).trans (alignDie_of_third hx hx' hc.2))
  case far =>
    refine fun die x hx => answers_of (fun _ => rfl) fun s hc => ?_
    simp only [Bool.and_eq_true, bne_iff_ne, beq_iff_eq] at hc
    exact (if_neg (by simp [hc])).trans ((every_of_due hc.1.2).trans (alignDie_of_far hx hc.2))
  case noExchange =>
    refine fun die x => answers_of (fun _ => rfl) fun s hc => ?_
    simp only [Bool.or_eq_true, Bool.not_eq_true', beq_iff_eq] at hc
    split
    · rfl
    next hn => exact every_of_not_due (hc.resolve_left hn)
  case pps => exact answers_pos (fun _ => rfl) fun s hc => hc
  case noPps => exact answers_neg (fun _ => rfl) fun s hc => by simpa using hc
  case step =>
    refine fun b => answers_of (fun _ => rfl) fun s hc => ?_
    simp only [Bool.and_eq_true, beq_iff_eq, decide_eq_true_eq] at hc
    obtain ⟨⟨hb, ht⟩, hl⟩ := hc
    simp only [hb]
    exact (if_neg (by omega)).trans (if_pos hl)
  case stepFails =>
    refine fun b => answers_of (fun _ => rfl) fun s hc => ?_
    simp only [Bool.and_eq_true, Bool.not_eq_true', beq_iff_eq, decide_eq_true_eq, decide_eq_false_iff_not] at hc
    obtain ⟨⟨hb, ht⟩, hl⟩ := hc
    simp only [hb]
    exact (if_neg (by omega)).trans (if_neg hl)
  case stepEarly =>
    refine fun b => answers_of (fun _ => rfl) fun s hc => ?_
    simp only [Bool.and_eq_true, beq_iff_eq, decide_eq_true_eq] at hc
    simp only [hc.1]
    exact if_pos hc.2
  case noStep =>
    refine answers_of (fun _ => rfl) fun s hc => ?_
    simp only [Option.isNone_iff_eq_none.mp hc, id]

end Sys2Proof.Machine
end TimeRows

/-! Family other: the rows of ports, pauses and the frames of a port. -/
section PortRows
-- One proof after another: the stacks of proofs elaborated side by side exceed the memory of the check.
set_option Elab.async false
namespace Sys2Proof.Machine

open Safety

/-! ### Ports (04 R131 to R151) -/

/-- The numbers of the management ports. -/
theorem mgmt_number {m : Nat} (h : m ≤ 1) : 0x80 + m = 0x80 ∨ 0x80 + m = 0x81 := by omega

theorem not_mgmt_number {port : Nat} (h : port < 0x80) : ¬ (port = 0x80 ∨ port = 0x81) := by omega

/-- A port that is to take a link: ON or DRAINING, and its cage has an accepted module. -/
theorem takes_link {s : State} {port : Nat} {l : Link}
    (hc : ((portSt s port).o.obj = .on ∨ (portSt s port).o.obj = .draining) ∧ (portSt s port).link = l) (ha : cageAccepts s (port / 4) = true) :
    ¬ (((portSt s port).o.obj ≠ .on ∧ (portSt s port).o.obj ≠ .draining) ∨ cageAccepts s (port / 4) = false) := by
  rintro (⟨h1, h2⟩ | h)
  · exact hc.1.elim h1 h2
  · simp [ha] at h

/-- Settles O23: each row takes the branch that the clause names. -/
theorem portRowsAct : Obligations.PortRowsAct := by
  refine ⟨?fault, ?noFault, ?clearDown, ?clearHolding, ?clearExpired, ?clearUp, ?clearOff, ?clearNoCage, ?holdExpiry, ?noHoldExpiry,
    ?started, ?startedDrain, ?notStarting, ?drainEnd, ?notDraining, ?respond, ?noRespond, ?again, ?giveUp, ?insert, ?noInsert, ?remove,
    ?noRemove, ?mgmtDown, ?mgmtUp, ?mgmtUpExpired, ?mgmtExpiry, ?noMgmtExpiry, ?mgmtIgnored⟩
  case fault =>
    refine fun port cause => answers_of (fun _ => rfl) fun s hc => ?_
    rcases of_decide_eq_true hc with h | h <;> simp only [h]
  case noFault =>
    refine fun port cause => answers_of (fun _ => rfl) fun s hc => ?_
    rcases of_decide_eq_true hc with h | h <;> simp only [h, id]
  case clearDown =>
    refine fun port => answers_of (fun _ => rfl) fun s hc => ?_
    simp only [Bool.and_eq_true, decide_eq_true_eq] at hc
    refine (if_neg (takes_link hc.1 hc.2)).trans ?_
    simp only [hc.1.2]
  case clearHolding =>
    refine fun port => answers_of (fun _ => rfl) fun s hc => ?_
    simp only [Bool.and_eq_true, decide_eq_true_eq, Bool.not_eq_true'] at hc
    refine (if_neg (takes_link hc.1.1 hc.1.2)).trans ?_
    simp only [hc.1.1.2, hc.2, Bool.false_eq_true, if_false]
  case clearExpired =>
    refine fun port => answers_of (fun _ => rfl) fun s hc => ?_
    simp only [Bool.and_eq_true, decide_eq_true_eq] at hc
    refine (if_neg (takes_link hc.1.1 hc.1.2)).trans ?_
    simp only [hc.1.1.2, hc.2, if_true]
  case clearUp =>
    refine fun port => answers_of (fun _ => rfl) fun s hc => ?_
    simp only [of_decide_eq_true hc, ite_self, id]
  case clearOff =>
    exact fun port => answers_pos (fun _ => rfl) fun s hc => by rcases of_decide_eq_true hc with h | h <;> simp [h]
  case clearNoCage => exact fun port => answers_pos (fun _ => rfl) fun s hc => .inr (by simpa using hc)
  case holdExpiry =>
    refine fun port hp => answers_of (fun _ => rfl) fun s hc => ?_
    exact (if_neg (not_mgmt_number hp)).trans (if_pos (by simpa using hc))
  case noHoldExpiry =>
    refine fun port hp => answers_of (fun _ => rfl) fun s hc => ?_
    exact (if_neg (not_mgmt_number hp)).trans (if_neg fun h => by simp [h] at hc)
  case started =>
    refine fun port => answers_of (fun _ => rfl) fun s hc => ?_
    simp [of_decide_eq_true hc, objStarted]
  case startedDrain =>
    refine fun port => answers_of (fun _ => rfl) fun s hc => ?_
    simp [of_decide_eq_true hc, objStarted]
  case notStarting => exact fun port => answers_pos (fun _ => rfl) fun s hc => of_decide_eq_true hc
  case drainEnd => exact fun port => answers_pos (fun _ => rfl) fun s hc => by simpa using hc
  case notDraining => exact fun port => answers_neg (fun _ => rfl) fun s hc h => of_decide_eq_true hc h.1
  case respond => exact fun port => answers_pos (fun _ => rfl) fun s hc => by simpa using hc
  case noRespond => exact fun port => answers_neg (fun _ => rfl) fun s hc h => by simp [h] at hc
  case again =>
    refine fun port => answers_of (fun _ => rfl) fun s hc => ?_
    simp only [Bool.and_eq_true, beq_iff_eq, decide_eq_true_eq] at hc
    exact (if_pos ⟨hc.1, hc.2.1⟩).trans (if_pos hc.2.2)
  case giveUp =>
    refine fun port => answers_of (fun _ => rfl) fun s hc => ?_
    simp only [Bool.and_eq_true, beq_iff_eq, decide_eq_true_eq] at hc
    exact (if_pos ⟨hc.1, hc.2.1⟩).trans (if_neg (Nat.not_lt.mpr hc.2.2))
  case insert => exact fun cage fourLanes speeds powerClass => answers_neg (fun _ => rfl) fun s hc => by simp [hc]
  case noInsert => exact fun cage fourLanes speeds powerClass => answers_pos (fun _ => rfl) fun s hc => hc
  case remove => exact fun cage => answers_neg (fun _ => rfl) fun s hc => by simpa using hc
  case noRemove => exact fun cage => answers_pos (fun _ => rfl) fun s hc => by simpa using hc
  case mgmtDown =>
    refine fun mport => answers_of (fun _ => rfl) fun s hc => ?_
    obtain ⟨hm, he, hl⟩ := of_decide_eq_true hc
    exact (if_neg (by simp [he]; omega)).trans ((if_neg Bool.false_ne_true).trans (if_pos hl))
  case mgmtUp =>
    refine fun mport => answers_of (fun _ => rfl) fun s hc => ?_
    simp only [Bool.and_eq_true, decide_eq_true_eq, Bool.not_eq_true'] at hc
    obtain ⟨⟨hm, he, hl⟩, hd⟩ := hc
    refine (if_neg (by simp [he]; omega)).trans ((if_pos rfl).trans ((if_neg hl).trans ?_))
    simp only [hd, Bool.false_eq_true, if_false]
  case mgmtUpExpired =>
    refine fun mport => answers_of (fun _ => rfl) fun s hc => ?_
    simp only [Bool.and_eq_true, decide_eq_true_eq] at hc
    obtain ⟨⟨hm, he⟩, hd⟩ := hc
    have hl : (mgmtSt s mport).link ≠ .up := by
      have hh := (of_decide_eq_true hd).1
      simp [hh]
    refine (if_neg (by simp [he]; omega)).trans ((if_pos rfl).trans ((if_neg hl).trans ?_))
    simp only [hd, if_true]
  case mgmtExpiry =>
    refine fun m hm => answers_of (fun _ => rfl) fun s hc => ?_
    refine (if_pos (mgmt_number hm)).trans ?_
    simp only [Nat.add_sub_cancel_left, hc, if_true]
  case noMgmtExpiry =>
    refine fun m hm => answers_of (fun _ => rfl) fun s hc => ?_
    refine (if_pos (mgmt_number hm)).trans ?_
    simp only [Bool.not_eq_true'] at hc
    simp only [Nat.add_sub_cancel_left, hc, Bool.false_eq_true, if_false, id]
  case mgmtIgnored => exact fun mport up => answers_pos (fun _ => rfl) fun s hc => of_decide_eq_true hc

/-! ### Pauses, peer-delay and supervision frames (03 R112; 04 R148, R152 to R157) -/

/-- Of the classes, the one whose bit stands alone. -/
theorem filter_range_of_shift {c : Nat} (hc : c < 8) {p : Nat → Bool} (hp : p c = true) :
    (List.range 8).filter (fun x => bitN (1 <<< c) x && p x) = [c] := by
  have hcongr : (List.range 8).filter (fun x => bitN (1 <<< c) x && p x) = (List.range 8).filter (fun x => x == c) := by
    refine List.filter_congr fun x _ => ?_
    by_cases hx : x = c
    · simp [hx, bitN, Nat.one_shiftLeft, hp]
    · simp [hx, bitN, Nat.one_shiftLeft, Ne.symm hx]
  have hall : ∀ c < 8, (List.range 8).filter (fun x => x == c) = [c] := by decide
  rw [hcongr, hall c hc]

/-- Settles O24: each row takes the branch that the clause names. -/
theorem pauseRowsAct : Obligations.PauseRowsAct := by
  refine ⟨?pause, ?noPause, ?mgmtPause, ?expiry, ?mgmtExpiry, ?noExpiry, ?trip, ?mgmtTrip, ?mgmtHoldEnd, ?holdEnd, ?noHold, ?supervision,
    ?noSupervision, ?pdelayReq, ?pdelaySend, ?noPdelaySend, ?pdelayResp, ?noPdelayReq, ?offPdelaySend, ?noPdelayResp⟩
  case pause =>
    refine fun port pfc classes quanta hp => answers_of (fun _ => rfl) fun s hc => ?_
    exact (if_neg (not_mgmt_number hp)).trans (if_neg (by simpa using hc))
  case noPause =>
    refine fun port pfc classes quanta hp => answers_of (fun _ => rfl) fun s hc => ?_
    exact (if_neg (not_mgmt_number hp)).trans (if_pos (of_decide_eq_true hc))
  case mgmtPause =>
    refine fun m pfc classes quanta hm => answers_of (fun _ => rfl) fun s _ => ?_
    refine (if_pos (mgmt_number hm)).trans ?_
    rw [Nat.add_sub_cancel_left]
  case expiry =>
    refine fun port cls e hp => answers_of (fun _ => rfl) fun s hc => ?_
    simp only [Bool.and_eq_true, beq_iff_eq, decide_eq_true_eq] at hc
    refine (if_neg (not_mgmt_number hp)).trans ?_
    simp only [hc.1, hc.2, if_true]
  case mgmtExpiry =>
    refine fun m cls hm => answers_of (fun _ => rfl) fun s hc => ?_
    refine (if_pos (mgmt_number hm)).trans ?_
    simp only [Nat.add_sub_cancel_left]
    exact if_pos (by simpa using hc)
  case noExpiry =>
    refine fun port cls hp => answers_of (fun _ => rfl) fun s hc => ?_
    refine (if_neg (not_mgmt_number hp)).trans ?_
    dsimp only
    split
    next e he =>
      simp only [he, decide_eq_true_eq] at hc
      exact if_neg (Nat.not_le.mpr hc)
    · rfl
  case trip => exact fun port hp => answers_neg (fun _ => rfl) fun s _ => not_mgmt_number hp
  case mgmtTrip =>
    refine fun m hm => answers_of (fun _ => rfl) fun s _ => ?_
    refine (if_pos (mgmt_number hm)).trans ?_
    rw [Nat.add_sub_cancel_left]
  case mgmtHoldEnd =>
    refine fun m hm => answers_of (fun _ => rfl) fun s hc => ?_
    refine (if_pos (mgmt_number hm)).trans ?_
    simp only [Nat.add_sub_cancel_left]
    exact if_pos (by simpa [rawSec] using hc)
  case holdEnd =>
    refine fun port c hp hc8 => answers_of (fun _ => rfl) fun s hc => ?_
    simp only [Bool.and_eq_true, beq_iff_eq] at hc
    refine (if_neg (not_mgmt_number hp)).trans ?_
    have hcl := filter_range_of_shift hc8 
      (p := fun c => decide (tgetD (portSt s port).wdHoldRaw c 0 + rawMs (portCfg s port).pauseWdHold ≤ s.tim.raw)) hc.2
    have hne : ¬ 1 <<< c = 0 := by simp [Nat.one_shiftLeft]
    simp only [hc.1, hcl, List.map_cons, List.map_nil, sumN, List.foldl_cons, List.foldl_nil, Nat.zero_add, hne, if_false]
  case noHold =>
    refine fun port hp => answers_of (fun _ => rfl) fun s hc => ?_
    have h0 : (portSt s port).wdHold = 0 := by simpa using hc
    refine (if_neg (not_mgmt_number hp)).trans (if_pos ?_)
    have hnone : (List.range 8).filter (fun _ => false) = [] := rfl
    simp only [sumN, bitN, h0, Nat.zero_testBit, Bool.false_and, hnone, List.map_nil, List.foldl_nil]
  case supervision => exact fun port => answers_neg (fun _ => rfl) fun s hc h => by simp [rawSec] at h hc; simp_all
  case noSupervision => exact fun port => answers_pos (fun _ => rfl) fun s hc => by simpa [rawSec] using hc
  case pdelayReq => exact fun port => answers_pos (fun _ => rfl) fun s hc => of_decide_eq_true hc
  case pdelaySend => exact fun port => answers_pos (fun _ => rfl) fun s hc => by simpa [rawSec] using hc
  case noPdelaySend => exact fun port => answers_neg (fun _ => rfl) fun s hc h => by simp [rawSec] at h hc; simp [h] at hc
  case pdelayResp => exact fun port delay => answers_pos (fun _ => rfl) fun s hc => of_decide_eq_true hc
  case noPdelayReq => exact fun port => answers_neg (fun _ => rfl) fun s hc => of_decide_eq_true hc
  case offPdelaySend => exact fun port => answers_neg (fun _ => rfl) fun s hc h => of_decide_eq_true hc h.1
  case noPdelayResp => exact fun port delay => answers_neg (fun _ => rfl) fun s hc => of_decide_eq_true hc

end Sys2Proof.Machine
end PortRows

/-! Family other: the rows of the switch. -/
section SwitchRows
-- One proof after another: the stacks of proofs elaborated side by side exceed the memory of the check.
set_option Elab.async false
namespace Sys2Proof.Machine

open Safety

/-! ### The switch (04 R141; 05 R160 to R187) -/

/-- A frame that a port receives without a fault of its line goes on to the tables. -/
theorem frame_taken {port : Nat} {f : Frame} {s : State} (h : (hasPort s port && decide ((portSt s port).o.obj = .on ∧ f.fault = .none)) = true) :
    ¬ (!hasPort s port || decide ((portSt s port).o.obj ≠ .on)) = true ∧ ¬ f.fault ≠ .none := by
  simp only [Bool.and_eq_true, decide_eq_true_eq] at h
  simp [h]

/-- A crossing frame waits until another of its flow has come before it. -/
theorem arriving_behind {s : State} {x y : Crossing} (hxy : sameFlow x y = true) (hne : x ≠ y) (hf : s.swc.fabric = [y, x])
    (hy : ¬ (y.src = x.src ∧ y.ports = x.ports ∧ y.frame = x.frame)) : arriving s x.die x.src x.ports x.cls x.frame = none := by
  have hfind : s.swc.fabric.find? (fun z => z.die == x.die && z.src == x.src && z.ports == x.ports && z.cls == x.cls && z.frame == x.frame) = some x := by
    have hy' : (y.die == x.die && y.src == x.src && y.ports == x.ports && y.cls == x.cls && y.frame == x.frame) = false := by
      refine Bool.eq_false_iff.mpr fun h => hy ?_
      simp only [Bool.and_eq_true, beq_iff_eq] at h
      exact ⟨h.1.1.1.2, h.1.1.2, h.2⟩
    simp [hf, hy']
  have hfirst : s.swc.fabric.find? (sameFlow x) = some y := by simp [hf, hxy]
  simp only [arriving, hfind, hfirst, Option.some.injEq, Ne.symm hne, if_false]

/-- Settles O25: each row takes the branch that the clause names. -/
theorem switchRowsAct : Obligations.SwitchRowsAct := by
  refine ⟨?receive, ?staticParity, ?learnedParity, ?fault, ?notOn, ?mgmt, ?mgmtFault, ?mgmtOff, ?arrive, ?behind, ?noArrival,
    fun _ _ _ _ => rfl, ?age, ?ddAge, ?transmit, ?begin, ?goOn, ?interrupt, ?tooShort, ?resume, ?linkDown⟩
  case receive =>
    refine fun port raw sub f hp => answers_of (fun _ => rfl) fun s hc => ?_
    rw [Bool.and_eq_true] at hc
    obtain ⟨hin, hgood⟩ := hc
    refine (if_neg (not_mgmt_number hp)).trans ((if_neg (frame_taken hin).1).trans ((if_neg (frame_taken hin).2).trans ?_))
    dsimp only
    cases hg : decide (f.da / 16 = 0x0180C200000) || decide (f.da = Config.factoryMac) with
    | true => simp
    | false =>
      cases hh : staticFind (rxCounts port f (takeInner (port / 4) s)) (port / 4) f.da (classVid s port f).2 with
      | none => simp
      | some e =>
        simp only [hg, hh, Bool.not_false, Bool.true_and, Bool.not_eq_true'] at hgood
        simp only [hgood, Bool.or_false, Bool.false_eq_true, if_false]
  case staticParity =>
    refine fun port raw sub f n e hp hgroup hmac => answers_of (fun _ => rfl) fun s hc => ?_
    simp only [Bool.and_eq_true (hasPort s port && _), beq_iff_eq] at hc
    obtain ⟨hin, hh⟩ := hc
    refine (if_neg (not_mgmt_number hp)).trans ((if_neg (frame_taken hin).1).trans ((if_neg (frame_taken hin).2).trans ?_))
    simp [hgroup, hmac, hh]
  case learnedParity =>
    refine fun port raw sub f hp => answers_of (fun _ => rfl) fun s hc => ?_
    rw [Bool.and_eq_true, Bool.and_eq_true (hasPort s port && _), Option.isNone_iff_eq_none] at hc
    obtain ⟨⟨hin, hh⟩, hl⟩ := hc
    refine (if_neg (not_mgmt_number hp)).trans ((if_neg (frame_taken hin).1).trans ((if_neg (frame_taken hin).2).trans ?_))
    simp [hh, hl]
  case fault =>
    refine fun port raw sub f p hp => answers_of (fun _ => rfl) fun s hc => ?_
    simp only [Bool.and_eq_true, decide_eq_true_eq] at hc
    exact (if_neg (not_mgmt_number hp)).trans ((if_neg (by simp [hc])).trans (if_pos hc.2.2))
  case notOn =>
    refine fun port raw sub f p hp => answers_of (fun _ => rfl) fun s hc => ?_
    exact (if_neg (not_mgmt_number hp)).trans (if_pos hc)
  case mgmt =>
    refine fun m raw sub f p hm hf => answers_of (fun _ => rfl) fun s hc => (if_pos (mgmt_number hm)).trans ?_
    simp only [mgmtReceive, Nat.add_sub_cancel_left, hf]
    exact if_neg (by simpa using hc)
  case mgmtFault =>
    refine fun m raw sub f p hm hf => answers_of (fun _ => rfl) fun s hc => (if_pos (mgmt_number hm)).trans ?_
    simp only [mgmtReceive, Nat.add_sub_cancel_left, hf]
    exact if_neg (by simpa using hc)
  case mgmtOff =>
    refine fun m raw sub f p hm => answers_of (fun _ => rfl) fun s hc => (if_pos (mgmt_number hm)).trans ?_
    simp only [mgmtReceive, Nat.add_sub_cancel_left]
    exact if_pos (by rw [eq_of_beq hc]; decide)
  case arrive =>
    refine fun die src ports cls f x => answers_of (fun _ => rfl) fun s hc => ?_
    simp only [eq_of_beq hc]
  case behind =>
    rintro die src ports cls f x y hxy hne rfl rfl rfl rfl rfl
    refine answers_of (fun _ => rfl) fun s hc => ?_
    simp only [Bool.and_eq_true, decide_eq_true_eq, Bool.not_eq_true', decide_eq_false_iff_not] at hc
    simp only [arriving_behind hxy hne hc.1 hc.2, id]
  case noArrival =>
    refine fun die src ports cls f => answers_of (fun _ => rfl) fun s hc => ?_
    simp only [Option.isNone_iff_eq_none.mp hc, id]
  case age => exact fun die mac vid => answers_of (fun _ => rfl) fun s _ => by simp only [rawSec, Nat.mul_comm]; rfl
  case ddAge => exact fun die sa seq => answers_of (fun _ => rfl) fun s _ => by simp only [rawMs, Nat.mul_comm]; rfl
  case transmit =>
    refine fun port bad c l => answers_of (fun _ => rfl) fun s hc => ?_
    simp only [Bool.and_eq_true, decide_eq_true_eq, beq_iff_eq] at hc
    obtain ⟨⟨hl, ho, hb⟩, he⟩ := hc
    refine (if_neg (by simpa [hl, Classical.or_iff_not_imp_left] using ho)).trans ?_
    simp only [hb, he, List.head?_cons, Bool.false_eq_true, if_false]
  case begin =>
    refine fun port bad c l => answers_of (fun _ => rfl) fun s hc => ?_
    simp only [Bool.and_eq_true, decide_eq_true_eq, beq_iff_eq] at hc
    obtain ⟨⟨hl, ho, hb⟩, he⟩ := hc
    refine (if_neg (by simpa [hl, Classical.or_iff_not_imp_left] using ho)).trans ?_
    simp only [hb, he, List.head?_cons, if_true]
  case goOn =>
    refine fun port bad o b => answers_of (fun _ => rfl) fun s hc => ?_
    obtain ⟨hl, ho, hb, hh, hp⟩ := of_decide_eq_true hc
    refine (if_neg (by simp [hl, ho])).trans ?_
    simp only [hb, transmitBegun, hp, hh, Bool.false_and, Bool.false_eq_true, if_false]
  case interrupt =>
    refine fun port bad o b c => answers_of (fun _ => rfl) fun s hc => ?_
    simp only [Bool.and_eq_true, decide_eq_true_eq, beq_iff_eq] at hc
    obtain ⟨⟨⟨⟨hl, ho, hb, hh, hp⟩, hx⟩, he⟩, hmin, hlen⟩ := hc
    have hcan : canInterrupt s port b = true := decide_eq_true hmin
    have hnot : allSent s port b = false := decide_eq_false (by omega)
    refine (if_neg (by simp [hl, ho])).trans ?_
    simp only [hb, transmitBegun, hp, hx, Bool.and_self, if_true, he, hh, Bool.false_eq_true, if_false, hnot, hcan, interrupt]
    rw [Nat.max_eq_right (by exact hmin)]
  case tooShort =>
    refine fun port bad o b c => answers_of (fun _ => rfl) fun s hc => ?_
    simp only [Bool.and_eq_true, decide_eq_true_eq, beq_iff_eq] at hc
    obtain ⟨⟨⟨⟨hl, ho, hb, hh, hp⟩, hx⟩, he⟩, hmin, hlen⟩ := hc
    have hcan : canInterrupt s port b = false := decide_eq_false (Nat.not_le.mpr hmin)
    have hnot : allSent s port b = false := decide_eq_false (by omega)
    refine (if_neg (by simp [hl, ho])).trans ?_
    simp only [hb, transmitBegun, hp, hx, Bool.and_self, if_true, he, hh, Bool.false_eq_true, if_false, hnot, hcan, id]
  case resume =>
    refine fun port bad b => answers_of (fun _ => rfl) fun s hc => ?_
    obtain ⟨hl, ho, hb, hh, hp⟩ := of_decide_eq_true hc
    refine (if_neg (by simp [hl, ho])).trans ?_
    simp only [hb, transmitBegun, hp, hh, Bool.false_and, Bool.false_eq_true, if_false, Bool.and_self, if_true, resume]
  case linkDown => exact fun port bad b => answers_pos (fun _ => rfl) fun s hc => .inl (of_decide_eq_true hc)

end Sys2Proof.Machine
end SwitchRows

/-! Family other: the rows of sampled values. -/
section StreamRows
-- One proof after another: the stacks of proofs elaborated side by side exceed the memory of the check.
set_option Elab.async false
namespace Sys2Proof.Machine

open Safety

/-! ### Sampled values (05 R184; 06 R191 to R209; 07 R213, R232, R233) -/

section Ingest
variable {die port n : Nat} {c : SvContext} {f : SvFrame} {s : State}

/-- A frame that reaches the ingest engine has room there. -/
theorem facts_of_svReaches (h : svReaches die f s = true) :
    queuedBad s die 4 (.sv f) = false ∧ rxRoom die (takeQueued die 4 (.sv f) s) = (true, svTaken die f s) := by
  simp only [svReaches, Bool.and_eq_true, Bool.not_eq_true'] at h
  exact ⟨h.1, Prod.ext h.2 rfl⟩

/-- A frame that is named has passed the checks up to its stream's state. -/
theorem facts_of_svNamed (h : svNamed die n c f s = true) :
    svReaches die f s = true ∧ f.decodable = true ∧ svFind (svTaken die f s) f = some (n, c) ∧ strDie n = die
      ∧ (strSt (svTaken die f s) n).o.obj = .on := by
  simp only [svNamed, Bool.and_eq_true, beq_iff_eq, decide_eq_true_eq] at h
  obtain ⟨⟨⟨hr, hd⟩, hf⟩, hdie, hon⟩ := h
  exact ⟨hr, hd, hf, hdie, hon⟩

/-- A plain frame has passed those of its context too. -/
theorem facts_of_svPlain (h : svPlain die port n c f s = true) :
    svNamed die n c f s = true ∧ onPair (svTaken die f s) c.port port = true ∧ svFormatOk c f = true ∧ f.simulate = c.sim := by
  simp only [svPlain, Bool.and_eq_true, decide_eq_true_eq] at h
  obtain ⟨⟨⟨hn, hp⟩, hf⟩, hs⟩ := h
  exact ⟨hn, hp, hf, hs⟩

end Ingest

/-- Settles O26: each row takes the branch that the clause names. -/
theorem streamRowsAct : Obligations.StreamRowsAct := by
  refine ⟨?parity, ?full, ?undecodable, ?unknown, ?otherDie, ?notOn, ?otherPort, ?format, ?simulated, ?noAuth, ?badAuth, ?taken, ?due,
    ?early, ?dueDraining, ?dueOff, ?dueNone, ?started, ?startedDrain, ?notStarting, ?noStream, ?output, ?stalled, ?empty, ?noFilter⟩
  case parity => exact fun die port raw sub f => answers_pos (fun _ => rfl) fun s hc => hc
  case full =>
    refine fun die port raw sub f => answers_of (fun _ => rfl) fun s hc => ?_
    simp only [Bool.and_eq_true, Bool.not_eq_true'] at hc
    exact (if_neg (ne_true_of_eq_false hc.1)).trans (if_pos (by rw [Bool.not_eq_true']; exact hc.2))
  case undecodable =>
    refine fun die port raw sub f hf => answers_of (fun _ => rfl) fun s hc => ?_
    obtain ⟨hb, hr⟩ := facts_of_svReaches hc
    simp only [hb, hr, hf, Bool.not_true, Bool.not_false, Bool.false_eq_true, if_true, if_false]
  case unknown =>
    refine fun die port raw sub f hf => answers_of (fun _ => rfl) fun s hc => ?_
    simp only [Bool.and_eq_true, Option.isNone_iff_eq_none] at hc
    obtain ⟨hb, hr⟩ := facts_of_svReaches hc.1
    simp only [hb, hr, hf, hc.2, Bool.not_true, Bool.false_eq_true, if_false]
  case otherDie =>
    refine fun die port raw sub f n c hf hn => answers_of (fun _ => rfl) fun s hc => ?_
    simp only [Bool.and_eq_true, beq_iff_eq] at hc
    obtain ⟨hb, hr⟩ := facts_of_svReaches hc.1
    simp only [hb, hr, hf, hc.2, Bool.not_true, Bool.false_eq_true, if_false]
    exact if_pos hn
  case notOn =>
    refine fun die port raw sub f n c hf hn => answers_of (fun _ => rfl) fun s hc => ?_
    simp only [Bool.and_eq_true, beq_iff_eq, decide_eq_true_eq] at hc
    obtain ⟨hb, hr⟩ := facts_of_svReaches hc.1.1
    simp only [hb, hr, hf, hc.1.2, Bool.not_true, Bool.false_eq_true, if_false]
    exact (if_neg (not_not_intro hn)).trans (if_pos hc.2)
  case otherPort =>
    refine fun die port raw sub f n c => answers_of (fun _ => rfl) fun s hc => ?_
    simp only [Bool.and_eq_true, Bool.not_eq_true'] at hc
    obtain ⟨hreach, hd, hfind, hdie, hon⟩ := facts_of_svNamed hc.1
    obtain ⟨hb, hr⟩ := facts_of_svReaches hreach
    simp only [hb, hr, hd, hfind, Bool.not_true, Bool.false_eq_true, if_false]
    exact (if_neg (not_not_intro hdie)).trans ((if_neg (not_not_intro hon)).trans (if_pos hc.2))
  case format =>
    refine fun die port raw sub f n c => answers_of (fun _ => rfl) fun s hc => ?_
    simp only [Bool.and_eq_true, Bool.not_eq_true'] at hc
    obtain ⟨hreach, hd, hfind, hdie, hon⟩ := facts_of_svNamed hc.1.1
    obtain ⟨hb, hr⟩ := facts_of_svReaches hreach
    simp only [hb, hr, hd, hfind, Bool.not_true, Bool.false_eq_true, if_false]
    exact (if_neg (not_not_intro hdie)).trans ((if_neg (not_not_intro hon)).trans ((if_neg (ne_false_of_eq_true hc.1.2)).trans (if_pos hc.2)))
  case simulated =>
    refine fun die port raw sub f n c hsim => answers_of (fun _ => rfl) fun s hc => ?_
    simp only [Bool.and_eq_true] at hc
    obtain ⟨hreach, hd, hfind, hdie, hon⟩ := facts_of_svNamed hc.1.1
    obtain ⟨hb, hr⟩ := facts_of_svReaches hreach
    simp only [hb, hr, hd, hfind, Bool.not_true, Bool.false_eq_true, if_false]
    exact (if_neg (not_not_intro hdie)).trans ((if_neg (not_not_intro hon)).trans ((if_neg (ne_false_of_eq_true hc.1.2)).trans
      ((if_neg (ne_false_of_eq_true hc.2)).trans (if_pos hsim))))
  case noAuth =>
    refine fun die port raw sub f n c => answers_of (fun _ => rfl) fun s hc => ?_
    simp only [Bool.and_eq_true, Option.isNone_iff_eq_none] at hc
    obtain ⟨hnamed, hp, hf, hs⟩ := facts_of_svPlain hc.1
    obtain ⟨hreach, hd, hfind, hdie, hon⟩ := facts_of_svNamed hnamed
    obtain ⟨hb, hr⟩ := facts_of_svReaches hreach
    simp only [hb, hr, hd, hfind, hdie, hon, hp, hf, hs, hc.2, Bool.not_true, Bool.false_eq_true, Bool.true_eq_false, ne_eq, not_true_eq_false, if_false]
  case badAuth =>
    refine fun die port raw sub f n c t => answers_of (fun _ => rfl) fun s hc => ?_
    simp only [Bool.and_eq_true, beq_iff_eq] at hc
    obtain ⟨hnamed, hp, hf, hs⟩ := facts_of_svPlain hc.1
    obtain ⟨hreach, hd, hfind, hdie, hon⟩ := facts_of_svNamed hnamed
    obtain ⟨hb, hr⟩ := facts_of_svReaches hreach
    simp only [hb, hr, hd, hfind, hdie, hon, hp, hf, hs, hc.2, Bool.not_true, Bool.false_eq_true, Bool.true_eq_false, ne_eq, not_true_eq_false, if_false]
  case taken =>
    refine fun die port raw sub f n c t => answers_of (fun _ => rfl) fun s hc => ?_
    simp only [Bool.and_eq_true, beq_iff_eq] at hc
    obtain ⟨hnamed, hp, hf, hs⟩ := facts_of_svPlain hc.1
    obtain ⟨hreach, hd, hfind, hdie, hon⟩ := facts_of_svNamed hnamed
    obtain ⟨hb, hr⟩ := facts_of_svReaches hreach
    simp only [hb, hr, hd, hfind, hdie, hon, hp, hf, hs, hc.2, Bool.not_true, Bool.false_eq_true, Bool.true_eq_false, ne_eq, not_true_eq_false, if_false]
  case due =>
    refine fun stream c => answers_of (fun _ => rfl) fun s hc => ?_
    simp only [Bool.and_eq_true, beq_iff_eq, decide_eq_true_eq] at hc
    simp only [hc.1.1]
    exact if_pos ⟨hc.1.2, hc.2⟩
  case early =>
    refine fun stream c => answers_of (fun _ => rfl) fun s hc => ?_
    simp only [Bool.and_eq_true, beq_iff_eq, decide_eq_true_eq] at hc
    simp only [hc.1.1]
    refine (if_neg fun h => absurd hc.2 (Int.not_lt.mpr h.2)).trans ?_
    simp only [releaseNow, hc.1.2]
  case dueDraining =>
    refine fun stream c => answers_of (fun _ => rfl) fun s hc => ?_
    simp only [Bool.and_eq_true, beq_iff_eq, decide_eq_true_eq] at hc
    simp only [hc.1, hc.2, reduceCtorEq, false_and, if_false, releaseNow]
  case dueOff =>
    refine fun stream c => answers_of (fun _ => rfl) fun s hc => ?_
    simp only [Bool.and_eq_true, beq_iff_eq, decide_eq_true_eq] at hc
    obtain ⟨hctx, ho | ho⟩ := hc <;> simp only [hctx, ho, reduceCtorEq, false_and, if_false, releaseNow, id]
  case dueNone =>
    refine fun stream => answers_of (fun _ => rfl) fun s hc => ?_
    simp only [Option.isNone_iff_eq_none.mp hc, id]
  case started =>
    refine fun stream c => answers_of (fun _ => rfl) fun s hc => ?_
    simp only [Bool.and_eq_true, beq_iff_eq, decide_eq_true_eq] at hc
    simp [hc, objStarted]
  case startedDrain =>
    refine fun stream c => answers_of (fun _ => rfl) fun s hc => ?_
    simp only [Bool.and_eq_true, beq_iff_eq, decide_eq_true_eq] at hc
    simp [hc, objStarted]
  case notStarting =>
    refine fun stream c => answers_of (fun _ => rfl) fun s hc => ?_
    simp only [Bool.and_eq_true, beq_iff_eq, decide_eq_true_eq] at hc
    simp only [hc.1]
    exact if_pos hc.2
  case noStream =>
    refine fun stream => answers_of (fun _ => rfl) fun s hc => ?_
    simp only [Option.isNone_iff_eq_none.mp hc, id]
  case output =>
    refine fun stream c r l => answers_of (fun _ => rfl) fun s hc => ?_
    simp only [Bool.and_eq_true, beq_iff_eq, Bool.not_eq_true'] at hc
    simp only [hc, Bool.false_eq_true, if_false]
  case stalled =>
    refine fun stream c r l => answers_of (fun _ => rfl) fun s hc => ?_
    simp only [Bool.and_eq_true, beq_iff_eq] at hc
    simp only [hc, if_true]
  case empty =>
    refine fun stream c => answers_of (fun _ => rfl) fun s hc => ?_
    simp only [Bool.and_eq_true, beq_iff_eq, List.isEmpty_iff] at hc
    simp only [hc, id]
  case noFilter =>
    refine fun stream => answers_of (fun _ => rfl) fun s hc => ?_
    simp only [Option.isNone_iff_eq_none.mp hc, id]

end Sys2Proof.Machine
end StreamRows

/-! Family other: the rows of GOOSE, of a cycle's boundary and of the event recorder. -/
section GooseRows
-- One proof after another: the stacks of proofs elaborated side by side exceed the memory of the check.
set_option Elab.async false
namespace Sys2Proof.Machine

open Safety

/-! ### GOOSE and sampled-value publication (08 R244 to R273) -/

/-- Settles O27: each row takes the branch that the clause names. -/
theorem gooseRowsAct : Obligations.GooseRowsAct := by
  refine ⟨?parity, ?undecodable, ?unknown, ?otherDie, ?notOn, ?judged, ?started, ?notStarting, ?expired, ?notYet, ?retransmit,
    ?notDue, ?echo, ?noEcho, ?gpStarted, ?svpStarted, ?gpNotStarting, ?svpSend, ?svpOff, ?svpEarly⟩
  case parity => exact fun die port raw sub f => answers_pos (fun _ => rfl) fun s hc => hc
  case undecodable =>
    refine fun die port raw sub f hf => answers_of (fun _ => rfl) fun s hc => ?_
    exact (if_neg (by simpa using hc)).trans (if_pos (by simp [hf]))
  case unknown =>
    refine fun die port raw sub f hf => answers_of (fun _ => rfl) fun s hc => ?_
    simp only [Bool.and_eq_true, Bool.not_eq_true', Option.isNone_iff_eq_none] at hc
    simp only [hc, hf, Bool.not_true, Bool.false_eq_true, if_false]
  case otherDie =>
    refine fun die port raw sub f n c hf => answers_of (fun _ => rfl) fun s hc => ?_
    simp only [Bool.and_eq_true, Bool.not_eq_true', beq_iff_eq, decide_eq_true_eq] at hc
    simp only [hc.1, hf, Bool.not_true, Bool.false_eq_true, if_false]
    exact if_pos hc.2
  case notOn =>
    refine fun die port raw sub f n c hf => answers_of (fun _ => rfl) fun s hc => ?_
    simp only [Bool.and_eq_true, Bool.not_eq_true', beq_iff_eq, decide_eq_true_eq] at hc
    simp only [hc.1, hf, Bool.not_true, Bool.false_eq_true, if_false]
    exact (if_neg (not_not_intro hc.2.1)).trans (if_pos hc.2.2)
  case judged =>
    refine fun die port raw sub f n c vals s2 hf hset hlen hnds hsim hrev => answers_of (fun _ => rfl) fun s hc => ?_
    simp only [Bool.and_eq_true, Bool.not_eq_true', beq_iff_eq, decide_eq_true_eq] at hc
    obtain ⟨⟨⟨⟨⟨hb, hfind⟩, hdie, hon⟩, hp⟩, hvals⟩, hv⟩ := hc
    simp only [hb, hf, hfind, hdie, hon, hp, hset, hlen, hnds, hsim, hrev, hvals, hv, Bool.not_true, Bool.false_eq_true, Bool.true_eq_false,
      ne_eq, not_true_eq_false, and_self, if_true, if_false] <;> rfl
  case started =>
    refine fun ctx c => answers_of (fun _ => rfl) fun s hc => ?_
    simp only [Bool.and_eq_true, beq_iff_eq, decide_eq_true_eq] at hc
    simp [hc, objStarted]
  case notStarting =>
    refine fun ctx c => answers_of (fun _ => rfl) fun s hc => ?_
    simp only [Bool.and_eq_true, beq_iff_eq, decide_eq_true_eq] at hc
    simp only [hc.1]
    exact if_pos hc.2
  case expired =>
    refine fun ctx c d => answers_of (fun _ => rfl) fun s hc => ?_
    simp only [Bool.and_eq_true, beq_iff_eq, decide_eq_true_eq] at hc
    obtain ⟨⟨⟨hctx, hd⟩, hl⟩, hm⟩ := hc
    simp only [hctx, hd]
    exact if_pos ⟨hl.1, hl.2, hm⟩
  case notYet =>
    refine fun ctx c d => answers_of (fun _ => rfl) fun s hc => ?_
    simp only [Bool.and_eq_true, beq_iff_eq, Bool.not_eq_true'] at hc
    obtain ⟨⟨hctx, hd⟩, hm⟩ := hc
    simp only [hctx, hd]
    exact if_neg fun h => by simp [hm] at h
  case retransmit =>
    refine fun ctx c => answers_of (fun _ => rfl) fun s hc => ?_
    simp only [Bool.and_eq_true, beq_iff_eq, decide_eq_true_eq] at hc
    simp only [hc.1.1]
    exact if_pos ⟨hc.1.2.1, hc.1.2.2, hc.2⟩
  case notDue =>
    refine fun ctx c => answers_of (fun _ => rfl) fun s hc => ?_
    simp only [Bool.and_eq_true, beq_iff_eq, Bool.not_eq_true'] at hc
    simp only [hc.1]
    exact if_neg fun h => by simp [hc.2] at h
  case echo =>
    refine fun ctx c r => answers_of (fun _ => rfl) fun s hc => ?_
    simp only [Bool.and_eq_true, beq_iff_eq, decide_eq_true_eq] at hc
    simp only [hc.1]
    exact if_pos hc.2
  case noEcho =>
    refine fun ctx => answers_of (fun _ => rfl) fun s hc => ?_
    simp only [Option.isNone_iff_eq_none.mp hc, id]
    split <;> rfl
  case gpStarted =>
    refine fun ctx hctx => answers_of (fun _ => rfl) fun s hc => (if_neg (Nat.not_le.mpr hctx)).trans ?_
    simp [of_decide_eq_true hc, objStarted]
  case svpStarted =>
    refine fun n c => answers_of (fun _ => rfl) fun s hc => (if_pos (Nat.le_add_right ..)).trans ?_
    simp only [Bool.and_eq_true, beq_iff_eq, decide_eq_true_eq] at hc
    simp only [Nat.add_sub_cancel_left, hc.1]
    simp [hc.2, objStarted]
  case gpNotStarting =>
    refine fun ctx hctx => answers_of (fun _ => rfl) fun s hc => (if_neg (Nat.not_le.mpr hctx)).trans ?_
    exact if_neg (of_decide_eq_true hc)
  case svpSend =>
    refine fun stream c => answers_of (fun _ => rfl) fun s hc => ?_
    simp only [Bool.and_eq_true, beq_iff_eq, decide_eq_true_eq] at hc
    simp only [hc.1.1]
    exact if_pos ⟨hc.1.2, hc.2⟩
  case svpOff =>
    refine fun stream c => answers_of (fun _ => rfl) fun s hc => ?_
    simp only [Bool.and_eq_true, beq_iff_eq, decide_eq_true_eq] at hc
    simp only [hc, reduceCtorEq, or_self, false_and, if_false, id]
  case svpEarly =>
    refine fun stream c => answers_of (fun _ => rfl) fun s hc => ?_
    simp only [Bool.and_eq_true, beq_iff_eq, decide_eq_true_eq] at hc
    simp only [hc.1]
    exact if_neg fun h => absurd hc.2 (Int.not_lt.mpr h.2)

/-! ### A cycle's boundary (01 R53, R54; 02 R77; 07 R227 to R229; 09 R298 to R301) -/

/-- Settles O28: each row takes the branch that the clause names. -/
theorem boundaryRowsAct : Obligations.BoundaryRowsAct := by
  refine ⟨?boundary, ?noBoundary, ?force, ?noForce, ?ports, ?onePort, ?notDue, ?noEntry, ?notRunning, ?heel, ?noHeel, ?noPending,
    fun _ _ _ _ => rfl, ?qualified, ?ignored, ?disabled, ?early, ?noFall⟩
  case boundary => exact answers_neg (fun _ => rfl) fun s hc => by simpa using hc
  case noBoundary => exact answers_pos (fun _ => rfl) fun s hc => of_decide_eq_true hc
  case force => exact answers_pos (fun _ => rfl) fun s hc => of_decide_eq_true hc
  case noForce => exact answers_neg (fun _ => rfl) fun s hc => of_decide_eq_true hc
  case ports =>
    refine fun handle e => answers_of (fun _ => rfl) fun s hc => ?_
    simp only [Bool.and_eq_true, beq_iff_eq, decide_eq_true_eq] at hc
    obtain ⟨⟨he, hr, ha⟩, hd⟩ := hc
    simp only [he]
    exact if_pos ⟨hr, by simp only [portDue, ha, hd, BEq.rfl, Bool.and_self]⟩
  case onePort =>
    refine fun handle e => answers_of (fun _ => rfl) fun s hc => ?_
    simp only [Bool.and_eq_true, beq_iff_eq, decide_eq_true_eq] at hc
    obtain ⟨⟨⟨he, hr, ha⟩, hd⟩, hl⟩ := hc
    simp only [he]
    refine (if_pos ⟨hr, by simp only [portDue, ha, hd, BEq.rfl, Bool.and_self]⟩).trans ?_
    simp only [hl, foldSt, List.foldl_cons, List.foldl_nil]
  case notDue =>
    refine fun handle e => answers_of (fun _ => rfl) fun s hc => ?_
    simp only [Bool.and_eq_true, beq_iff_eq, Bool.not_eq_true'] at hc
    obtain ⟨⟨he, hl⟩, hm⟩ := hc
    simp only [he]
    exact if_neg fun h => by simp [portDue, hl, hm] at h
  case noEntry =>
    refine fun handle => answers_of (fun _ => rfl) fun s hc => ?_
    simp only [Option.isNone_iff_eq_none.mp hc, id]
  case notRunning =>
    refine fun handle => answers_of (fun _ => rfl) fun s hc => ?_
    split
    · exact if_neg fun h => of_decide_eq_true hc h.1
    · rfl
  case heel =>
    refine fun p => answers_of (fun _ => rfl) fun s hc => ?_
    simp only [Bool.and_eq_true, beq_iff_eq] at hc
    simp only [hc, if_true]
  case noHeel =>
    refine fun p => answers_of (fun _ => rfl) fun s hc => ?_
    simp only [Bool.and_eq_true, beq_iff_eq, Bool.not_eq_true'] at hc
    simp only [hc, Bool.false_eq_true, if_false, id]
  case noPending =>
    refine answers_of (fun _ => rfl) fun s hc => ?_
    simp only [Option.isNone_iff_eq_none.mp hc, id]
  case qualified =>
    refine fun raw sub => answers_of (fun _ => rfl) fun s hc => ?_
    simp only [Bool.and_eq_true, beq_iff_eq, decide_eq_true_eq, Option.isNone_iff_eq_none] at hc
    obtain ⟨⟨hf, hraw, hpin⟩, hp⟩ := hc
    simp only [hf]
    refine (if_neg (Nat.not_lt.mpr hraw)).trans ?_
    simp only [hpin, hp, ne_eq, not_true_eq_false, Option.isSome_none, Bool.false_eq_true, if_false]
  case ignored =>
    refine fun raw sub => answers_of (fun _ => rfl) fun s hc => ?_
    simp only [Bool.and_eq_true, beq_iff_eq, decide_eq_true_eq] at hc
    obtain ⟨⟨hf, hraw, hpin⟩, hp⟩ := hc
    simp only [hf]
    refine (if_neg (Nat.not_lt.mpr hraw)).trans ?_
    simp only [hpin, hp, ne_eq, not_true_eq_false, if_true, if_false]
  case disabled =>
    refine fun raw sub => answers_of (fun _ => rfl) fun s hc => ?_
    simp only [Bool.and_eq_true, beq_iff_eq, decide_eq_true_eq] at hc
    simp only [hc.1]
    exact (if_neg (Nat.not_lt.mpr hc.2.1)).trans (if_pos hc.2.2)
  case early =>
    refine fun raw sub => answers_of (fun _ => rfl) fun s hc => ?_
    simp only [Bool.and_eq_true, beq_iff_eq, decide_eq_true_eq] at hc
    simp only [hc.1]
    exact if_pos hc.2
  case noFall =>
    refine answers_of (fun _ => rfl) fun s hc => ?_
    simp only [Option.isNone_iff_eq_none.mp hc, id]

end Sys2Proof.Machine
end GooseRows

/-! Family other: the rows of the event recorder, of graphs and of operators. -/
section GraphRows
-- One proof after another: the stacks of proofs elaborated side by side exceed the memory of the check.
set_option Elab.async false
namespace Sys2Proof.Machine

open Safety

/-! ### The event recorder (16 R480 to R487, R600) -/

/-- A window that is found is of the code and the object it was looked for. -/
theorem eq_of_findWindow {s : State} {code obj : Nat} {w : Window} (h : findWindow s code obj = some w) : w.code = code ∧ w.obj = obj := by
  simpa using List.find?_some h

/-- Settles O29: each row takes the branch that the clause names. -/
theorem recorderRowsAct : Obligations.RecorderRowsAct := by
  refine ⟨?record, ?lost, ?noWrite, ?flush, ?write, ?early, ?counted, ?uncounted, ?opened, ?noWindow⟩
  case record => exact fun e => answers_neg (fun _ => rfl) fun s hc => by simpa using hc
  case lost =>
    intro e s hs
    refine ⟨_, congrArg Host.Outcome.next (if_pos hs), rfl, rfl, ?_, rfl⟩
    exact tgetD_tmod_self s.counters .evrLost 0 (· + 1)
  case noWrite => exact answers_pos (fun _ => rfl) fun s hc => hc
  case flush =>
    refine answers_of (fun _ => rfl) fun s hc => ?_
    simp only [Bool.and_eq_true, Bool.not_eq_true'] at hc
    exact (if_neg (ne_true_of_eq_false hc.1)).trans (if_pos hc.2)
  case write =>
    refine answers_of (fun _ => rfl) fun s hc => ?_
    simp only [Bool.and_eq_true, Bool.not_eq_true'] at hc
    exact (if_neg (ne_true_of_eq_false hc.1.1)).trans ((if_neg (ne_true_of_eq_false hc.1.2)).trans (every_of_due hc.2))
  case early =>
    refine answers_of (fun _ => rfl) fun s hc => ?_
    simp only [Bool.and_eq_true, Bool.not_eq_true'] at hc
    split
    · rfl
    · exact (if_neg (ne_true_of_eq_false hc.1)).trans (every_of_not_due hc.2)
  case counted =>
    refine fun code obj w e => answers_of (fun _ => rfl) fun s hc => ?_
    simp only [Bool.and_eq_true, beq_iff_eq, decide_eq_true_eq] at hc
    obtain ⟨⟨hw, ho⟩, he⟩ := hc
    obtain ⟨rfl, rfl⟩ := eq_of_findWindow hw
    simp only [hw]
    refine (if_pos (by simpa [windowOver, rawSec] using ho)).trans ?_
    simp only [closeWindow, he]
  case uncounted =>
    refine fun code obj w => answers_of (fun _ => rfl) fun s hc => ?_
    simp only [Bool.and_eq_true, beq_iff_eq, decide_eq_true_eq, Option.isNone_iff_eq_none] at hc
    obtain ⟨⟨hw, ho⟩, he⟩ := hc
    obtain ⟨rfl, rfl⟩ := eq_of_findWindow hw
    simp only [hw]
    refine (if_pos (by simpa [windowOver, rawSec] using ho)).trans ?_
    simp only [closeWindow, he]
  case opened =>
    refine fun code obj w => answers_of (fun _ => rfl) fun s hc => ?_
    simp only [Bool.and_eq_true, beq_iff_eq, decide_eq_true_eq] at hc
    simp only [hc.1]
    exact if_neg (by simpa [windowOver, rawSec] using hc.2)
  case noWindow =>
    refine fun code obj => answers_of (fun _ => rfl) fun s hc => ?_
    simp only [Option.isNone_iff_eq_none.mp hc, id]

/-! ### Graphs (01 R20 to R31, 09 R286 to R291) -/

/-- Settles O30: each row takes the branch that the clause names. -/
theorem graphRowsAct : Obligations.GraphRowsAct := by
  refine ⟨?matched, ?refused, ?emptyLane, ?noGrace, ?noEntry, ?grace, fun _ _ _ _ _ => rfl, ?good, ?lost, ?noResult, ?buffer, ?state,
    ?standby, ?checkpoint, ?noFiring⟩
  case matched =>
    refine fun stream outs rest => answers_of (fun _ => rfl) fun s hc => ?_
    simp only [Bool.and_eq_true, beq_iff_eq, Option.isNone_iff_eq_none] at hc
    simp only [hc] <;> rfl
  case refused =>
    refine fun stream outs rest r => answers_of (fun _ => rfl) fun s hc => ?_
    simp only [Bool.and_eq_true, beq_iff_eq] at hc
    simp only [hc]
  case emptyLane =>
    refine fun stream => answers_of (fun _ => rfl) fun s hc => ?_
    simp only [List.isEmpty_iff.mp hc, id]
  case noGrace =>
    refine fun node inst e => answers_of (fun _ => rfl) fun s hc => ?_
    simp only [Bool.and_eq_true, beq_iff_eq, Bool.or_eq_true, Bool.not_eq_true'] at hc
    simp only [hc.1]
    exact if_pos hc.2
  case noEntry =>
    refine fun node inst => answers_of (fun _ => rfl) fun s hc => ?_
    simp only [Option.isNone_iff_eq_none.mp hc, id]
  case grace =>
    refine fun node inst e g r => answers_of (fun _ => rfl) fun s hc => ?_
    simp only [Bool.and_eq_true, beq_iff_eq, Bool.not_eq_true'] at hc
    obtain ⟨⟨⟨he, hr⟩, hd⟩, hn⟩ := hc
    simp only [he]
    refine (if_neg (by simp [hr, hd])).trans ?_
    simp only [hn]
  case good =>
    refine fun node f outs st => answers_of (fun _ => rfl) fun s hc => ?_
    simp only [Bool.and_eq_true, beq_iff_eq, Bool.not_eq_true'] at hc
    simp only [hc, Bool.false_eq_true, if_false]
  case lost =>
    refine fun node f outs st => answers_of (fun _ => rfl) fun s hc => ?_
    simp only [Bool.and_eq_true, beq_iff_eq] at hc
    simp only [hc, if_true]
  case noResult =>
    refine fun node f => answers_of (fun _ => rfl) fun s hc => ?_
    simp only [Bool.and_eq_true, beq_iff_eq, Option.isNone_iff_eq_none] at hc
    simp only [hc, id]
  case buffer =>
    refine fun node f => answers_of (fun _ => rfl) fun s hc => ?_
    simp only [beq_iff_eq] at hc
    simp only [hc]
  case state =>
    refine fun node f => answers_of (fun _ => rfl) fun s hc => ?_
    simp only [Bool.and_eq_true, beq_iff_eq, Bool.not_eq_true'] at hc
    simp only [hc, Bool.false_eq_true, if_false]
  case standby =>
    refine fun node f => answers_of (fun _ => rfl) fun s hc => ?_
    simp only [Bool.and_eq_true, beq_iff_eq] at hc
    simp only [hc, if_true]
  case checkpoint =>
    refine fun node f => answers_of (fun _ => rfl) fun s hc => ?_
    simp only [Bool.and_eq_true, beq_iff_eq, Bool.not_eq_true'] at hc
    simp only [hc, Bool.false_eq_true, if_false]
  case noFiring =>
    refine fun node p => answers_of (fun _ => rfl) fun s hc => ?_
    simp only [Option.isNone_iff_eq_none.mp hc, id]

/-! ### Operators (10 R315 to R337) -/

/-- A row that runs the firing of its node with an operator's function fires it. -/
theorem fires_of_runFiring {i : Instr} {op : Nat} {fn : FireIn → FireOut} {node : Nat}
    (hexec : ∀ s, exec i s = .next (runFiring op fn node s)) : Fires i op fn node := by
  refine ⟨?fires, ?other, ?idle⟩
  case fires =>
    intro s f g r row hf hn hrow hop hres
    simp only [hexec, runFiring, hf, hn, hrow, hop, hres, ne_eq, not_true_eq_false, Option.isSome_none, Bool.false_eq_true, or_self, if_false]
  case other =>
    intro s f g r hf hn hno
    have hskip : r.operator ≠ op ∨ f.result.isSome = true := hno.imp_right Option.isSome_iff_ne_none.mpr
    rw [hexec]
    simp only [runFiring, hf, hn]
    cases opRow op with
    | none => rfl
    | some row => exact congrArg _ (if_pos hskip)
  case idle =>
    intro s hf
    simp only [hexec, runFiring, hf]

/-- Settles O31: the row of each operator is `runFiring` of its code and its function. -/
theorem operatorRowsFire : Obligations.OperatorRowsFire := by
  intro n
  iterate 44 refine ⟨fires_of_runFiring fun _ => rfl, ?_⟩
  exact fires_of_runFiring fun _ => rfl

end Sys2Proof.Machine
end GraphRows

/-! Family other: the rows of placement, of logic scans and of the plant loop. -/
section PlacementRows
-- One proof after another: the stacks of proofs elaborated side by side exceed the memory of the check.
set_option Elab.async false
namespace Sys2Proof.Machine

open Safety

/-! ### Placement (11 R344 to R358, 14 R450) -/

/-- The rotation of the self-tests requests the next cluster of the die. -/
theorem rotate_of_next {die k : Nat} {s : State} (h : nextBist s die = some k) :
    rotate die s = bistBegin die (clearCluster (clusterLoc k) { s with plm := { s.plm with
      bist := tset s.plm.bist die ⟨k, s.tim.raw, (clusterNodes s (clusterLoc k)).map (fun n => (n, clusterLoc k)), false⟩
      bistNext := tset s.plm.bistNext die (k % 32 + 1) } }) := by
  simp only [rotate, h]

/-- Settles O32: each row takes the branch that the clause names. -/
theorem placementRowsAct : Obligations.PlacementRowsAct := by
  refine ⟨?start, ?busy, ?complete, ?noComplete, ?warn, ?noWarn, ?level, ?overFrozen, ?overfull, ?noCluster, ?noConsolidation, ?consolidation,
    ?consolidationEarly, ?bist, ?noBist, ?bistEarly, ?skip, ?noSkip, ?pass, ?fail, ?notTesting, fun _ _ _ _ => rfl, ?emptied⟩
  case start => exact fun region => answers_neg (fun _ => rfl) fun s hc => by simpa using hc
  case busy => exact fun region => answers_pos (fun _ => rfl) fun s hc => hc
  case complete =>
    refine fun node m => answers_of (fun _ => rfl) fun s hc => ?_
    simp only [eq_of_beq hc]
  case noComplete =>
    refine fun node => answers_of (fun _ => rfl) fun s hc => ?_
    simp only [Option.isNone_iff_eq_none.mp hc, id]
  case warn =>
    refine fun node m r => answers_of (fun _ => rfl) fun s hc => ?_
    simp only [Bool.and_eq_true (_ == _), beq_iff_eq, decide_eq_true_eq, Bool.and_eq_true (_ && _)] at hc
    obtain ⟨⟨hm, hr⟩, ht⟩ := hc
    simp only [hm, hr]
    exact if_neg (Nat.not_le.mpr ht)
  case noWarn =>
    refine fun node => answers_of (fun _ => rfl) fun s hc => ?_
    simp only [Option.isNone_iff_eq_none.mp hc, id]
  case level =>
    refine fun die region cluster hr hk => answers_of (fun _ => rfl) fun s hc => ?_
    simp only [Bool.and_eq_true, Bool.not_eq_true'] at hc
    refine (if_neg (by simp only [hc.1, Bool.true_eq_false, false_or]; omega)).trans ?_
    have hno := hc.2
    simp only [overloaded] at hno
    simp only [rawSec, Nat.one_mul, hno, Bool.false_and, Bool.false_eq_true, if_false, measured]
  case overFrozen =>
    refine fun die region cluster hr hk => answers_of (fun _ => rfl) fun s hc => ?_
    simp only [Bool.and_eq_true] at hc
    obtain ⟨⟨hd, ho⟩, hf⟩ := hc
    refine (if_neg (by simp only [hd, Bool.true_eq_false, false_or]; omega)).trans ?_
    simp only [overloaded] at ho
    simp only [rawSec, Nat.one_mul, ho, hf, Bool.not_true, Bool.and_false, Bool.false_eq_true, if_true, if_false, measured]
  case overfull =>
    refine fun die region cluster hr hk => answers_of (fun _ => rfl) fun s hc => ?_
    simp only [Bool.and_eq_true, Bool.not_eq_true'] at hc
    obtain ⟨⟨hd, ho⟩, hf⟩ := hc
    refine (if_neg (by simp only [hd, Bool.true_eq_false, false_or]; omega)).trans ?_
    simp only [overloaded] at ho
    simp only [rawSec, Nat.one_mul, ho, hf, Bool.not_false, Bool.and_self, if_true, measured]
  case noCluster => exact fun die region cluster => answers_pos (fun _ => rfl) fun s hc => by simpa using hc
  case noConsolidation =>
    exact fun die => answers_pos (fun _ => rfl) fun s hc => by simpa [or_assoc] using hc
  case consolidation =>
    refine fun die => answers_of (fun _ => rfl) fun s hc => ?_
    simp only [Bool.and_eq_true, Bool.not_eq_true', decide_eq_true_eq] at hc
    obtain ⟨⟨⟨h1, hf⟩, hh⟩, hd⟩ := hc
    exact (if_neg (by simp [h1, hf, hh])).trans (every_of_due hd)
  case consolidationEarly =>
    refine fun die => answers_of (fun _ => rfl) fun s hc => ?_
    simp only [Bool.not_eq_true'] at hc
    split
    · rfl
    · exact every_of_not_due hc
  case bist =>
    refine fun die k => answers_of (fun _ => rfl) fun s hc => ?_
    simp only [Bool.and_eq_true, Bool.not_eq_true', decide_eq_true_eq, beq_iff_eq] at hc
    obtain ⟨⟨⟨⟨hp, hh⟩, hb⟩, hd⟩, hn⟩ := hc
    have hnext : nextBist (runNow 2 die s) die = some k := hn
    exact (if_neg (by simp [hp, hh, hb])).trans ((every_of_due hd).trans (rotate_of_next hnext))
  case noBist => exact fun die => answers_pos (fun _ => rfl) fun s hc => by simpa [or_assoc] using hc
  case bistEarly =>
    refine fun die => answers_of (fun _ => rfl) fun s hc => ?_
    simp only [Bool.not_eq_true'] at hc
    split
    · rfl
    · exact every_of_not_due hc
  case skip =>
    refine fun die b => answers_of (fun _ => rfl) fun s hc => ?_
    simp only [Bool.and_eq_true, Bool.not_eq_true', decide_eq_true_eq, beq_iff_eq] at hc
    obtain ⟨⟨⟨hb, ht⟩, hr⟩, hl⟩ := hc
    simp only [hb]
    exact (if_neg (by simpa [ht, rawMs] using hr)).trans (if_neg (ne_true_of_eq_false hl))
  case noSkip =>
    refine fun die => answers_of (fun _ => rfl) fun s hc => ?_
    simp only [Option.isNone_iff_eq_none.mp hc, id]
  case pass =>
    refine fun die b => answers_of (fun _ => rfl) fun s hc => ?_
    simp only [Bool.and_eq_true, beq_iff_eq] at hc
    simp only [hc, Bool.not_true, Bool.false_eq_true, if_true, if_false]
  case fail =>
    refine fun die b => answers_of (fun _ => rfl) fun s hc => ?_
    simp only [Bool.and_eq_true, beq_iff_eq] at hc
    simp only [hc, Bool.not_true, Bool.false_eq_true, if_false]
  case notTesting =>
    refine fun die ok b => answers_of (fun _ => rfl) fun s hc => ?_
    simp only [Bool.and_eq_true, beq_iff_eq] at hc
    simp only [hc, if_true, id]
  case emptied =>
    refine fun die b => answers_of (fun _ => rfl) fun s hc => ?_
    simp only [Bool.and_eq_true, Bool.not_eq_true', decide_eq_true_eq, beq_iff_eq] at hc
    obtain ⟨⟨⟨hb, ht⟩, hr⟩, hl⟩ := hc
    simp only [hb]
    exact (if_neg (by simpa [ht, rawMs] using hr)).trans (if_pos hl)

/-! ### Logic scans (12 R374 to R378, R384) -/

/-- A processor without a scan in progress runs nothing. -/
theorem runScan_of_none {p : Nat} {s : State} (h : scanOf s p = none) (steps : Nat) : runScan p steps s = s := by
  cases steps with
  | zero => rfl
  | succ n => simp only [runScan, h]

/-- A row that runs its instruction when it stands at PC. -/
theorem scans_of_execLogic {i : Instr} {op : LogicOp} {proc x : Nat} (hexec : ∀ s, exec i s = .next (execLogic op proc x s)) :
    Scans i op proc x := by
  refine ⟨?runs, ?other, ?idle⟩
  case runs =>
    intro s sc hs hf
    simp only [hexec, execLogic, hs, hf, if_true]
  case other =>
    intro s sc hs hf
    simp only [hexec, execLogic, hs, hf, if_false]
  case idle =>
    intro s hs
    simp only [hexec, execLogic, hs]

/-- Settles O33: the row of each logic instruction is `execLogic` of it. -/
theorem scanRowsAct : Obligations.ScanRowsAct := by
  refine ⟨?goOn, ?start, ?awaited, ?parity, ?sameKey, ?key, ?instructions⟩
  case goOn =>
    refine fun proc steps sc => answers_of (fun _ => rfl) fun s hc => ?_
    simp only [eq_of_beq hc, Option.isSome_some, Bool.true_or, if_true, Bool.false_eq_true, if_false]
  case start =>
    refine fun proc steps => answers_of (fun _ => rfl) fun s hc => ?_
    simp only [Bool.and_eq_true, Option.isNone_iff_eq_none, Bool.not_eq_true'] at hc
    simp only [hc, Option.isSome_none, Bool.or_self, Bool.false_eq_true, if_false]
  case awaited =>
    refine fun proc steps => answers_of (fun _ => rfl) fun s hc => ?_
    simp only [Bool.and_eq_true, Option.isNone_iff_eq_none] at hc
    simp only [hc, Option.isSome_none, Bool.or_true, Bool.false_eq_true, if_true, if_false, runScan_of_none hc.1, id]
  case parity =>
    refine fun proc steps sc => answers_of (fun _ => rfl) fun s hc => ?_
    simp only [eq_of_beq hc, Option.isSome_some, Bool.true_or, if_true]
  case sameKey => exact fun r t => answers_pos (fun _ => rfl) fun s hc => of_decide_eq_true hc
  case key => exact fun r t => answers_neg (fun _ => rfl) fun s hc => of_decide_eq_true hc
  case instructions =>
    intro p
    iterate 4 refine ⟨scans_of_execLogic fun _ => rfl, ?_⟩
    intro x
    iterate 54 refine ⟨scans_of_execLogic fun _ => rfl, ?_⟩
    exact scans_of_execLogic fun _ => rfl

/-! ### The plant loop (13 R402 to R409, R414) -/

/-- Settles O34: each row takes the branch that the clause names. -/
theorem loopRowsAct : Obligations.LoopRowsAct := by
  refine ⟨?sample, ?noInput, ?idle, ?expired, ?early, ?noSample⟩
  case sample =>
    refine fun p n i => answers_of (fun _ => rfl) fun s hc => ?_
    simp only [Bool.and_eq_true, beq_iff_eq] at hc
    simp only [hc]
  case noInput =>
    refine fun p n => answers_of (fun _ => rfl) fun s hc => ?_
    simp only [Bool.and_eq_true, beq_iff_eq, Option.isNone_iff_eq_none] at hc
    simp only [hc, id]
  case idle =>
    refine answers_of (fun _ => rfl) fun s hc => ?_
    simp only [Option.isNone_iff_eq_none.mp hc]
  case expired =>
    refine fun p n => answers_of (fun _ => rfl) fun s hc => ?_
    simp only [Bool.and_eq_true, beq_iff_eq, Option.isNone_iff_eq_none, decide_eq_true_eq] at hc
    obtain ⟨⟨hd, hi⟩, ht⟩ := hc
    simp only [hd]
    exact if_neg (by simpa [hi] using ht)
  case early =>
    refine fun p n => answers_of (fun _ => rfl) fun s hc => ?_
    simp only [Bool.and_eq_true, beq_iff_eq, decide_eq_true_eq] at hc
    simp only [hc.1]
    exact if_pos (.inr hc.2)
  case noSample =>
    refine answers_of (fun _ => rfl) fun s hc => ?_
    simp only [Option.isNone_iff_eq_none.mp hc, id]

end Sys2Proof.Machine
end PlacementRows

/-! Family other: the rows of the pair and of the LEASH link. -/
section PairRows
-- One proof after another: the stacks of proofs elaborated side by side exceed the memory of the check.
set_option Elab.async false
namespace Sys2Proof.Machine

open Safety

/-! ### The pair (14 R418 to R449, R452 to R454) -/

/-- Settles O35: each row takes the branch that the clause names. -/
theorem pairRowsAct : Obligations.PairRowsAct := by
  refine ⟨?report, ?reportEarly, ?noReport, ?badCrc, ?token, ?unauthentic, ?stale, ?lease, ?leaseEarly, ?noLease, ?heartbeat, ?noHeartbeat,
    ?sync, ?noSync, ?lag, ?lagEarly, ?relinquish, ?relinquishEarly, ?noRelinquish, ?mirror, ?noMirror⟩
  case report =>
    refine answers_of (fun _ => rfl) fun s hc => ?_
    rw [Bool.and_eq_true] at hc
    exact (if_pos hc.1).trans (every_of_due hc.2)
  case reportEarly =>
    refine answers_of (fun _ => rfl) fun s hc => ?_
    simp only [Bool.not_eq_true'] at hc
    split
    · exact every_of_not_due hc
    · rfl
  case noReport => exact answers_neg (fun _ => rfl) fun s hc => by simpa using hc
  case badCrc => exact fun m hv hcrc => answers_pos (fun _ => rfl) fun s _ => ⟨hv, hcrc⟩
  case token =>
    refine fun m hv => answers_of (fun _ => rfl) fun s hc => ?_
    simp only [Bool.and_eq_true, Bool.not_eq_true', decide_eq_true_eq] at hc
    obtain ⟨⟨hs, ha⟩, he⟩ := hc
    simp only [hv, hs, ha, Nat.not_lt.mpr he, Bool.false_eq_true, false_and, Bool.not_true, if_false]
  case unauthentic =>
    refine fun m hv => answers_of (fun _ => rfl) fun s hc => ?_
    simp only [Bool.and_eq_true, Bool.not_eq_true'] at hc
    simp only [hv, hc, Bool.false_eq_true, false_and, Bool.not_false, if_true, if_false]
  case stale =>
    refine fun m hv => answers_of (fun _ => rfl) fun s hc => ?_
    simp only [Bool.and_eq_true, Bool.not_eq_true', decide_eq_true_eq] at hc
    obtain ⟨⟨hs, ha⟩, he⟩ := hc
    simp only [hv, hs, ha, he, Bool.false_eq_true, false_and, Bool.not_true, if_true, if_false]
  case lease =>
    refine fun e => answers_of (fun _ => rfl) fun s hc => ?_
    simp only [Bool.and_eq_true, Bool.not_eq_true', beq_iff_eq, decide_eq_true_eq] at hc
    obtain ⟨⟨⟨hs, ha⟩, hl⟩, ht⟩ := hc
    simp only [hs, ha, hl, ht, Bool.not_true, Bool.or_self, Bool.false_eq_true, if_true, if_false]
  case leaseEarly =>
    refine fun e => answers_of (fun _ => rfl) fun s hc => ?_
    simp only [Bool.and_eq_true, beq_iff_eq, decide_eq_true_eq] at hc
    simp only [hc.1, Nat.not_le.mpr hc.2, if_false, ite_self, id]
  case noLease => exact answers_pos (fun _ => rfl) fun s hc => hc
  case heartbeat => exact answers_pos (fun _ => rfl) fun s hc => by simpa [rawSec, unitsPerSec] using hc
  case noHeartbeat =>
    exact answers_neg (fun _ => rfl) fun s hc h => (of_decide_eq_true hc).elim (fun hn => hn h.1) (fun hlt => absurd h.2 (Nat.not_le.mpr hlt))
  case sync => exact answers_pos (fun _ => rfl) fun s hc => of_decide_eq_true hc
  case noSync => exact answers_neg (fun _ => rfl) fun s hc h => of_decide_eq_true hc h.1
  case lag =>
    refine fun key f => answers_of (fun _ => rfl) fun s hc => ?_
    simp only [Bool.and_eq_true, beq_iff_eq, decide_eq_true_eq] at hc
    simp only [hc.1]
    exact if_neg (Nat.not_lt.mpr hc.2)
  case lagEarly =>
    refine fun key f => answers_of (fun _ => rfl) fun s hc => ?_
    simp only [Bool.and_eq_true, beq_iff_eq, decide_eq_true_eq] at hc
    simp only [hc.1]
    exact if_pos hc.2
  case relinquish =>
    refine fun b => answers_of (fun _ => rfl) fun s hc => ?_
    simp only [Bool.and_eq_true, beq_iff_eq, decide_eq_true_eq] at hc
    simp only [hc.1]
    exact if_neg (Nat.not_lt.mpr hc.2)
  case relinquishEarly =>
    refine fun b => answers_of (fun _ => rfl) fun s hc => ?_
    simp only [Bool.and_eq_true, beq_iff_eq, decide_eq_true_eq] at hc
    simp only [hc.1]
    exact if_pos hc.2
  case noRelinquish =>
    refine answers_of (fun _ => rfl) fun s hc => ?_
    simp only [Option.isNone_iff_eq_none.mp hc, id]
  case mirror =>
    refine fun e => answers_of (fun _ => rfl) fun s hc => ?_
    rw [Bool.and_eq_true] at hc
    simp only [eq_of_beq hc.1, hc.2, if_true]
  case noMirror =>
    refine answers_of (fun _ => rfl) fun s hc => ?_
    simp only [Option.isNone_iff_eq_none.mp hc, id]

/-! ### A frame of a LEASH lane (14 R427 to R436) -/

section Lane
variable {l : LeashHdr} {s : State} {f : State → State}

/-- A tagged frame passes, and its lane has no tag failure in a row any more. -/
theorem leashTag_of_tagged (h : leashTagged l s = true) : leashTag l f s = f (leashPassed l s) := by
  simp only [leashTagged, Bool.and_eq_true, Bool.not_eq_true'] at h
  obtain ⟨⟨⟨hup, hs⟩, ht⟩, hk⟩ := h
  exact (if_neg (by simp [hup, hs])).trans (if_neg (by simp [ht, hk]))

theorem leashTag_of_untagged (h : ((laneSt s l.lane).up && !standalone s && !(l.tagOk && leashKey s)) = true) :
    leashTag l f s = tagFailed l.lane s := by
  simp only [Bool.and_eq_true, Bool.not_eq_true' (standalone s)] at h
  obtain ⟨⟨hup, hs⟩, hk⟩ := h
  exact (if_neg (by simp [hup, hs])).trans (if_pos hk)

theorem leashTag_of_down (h : (!(laneSt s l.lane).up || standalone s) = true) : leashTag l f s = s := if_pos h

/-- Passing a frame leaves the rest of its lane. -/
theorem laneSt_leashPassed : laneSt (leashPassed l s) l.lane = { laneSt s l.lane with tagFails := 0 } := tgetD_tset_self ..

theorem leashTagged_of_next (h : leashNext l s = true) : leashTagged l s = true := by
  rw [leashNext, Bool.and_eq_true] at h
  exact h.1

theorem leashNext_of_good (h : leashGood l s = true) : leashNext l s = true := by
  rw [leashGood, Bool.and_eq_true] at h
  exact h.1

/-- The next frame of its lane is taken from it, once (14 R430). -/
theorem leashRx_of_next (h : leashNext l s = true) (ep : Bool) : leashRx l ep f s = if delivered (leashPassed l s) l then leashTaken l s
    else if ep && decide (l.epoch < s.pair.epoch) then bump (.pair 8) (leashTaken l s) else f (leashTaken l s) := by
  have hseq : ¬ l.seq ≠ (laneSt (leashPassed l s) l.lane).rxSeq := by
    rw [leashNext, Bool.and_eq_true, beq_iff_eq] at h
    rw [laneSt_leashPassed]
    exact not_not_intro h.2
  exact (leashTag_of_tagged (leashTagged_of_next h)).trans (if_neg hseq)

/-- A good frame of no older epoch takes effect. -/
theorem leashRx_of_good (h : leashGood l s = true) {ep : Bool} (he : ep = false ∨ s.pair.epoch ≤ l.epoch) :
    leashRx l ep f s = f (leashTaken l s) := by
  have hd : ¬ delivered (leashPassed l s) l = true := by
    rw [leashGood, Bool.and_eq_true, Bool.not_eq_true'] at h
    exact ne_true_of_eq_false h.2
  have hep : ¬ (ep && decide (l.epoch < s.pair.epoch)) = true := by
    rcases he with he | he
    · simp [he]
    · simp [Nat.not_lt.mpr he]
  exact (leashRx_of_next (leashNext_of_good h) ep).trans ((if_neg hd).trans (if_neg hep))

/-- One of an older epoch is counted (14 R423). -/
theorem leashRx_of_outdated (h : leashGood l s = true) (he : l.epoch < s.pair.epoch) :
    leashRx l true f s = bump (.pair 8) (leashTaken l s) := by
  have hd : ¬ delivered (leashPassed l s) l = true := by
    rw [leashGood, Bool.and_eq_true, Bool.not_eq_true'] at h
    exact ne_true_of_eq_false h.2
  exact (leashRx_of_next (leashNext_of_good h) true).trans ((if_neg hd).trans (if_pos (by simp [he])))

/-- One that another lane delivered is taken from this lane alone. -/
theorem leashRx_of_delivered (h : leashNext l s = true) (hd : delivered (leashPassed l s) l = true) (ep : Bool) :
    leashRx l ep f s = leashTaken l s := (leashRx_of_next h ep).trans (if_pos hd)

/-- A frame out of sequence is answered by a NAK. -/
theorem leashRx_of_seq (h : leashTagged l s = true) (hseq : l.seq ≠ (laneSt s l.lane).rxSeq) (ep : Bool) :
    leashRx l ep f s = laneControl l.lane (.nak (laneSt s l.lane).rxSeq) (leashPassed l s) := by
  refine (leashTag_of_tagged h).trans ?_
  simp only [laneSt_leashPassed]
  exact if_pos hseq

end Lane

/-! ### What the messages do -/

/-- A module that is not acting ACTIVE keeps its state at a HEAD. -/
theorem headRows_of_standby {s : State} (h : s.pair.state = .standby) : headRows s = s := by
  simp [headRows, actsActive, h]

/-- One that relinquishes goes over to STANDBY at a HEAD of the partner's epoch (14 R453). -/
theorem headRows_of_relinquish {s : State} (h : s.pair.state = .active) (hs : standalone s = false) (ho : s.pair.ownEpoch ≠ s.pair.epoch)
    (hr : s.pair.relinquish.isSome = true) : headRows s = setPair .standby 9 s := by
  simp [headRows, actsActive, h, hs, ho, hr]

/-- STANDBY is reached whatever is completed on the way. -/
theorem setPair_standby_state {s : State} (h : s.pair.state ≠ .standby) (cause : Nat) : (setPair .standby cause s).pair.state = .standby := by
  have hp : (pairTo none .standby cause s).pair.state = .standby := by
    unfold pairTo
    rw [recordEvent_eq]
  unfold setPair setPairAt
  rw [if_neg h]
  simp only [shadowOn, reduceCtorEq, if_false]
  split
  · split
    · rw [completeCmd_eq]
      exact hp
    · exact hp
  · exact hp

theorem mirrorOf_modMirror (c : Nat) (f : Mirror → Mirror) (s : State) : mirrorOf (modMirror c f s) c = f (mirrorOf s c) := tgetD_tset_self ..

/-- A mirror that is not whole stays open. -/
theorem takeMirror_of_not_whole {c : Nat} {f : Mirror → Mirror} {s : State} (h : mirrorWhole (f (mirrorOf s c)) = false) :
    takeMirror c f s = modMirror c f s := by
  simp [takeMirror, mirrorOf_modMirror, h]

/-- One that is whole ends, and is the last of the cycles mirrored. -/
theorem takeMirror_of_whole {c : Nat} {f : Mirror → Mirror} {s : State} (he : (f (mirrorOf s c)).ended = false)
    (h : mirrorWhole (f (mirrorOf s c)) = true) (hl : s.pair.mirrorLost = false) :
    takeMirror c f s = modMirror c (fun m => { m with ended := true }) { modMirror c f s with
      pair := { (modMirror c f s).pair with lastMirrorCycle := max (modMirror c f s).pair.lastMirrorCycle c } } := by
  have hlost : ¬ ((modMirror c (fun m => { m with ended := true }) { modMirror c f s with
      pair := { (modMirror c f s).pair with lastMirrorCycle := max (modMirror c f s).pair.lastMirrorCycle c } }).pair.state = .standby
      ∧ (modMirror c (fun m => { m with ended := true }) { modMirror c f s with
      pair := { (modMirror c f s).pair with lastMirrorCycle := max (modMirror c f s).pair.lastMirrorCycle c } }).pair.mirrorLost = true) :=
    fun hc => Bool.false_ne_true (hl.symm.trans hc.2)
  refine (if_neg ?_).trans (if_neg hlost)
  simp [mirrorOf_modMirror, he, h]

/-- Settles O36: each row passes its frame through `leashTag` or `leashRx`, and its message takes the branch that the clause names. -/
theorem leashRowsAct : Obligations.LeashRowsAct := by
  refine ⟨?laneUp, ?laneAlready, ?laneDown, ?noLane, ?ack, ?ackUnknown, ?nak, ?nakStops, ?ackSend, ?noAckSend, ?heartbeatSend, ?wraps,
    ?noHeartbeat, ?heartbeat, ?heartbeatSolo, ?head, ?admission, ?page, ?cdigest, ?whole, ?miscounted, ?fdigest, ?fdigestEarly, ?coef,
    ?pageReq, ?pageResp, ?syncActive, ?syncDone, ?untagged, ?seq, ?outdated, ?down, ?ackUntagged, ?nakUntagged, ?ackDown, ?nakDown,
    ?moved, ?headRelinquish⟩
  case laneUp =>
    refine fun lane => answers_of (fun _ => rfl) fun s hc => ?_
    simp only [Bool.and_eq_true, Bool.not_eq_true', decide_eq_true_eq] at hc
    obtain ⟨⟨⟨hl, hs⟩, hu⟩, ht⟩ := hc
    exact (if_neg (by simp [hs, Nat.not_le.mpr hl])).trans ((if_pos rfl).trans (if_neg (by simp [hu, ht])))
  case laneAlready =>
    refine fun lane => answers_of (fun _ => rfl) fun s hc => ?_
    dsimp only
    split
    · rfl
    · exact (if_pos rfl).trans (if_pos (by simpa using hc))
  case laneDown =>
    refine fun lane => answers_of (fun _ => rfl) fun s hc => ?_
    simp only [Bool.and_eq_true, Bool.not_eq_true', decide_eq_true_eq] at hc
    exact (if_neg (by simp [hc.2, Nat.not_le.mpr hc.1])).trans (if_neg Bool.false_ne_true)
  case noLane => exact fun lane up => answers_pos (fun _ => rfl) fun s hc => by simpa using hc
  case ack =>
    refine fun l seq f rest => answers_of (fun _ => rfl) fun s hc => ?_
    simp only [Bool.and_eq_true, beq_iff_eq] at hc
    refine (leashTag_of_tagged hc.1).trans ?_
    have hf : framesFrom { laneSt s l.lane with tagFails := 0 } seq = f :: rest := hc.2
    simp only [laneSt_leashPassed, hf]
  case ackUnknown =>
    refine fun l seq => answers_of (fun _ => rfl) fun s hc => ?_
    simp only [Bool.and_eq_true, List.isEmpty_iff] at hc
    refine (leashTag_of_tagged hc.1).trans ?_
    have hf : framesFrom { laneSt s l.lane with tagFails := 0 } seq = [] := hc.2
    simp only [laneSt_leashPassed, hf]
  case nak =>
    refine fun l seq => answers_of (fun _ => rfl) fun s hc => ?_
    simp only [Bool.and_eq_true, Bool.not_eq_true', decide_eq_true_eq] at hc
    refine (leashTag_of_tagged hc.1.1).trans ?_
    simp only [laneSt_leashPassed]
    exact (if_neg (ne_true_of_eq_false hc.1.2)).trans (if_neg (Nat.not_le.mpr hc.2))
  case nakStops =>
    refine fun l seq => answers_of (fun _ => rfl) fun s hc => ?_
    simp only [Bool.and_eq_true, Bool.not_eq_true', decide_eq_true_eq] at hc
    refine (leashTag_of_tagged hc.1.1).trans ?_
    simp only [laneSt_leashPassed]
    exact (if_neg (ne_true_of_eq_false hc.1.2)).trans (if_pos hc.2)
  case ackSend =>
    refine fun lane => answers_of (fun _ => rfl) fun s hc => (if_pos hc).trans ?_
    have hseq : ((laneSt s lane).rxSeq + 2 ^ 24 - 1) % 2 ^ 24 = ((laneSt s lane).rxSeq + 16777215) % 16777216 := by omega
    rw [hseq]
  case noAckSend => exact fun lane => answers_neg (fun _ => rfl) fun s hc => by rw [Bool.not_eq_true, ← Bool.not_eq_true']; exact hc
  case heartbeatSend =>
    refine fun lane => answers_of (fun _ => rfl) fun s hc => ?_
    rw [Bool.and_eq_true, Bool.not_eq_true'] at hc
    exact (if_neg (by rw [Bool.not_eq_true', Bool.not_eq_false]; exact hc.1)).trans (if_neg (ne_true_of_eq_false hc.2))
  case wraps =>
    refine fun lane => answers_of (fun _ => rfl) fun s hc => ?_
    rw [Bool.and_eq_true] at hc
    exact (if_neg (by rw [Bool.not_eq_true', Bool.not_eq_false]; exact hc.1)).trans (if_pos hc.2)
  case noHeartbeat => exact fun lane => answers_pos (fun _ => rfl) fun s hc => hc
  case heartbeat =>
    refine fun l state epoch => answers_of (fun _ => rfl) fun s hc => ?_
    simp only [Bool.and_eq_true, decide_eq_true_eq] at hc
    refine (leashRx_of_good hc.1 (.inl rfl)).trans ?_
    have hst : (leashTaken l s).pair.state = .active := hc.2.1
    simp only [hst, hc.2.2, if_true]
  case heartbeatSolo =>
    refine fun l state epoch => answers_of (fun _ => rfl) fun s hc => ?_
    simp only [Bool.and_eq_true, decide_eq_true_eq] at hc
    obtain ⟨hg, ha, h1, h2⟩ := hc
    refine (leashRx_of_good hg (.inl rfl)).trans ?_
    have hst : (leashTaken l s).pair.state = .active := ha
    simp only [hst, h1, h2, or_self, if_false]
  case head =>
    refine fun l cycle gen dts => answers_of (fun _ => rfl) fun s hc => ?_
    simp only [Bool.and_eq_true, decide_eq_true_eq] at hc
    obtain ⟨hg, he, hst⟩ := hc
    refine (leashRx_of_good hg (.inr (Nat.le_of_eq he))).trans ?_
    have hst' : (raiseEpoch l.epoch (leashTaken l s)).pair.state = .standby := hst
    simp only [headRows_of_standby hst']
    exact if_pos (decide_eq_true (.inr hst'))
  case admission =>
    refine fun l cycle instants => answers_of (fun _ => rfl) fun s hc => ?_
    simp only [Bool.and_eq_true, decide_eq_true_eq] at hc
    exact (leashRx_of_good hc.1.1 (.inr hc.1.2)).trans (if_pos hc.2)
  case page =>
    refine fun l cycle page data => answers_of (fun _ => rfl) fun s hc => ?_
    simp only [Bool.and_eq_true, decide_eq_true_eq] at hc
    obtain ⟨hg, he, hst⟩ := hc
    have hst' : (leashTaken l s).pair.state = .standby := hst
    exact (leashRx_of_good hg (.inr he)).trans ((if_neg (by simp [follows, hst'])).trans (if_neg (by simp [hst'])))
  case cdigest =>
    refine fun l cycle digests => answers_of (fun _ => rfl) fun s hc => ?_
    simp only [Bool.and_eq_true, decide_eq_true_eq] at hc
    exact (leashRx_of_good hc.1.1 (.inr hc.1.2)).trans (if_pos hc.2)
  case whole =>
    refine fun l cycle admits pages cdigests crc => answers_of (fun _ => rfl) fun s hc => ?_
    simp only [Bool.and_eq_true, Bool.not_eq_true', decide_eq_true_eq, beq_iff_eq] at hc
    obtain ⟨⟨⟨⟨⟨hg, he, hst⟩, hlost⟩, hend⟩, hcount⟩, hcrc⟩ := hc
    refine (leashRx_of_good hg (.inr he)).trans ((if_pos (decide_eq_true (.inr hst))).trans (takeMirror_of_whole hend ?_ hlost))
    have hcount' : (mirrorOf (leashTaken l s) cycle).counts = (admits, pages, cdigests) := hcount
    simp only [mirrorWhole, hcount', BEq.rfl, Bool.true_and, beq_iff_eq]
    exact hcrc
  case miscounted =>
    refine fun l cycle admits pages cdigests crc => answers_of (fun _ => rfl) fun s hc => ?_
    simp only [Bool.and_eq_true, decide_eq_true_eq, bne_iff_ne] at hc
    obtain ⟨⟨⟨hg, he⟩, hf⟩, hcount⟩ := hc
    refine (leashRx_of_good hg (.inr he)).trans ((if_pos hf).trans (takeMirror_of_not_whole ?_))
    have hcount' : ((admits, pages, cdigests) == (mirrorOf (leashTaken l s) cycle).counts) = false := beq_false_of_ne (Ne.symm hcount)
    simp only [mirrorWhole, hcount', Bool.false_and]
  case fdigest =>
    refine fun l key prpSeq crc f => answers_of (fun _ => rfl) fun s hc => ?_
    simp only [Bool.and_eq_true, decide_eq_true_eq] at hc
    obtain ⟨⟨hg, he, hst⟩, hf⟩ := hc
    refine (leashRx_of_good hg (.inr he)).trans ((if_neg (not_not_intro hst)).trans ?_)
    have hf' : (leashTaken l s).pair.shadow.find? (fun f => f.key == key) = some f := eq_of_beq hf
    simp only [hf']
  case fdigestEarly =>
    refine fun l key prpSeq crc => answers_of (fun _ => rfl) fun s hc => ?_
    simp only [Bool.and_eq_true, decide_eq_true_eq] at hc
    obtain ⟨⟨hg, he, hst⟩, hf⟩ := hc
    refine (leashRx_of_good hg (.inr he)).trans ((if_neg (not_not_intro hst)).trans ?_)
    have hf' : (leashTaken l s).pair.shadow.find? (fun f => f.key == key) = none := Option.isNone_iff_eq_none.mp hf
    simp only [hf']
  case coef =>
    refine fun l index value effect => answers_of (fun _ => rfl) fun s hc => ?_
    simp only [Bool.and_eq_true, decide_eq_true_eq] at hc
    obtain ⟨⟨hg, he, hi⟩, hf⟩ := hc
    refine (leashRx_of_good hg (.inr he)).trans (if_neg ?_)
    have hf' : follows (leashTaken l s) = true := hf
    simp [hf', Nat.not_lt.mpr hi]
  case pageReq => exact fun l page => answers_of (fun _ => rfl) fun s hc => leashRx_of_good hc (.inl rfl)
  case pageResp => exact fun l page pages => answers_of (fun _ => rfl) fun s hc => leashRx_of_good hc (.inl rfl)
  case syncActive =>
    refine fun l partNumber brev => answers_of (fun _ => rfl) fun s hc => ?_
    simp only [Bool.and_eq_true, decide_eq_true_eq] at hc
    refine (leashRx_of_good hc.1 (.inl rfl)).trans ?_
    have hst : (leashTaken l s).pair.state = .active := hc.2
    simp only [hst, if_true]
  case syncDone =>
    refine fun l partNumber brev => answers_of (fun _ => rfl) fun s hc => ?_
    simp only [Bool.and_eq_true, Bool.not_eq_true', decide_eq_true_eq] at hc
    refine (leashRx_of_good hc.1.1 (.inl rfl)).trans ?_
    have hst : (leashTaken l s).pair.state = .syncing := hc.1.2
    have hd : (leashTaken l s).pair.syncDone = false := hc.2
    simp only [hst, hd, and_self, if_true]
  case untagged => exact fun l cycle instants => answers_of (fun _ => rfl) fun s hc => leashTag_of_untagged hc
  case seq =>
    refine fun l cycle instants => answers_of (fun _ => rfl) fun s hc => ?_
    simp only [Bool.and_eq_true, decide_eq_true_eq] at hc
    exact leashRx_of_seq hc.1 hc.2 true
  case outdated =>
    refine fun l cycle instants => answers_of (fun _ => rfl) fun s hc => ?_
    simp only [Bool.and_eq_true, decide_eq_true_eq] at hc
    exact leashRx_of_outdated hc.1 hc.2
  case down => exact fun l cycle instants => answers_of (fun _ => rfl) fun s hc => leashTag_of_down hc
  case ackUntagged => exact fun l seq => answers_of (fun _ => rfl) fun s hc => leashTag_of_untagged hc
  case nakUntagged => exact fun l seq => answers_of (fun _ => rfl) fun s hc => leashTag_of_untagged hc
  case ackDown => exact fun l seq => answers_of (fun _ => rfl) fun s hc => leashTag_of_down hc
  case nakDown => exact fun l seq => answers_of (fun _ => rfl) fun s hc => leashTag_of_down hc
  case moved =>
    refine fun l cycle instants => answers_of (fun _ => rfl) fun s hc => ?_
    rw [Bool.and_eq_true] at hc
    exact leashRx_of_delivered hc.1 hc.2 true
  case headRelinquish =>
    refine fun l cycle gen dts b => answers_of (fun _ => rfl) fun s hc => ?_
    simp only [Bool.and_eq_true, decide_eq_true_eq, beq_iff_eq] at hc
    obtain ⟨⟨hg, he, hst, ho⟩, hr⟩ := hc
    refine (leashRx_of_good hg (.inr (Nat.le_of_lt he))).trans ?_
    have hst' : (raiseEpoch l.epoch (leashTaken l s)).pair.state = .active := hst
    have hs' : standalone (raiseEpoch l.epoch (leashTaken l s)) = false := by
      have htag := leashTagged_of_next (leashNext_of_good hg)
      simp only [leashTagged, Bool.and_eq_true, Bool.not_eq_true'] at htag
      exact htag.1.1.2
    have ho' : (raiseEpoch l.epoch (leashTaken l s)).pair.ownEpoch ≠ (raiseEpoch l.epoch (leashTaken l s)).pair.epoch := by
      show s.pair.ownEpoch ≠ max s.pair.epoch l.epoch
      omega
    have hr' : (raiseEpoch l.epoch (leashTaken l s)).pair.relinquish.isSome = true := Option.isSome_iff_exists.mpr ⟨b, hr⟩
    simp only [headRows_of_relinquish hst' hs' ho' hr']
    exact if_pos (decide_eq_true (.inr (setPair_standby_state (by simp [hst']) 9)))

end Sys2Proof.Machine
end PairRows

/-! Family other: the rows of self-tests, of functions and of keys. -/
section SelfTestRows
-- One proof after another: the stacks of proofs elaborated side by side exceed the memory of the check.
set_option Elab.async false
namespace Sys2Proof.Machine

open Safety

/-! ### Self-tests (07 R235, 14 R450) -/

section Loopback
variable {lane : Nat} {s : State}

/-- The pattern goes out on a lane without a test under way. -/
theorem loopDue_of_idle (hu : (laneSt s lane).up = true) (hl : (laneSt s lane).loopSent = false) :
    loopDue lane s = laneControl lane (.loopback false loopPattern) (setLane lane { laneSt s lane with loopSent := true } s) := by
  simp only [loopDue, hl, hu, Bool.false_eq_true, Bool.not_true, if_false]

/-- A failed test counts, and the third one in a row takes the lane down. -/
theorem loopback_failed : loopback lane false s =
    if 3 ≤ (laneSt s lane).loopFail + 1 then laneDown lane 2 (setLane lane { laneSt s lane with loopFail := (laneSt s lane).loopFail + 1, loopSent := false }
        { s with pair := { s.pair with loopFails := s.tim.raw :: s.pair.loopFails.filter (fun r => decide (s.tim.raw ≤ r + 30000000000)) } })
    else setLane lane { laneSt s lane with loopFail := (laneSt s lane).loopFail + 1, loopSent := false }
        { s with pair := { s.pair with loopFails := s.tim.raw :: s.pair.loopFails.filter (fun r => decide (s.tim.raw ≤ r + 30000000000)) } } := by
  rfl

end Loopback

/-- A golden vector that fails is recorded, counted and flagged. -/
theorem goldenFails_eq (array vector : Nat) (s : State) :
    (fun s => if false = true then s else goldenFails array vector s) s = setFlag 3 true
      { recordEvent (evRegion 0x0504 (array / 4 + 256 * (array % 4)) vector 0 array array) (bump (.fltGoldenFail array) s) with
        pair := { (recordEvent (evRegion 0x0504 (array / 4 + 256 * (array % 4)) vector 0 array array) (bump (.fltGoldenFail array) s)).pair with
          goldenFail := s.pair.goldenFail + 1 } } := by
  have hpair : ∀ e, (recordEvent e (bump (.fltGoldenFail array) s)).pair = s.pair := fun e => by
    rw [recordEvent_eq]
    rfl
  simp only [Bool.false_eq_true, if_false, goldenFails, hpair]

/-- Settles O37: each row takes the branch that the clause names. -/
theorem selfTestRowsAct : Obligations.SelfTestRowsAct := by
  refine ⟨?due, ?overdue, ?echo, ?early, ?noLane, ?scrubGood, ?scrubBad, ?noScrub, ?eyeGood, ?eyeLow, ?noEye, ?katGood, ?katBad, ?katEarly,
    ?golden, ?goldenBad, ?noGolden, ?noKat, ?request, ?wrongEcho, ?wrongEchoDown, ?idleEcho⟩
  case due =>
    refine fun l => answers_of (fun _ => rfl) fun s hc => ?_
    simp only [Bool.and_eq_true, Bool.not_eq_true'] at hc
    obtain ⟨⟨⟨ht, hu⟩, hd⟩, hl⟩ := hc
    exact (if_neg (by simp [ht, hu])).trans ((every_of_due hd).trans (loopDue_of_idle hu hl))
  case overdue =>
    refine fun l => answers_of (fun _ => rfl) fun s hc => ?_
    simp only [Bool.and_eq_true] at hc
    obtain ⟨⟨⟨ht, hu⟩, hd⟩, hl⟩ := hc
    exact (if_neg (by simp [ht, hu])).trans (every_of_due hd)
  case echo =>
    refine fun l => answers_of (fun _ => rfl) fun s hc => ?_
    rw [Bool.and_eq_true] at hc
    refine (leashTag_of_tagged hc.1).trans ?_
    have hl : (laneSt (leashPassed l s) l.lane).loopSent = true := by rw [laneSt_leashPassed]; exact hc.2
    simp only [hl, if_true, BEq.rfl, loopback]
  case early =>
    refine fun l => answers_of (fun _ => rfl) fun s hc => ?_
    simp only [Bool.not_eq_true'] at hc
    dsimp only
    split
    · rfl
    · exact every_of_not_due hc
  case noLane => exact fun l => answers_pos (fun _ => rfl) fun s hc => by simpa using hc
  case scrubGood =>
    refine fun die => answers_of (fun _ => rfl) fun s hc => if_neg ?_
    simpa using hc
  case scrubBad =>
    refine fun die place => answers_of (fun _ => rfl) fun s hc => if_neg ?_
    simpa using hc
  case noScrub =>
    refine fun die place => answers_of (fun _ => rfl) fun s hc => if_pos ?_
    simpa using hc
  case eyeGood =>
    refine fun isLane index opening ho => answers_of (fun _ => rfl) fun s hc => ?_
    rw [Bool.and_eq_true] at hc
    exact (if_neg (by simp [hc.1])).trans ((every_of_due hc.2).trans (if_neg (Nat.not_lt.mpr ho)))
  case eyeLow =>
    refine fun isLane index opening ho => answers_of (fun _ => rfl) fun s hc => ?_
    rw [Bool.and_eq_true] at hc
    exact (if_neg (by simp [hc.1])).trans ((every_of_due hc.2).trans (if_pos ho))
  case noEye =>
    refine fun isLane index opening => answers_of (fun _ => rfl) fun s hc => ?_
    simp only [Bool.or_eq_true, Bool.not_eq_true'] at hc
    split
    · rfl
    next ht => exact every_of_not_due (hc.resolve_left (by simpa using ht))
  case katGood =>
    refine answers_of (fun _ => rfl) fun s hc => ?_
    rw [Bool.and_eq_true] at hc
    exact (if_neg (by simp [hc.1])).trans (every_of_due hc.2)
  case katBad =>
    refine answers_of (fun _ => rfl) fun s hc => ?_
    rw [Bool.and_eq_true] at hc
    exact (if_neg (by simp [hc.1])).trans (every_of_due hc.2)
  case katEarly =>
    refine fun ok => answers_of (fun _ => rfl) fun s hc => ?_
    simp only [Bool.not_eq_true'] at hc
    split
    · rfl
    · exact every_of_not_due hc
  case golden =>
    refine fun array vector => answers_of (fun _ => rfl) fun s hc => ?_
    simp only [Bool.and_eq_true, decide_eq_true_eq, testsRun, bne_iff_ne] at hc
    obtain ⟨⟨ha, ht⟩, hd⟩ := hc
    exact (if_neg (by simp [ht, Nat.not_le.mpr ha])).trans (every_of_due hd)
  case goldenBad =>
    refine fun array vector => answers_of (fun _ => rfl) fun s hc => ?_
    simp only [Bool.and_eq_true, decide_eq_true_eq, testsRun, bne_iff_ne] at hc
    obtain ⟨⟨ha, ht⟩, hd⟩ := hc
    refine (if_neg (by simp [ht, Nat.not_le.mpr ha])).trans ((every_of_due hd).trans (goldenFails_eq ..))
  case noGolden =>
    refine fun array vector ok => answers_of (fun _ => rfl) fun s hc => ?_
    simp only [Bool.or_eq_true, Bool.not_eq_true', decide_eq_true_eq, testsRun, bne_eq_false_iff_eq] at hc
    split
    · rfl
    next hn => exact every_of_not_due (hc.resolve_left hn)
  case noKat => exact fun ok => answers_pos (fun _ => rfl) fun s hc => hc
  case request => exact fun l p => answers_of (fun _ => rfl) fun s hc => leashTag_of_tagged hc
  case wrongEcho =>
    refine fun l p hp => answers_of (fun _ => rfl) fun s hc => ?_
    simp only [Bool.and_eq_true, decide_eq_true_eq] at hc
    refine (leashTag_of_tagged hc.1.1).trans ?_
    have hl : (laneSt (leashPassed l s) l.lane).loopSent = true := by rw [laneSt_leashPassed]; exact hc.1.2
    have hf : ¬ 3 ≤ (laneSt (leashPassed l s) l.lane).loopFail + 1 := by rw [laneSt_leashPassed]; show ¬ 3 ≤ (laneSt s l.lane).loopFail + 1; omega
    simp only [hl, if_true, beq_false_of_ne hp]
    exact loopback_failed.trans (if_neg hf)
  case wrongEchoDown =>
    refine fun l p hp => answers_of (fun _ => rfl) fun s hc => ?_
    simp only [Bool.and_eq_true, decide_eq_true_eq] at hc
    refine (leashTag_of_tagged hc.1.1).trans ?_
    have hl : (laneSt (leashPassed l s) l.lane).loopSent = true := by rw [laneSt_leashPassed]; exact hc.1.2
    have hf : 3 ≤ (laneSt (leashPassed l s) l.lane).loopFail + 1 := by rw [laneSt_leashPassed]; show 3 ≤ (laneSt s l.lane).loopFail + 1; omega
    simp only [hl, if_true, beq_false_of_ne hp]
    exact loopback_failed.trans (if_pos hf)
  case idleEcho =>
    refine fun l p => answers_of (fun _ => rfl) fun s hc => ?_
    rw [Bool.and_eq_true, Bool.not_eq_true'] at hc
    refine (leashTag_of_tagged hc.1).trans (if_neg ?_)
    rw [laneSt_leashPassed]
    exact ne_true_of_eq_false hc.2

/-! ### Functions (15 R457 to R472) -/

/-- A VF that is not ON is reset without a change of its state. -/
theorem resetVf_of_not_on {cause v : Nat} {s : State} (ha : (vfSt s v).admission ≠ .resetting) (ho : (vfSt s v).o.obj ≠ .on) :
    resetVf cause v s = resetFunc (v + 1) (bump (.vfn v 2) s) := (if_neg ha).trans (if_pos ho)

/-- A quiesced VF is reset without another quiesce. -/
theorem resetVf_of_quiesced {cause v : Nat} {s : State} (ha : (vfSt s v).admission = .quiesced) (ho : (vfSt s v).o.obj = .on) :
    resetVf cause v s = resetFunc (v + 1)
      (changeVf v cause { vfSt s v with admission := .resetting, flrRaw := s.tim.raw } (bump (.vfn v 2) s)) := by
  simp only [resetVf, ha, ho, reduceCtorEq, ne_eq, not_true_eq_false, if_true, if_false]

/-- Settles O38: each row takes the branch that the clause names. -/
theorem functionRowsAct : Obligations.FunctionRowsAct := by
  refine ⟨?started, ?notStarting, ?quiesced, ?notQuiescing, ?flrOff, ?flrQuiesced, ?noFlr, ?flrDone, ?flrNotDone, fun _ _ _ _ => rfl,
    fun _ _ => rfl⟩
  case started =>
    refine fun vf => answers_of (fun _ => rfl) fun s hc => ?_
    simp [of_decide_eq_true hc, objStarted]
  case notStarting => exact fun vf => answers_pos (fun _ => rfl) fun s hc => of_decide_eq_true hc
  case quiesced =>
    refine fun vf b => answers_of (fun _ => rfl) fun s hc => ?_
    simp only [Bool.and_eq_true (_ && _) (_ == _), Bool.and_eq_true (decide _) (!_), Bool.not_eq_true', decide_eq_true_eq, beq_iff_eq (a := (vfSt s vf).quiesceCmd)] at hc
    obtain ⟨⟨⟨ho, ha⟩, hout⟩, hb⟩ := hc
    refine (if_pos ⟨ho, ha, hout⟩).trans ?_
    simp only [hb]
  case notQuiescing =>
    refine fun vf => answers_neg (fun _ => rfl) fun s hc ⟨_, ha, ho⟩ => ?_
    simp [ha, ho] at hc
  case flrOff =>
    refine fun vf => answers_of (fun _ => rfl) fun s hc => ?_
    simp only [Bool.and_eq_true, decide_eq_true_eq] at hc
    obtain ⟨he, ha, ho⟩ := hc
    exact (if_neg (by simp [he, ha])).trans ((if_pos ho).trans (resetVf_of_not_on ha ho))
  case flrQuiesced =>
    refine fun vf => answers_of (fun _ => rfl) fun s hc => ?_
    simp only [Bool.and_eq_true, decide_eq_true_eq] at hc
    obtain ⟨he, ha, ho⟩ := hc
    refine (if_neg (by simp [he, ha])).trans ((if_neg (not_not_intro ho)).trans ?_)
    rw [resetVf_of_quiesced ha ho]
  case noFlr => exact fun vf => answers_pos (fun _ => rfl) fun s hc => by simpa using hc
  case flrDone => exact fun vf => answers_pos (fun _ => rfl) fun s hc => of_decide_eq_true hc
  case flrNotDone =>
    exact fun vf => answers_neg (fun _ => rfl) fun s hc h => (of_decide_eq_true hc).elim (fun hn => hn h.1) (fun hn => hn h.2)

/-! ### Keys (17 R511, R515, R522 to R530) -/

/-- A key that is not in the PERSIST banks is the volatile one. -/
theorem current_of_bank_none {x : SlotSt} (h : x.bankOf x.bank = none) : x.current = x.cur := by simp only [SlotSt.current, h]

/-- Without a volatile key the CURRENT one is that of the bank. -/
theorem bank_of_current {x : SlotSt} {k : Key} (h : x.current = some k) (hv : x.cur = none) : x.bankOf x.bank = some k := by
  cases hb : x.bankOf x.bank with
  | none => rw [current_of_bank_none hb, hv] at h; cases h
  | some k' => simpa only [SlotSt.current, hb] using h

/-- Settles O39: each row takes the branch that the clause names. -/
theorem keyRowsAct : Obligations.KeyRowsAct := by
  refine ⟨?rollEngine, ?roll, ?noRoll, ?persist, ?persistEarly, ?volatile, ?volatileEarly, ?entropy, ?noRemask, ?activate, ?lowSvn,
    ?unsigned, ?noActivate, ?trip, ?tripRetain, ?unarmed, ?unpowered, ?powered⟩
  case rollEngine =>
    refine fun slot k r hk => answers_of (fun _ => rfl) fun s hc => ?_
    simp only [Bool.and_eq_true, beq_iff_eq, decide_eq_true_eq] at hc
    simp only [hc.1]
    exact if_neg (by rw [if_neg hk]; exact Nat.not_lt.mpr hc.2)
  case roll =>
    refine fun slot k r hk => answers_of (fun _ => rfl) fun s hc => ?_
    simp only [Bool.and_eq_true, beq_iff_eq, decide_eq_true_eq] at hc
    simp only [hc.1]
    exact if_neg (by rw [if_pos hk, rawMs, Nat.mul_comm]; exact Nat.not_lt.mpr hc.2)
  case noRoll =>
    refine fun slot => answers_of (fun _ => rfl) fun s hc => ?_
    simp only [Option.isNone_iff_eq_none.mp hc, id]
  case persist =>
    refine fun slot k _ => answers_of (fun _ => rfl) fun s hc => ?_
    simp only [Bool.and_eq_true, decide_eq_true_eq, beq_iff_eq, Option.isNone_iff_eq_none] at hc
    obtain ⟨⟨⟨⟨⟨hr, hcur⟩, hp⟩, hro⟩, hv⟩, hd⟩ := hc
    refine (if_neg (by simp [hr, hcur])).trans ?_
    simp only [hp, hro, hv, bank_of_current hcur hv, Option.isSome_none, Bool.or_self, Bool.not_true, Bool.false_eq_true, if_false]
    exact every_of_due hd
  case persistEarly =>
    refine fun slot k _ => answers_of (fun _ => rfl) fun s hc => ?_
    simp only [Bool.and_eq_true, Bool.not_eq_true', decide_eq_true_eq, beq_iff_eq, Option.isNone_iff_eq_none] at hc
    obtain ⟨⟨⟨⟨⟨hr, hcur⟩, hp⟩, hro⟩, hv⟩, hd⟩ := hc
    refine (if_neg (by simp [hr, hcur])).trans ?_
    simp only [hp, hro, hv, bank_of_current hcur hv, Option.isSome_none, Bool.or_self, Bool.not_true, Bool.false_eq_true, if_false]
    exact every_of_not_due hd
  case volatile =>
    refine fun slot => answers_of (fun _ => rfl) fun s hc => ?_
    simp only [Bool.and_eq_true, decide_eq_true_eq, Option.isNone_iff_eq_none] at hc
    obtain ⟨⟨⟨hr, hv⟩, hb⟩, hd⟩ := hc
    have hsome : ((slotSt s slot).cur.isNone && (slotSt s slot).pending.isNone && (slotSt s slot).rolled.isNone) = false := by
      cases hcur : (slotSt s slot).cur <;> cases hp : (slotSt s slot).pending <;> simp_all
    refine (if_neg (by simp [hr, current_of_bank_none hb, hsome])).trans ?_
    simp only [hb, hv, Bool.true_or, Bool.not_true, Bool.false_eq_true, if_true, if_false]
    exact every_of_due hd
  case volatileEarly =>
    refine fun slot => answers_of (fun _ => rfl) fun s hc => ?_
    simp only [Bool.and_eq_true, Bool.not_eq_true', decide_eq_true_eq, Option.isNone_iff_eq_none] at hc
    obtain ⟨⟨⟨hr, hv⟩, hb⟩, hd⟩ := hc
    have hsome : ((slotSt s slot).cur.isNone && (slotSt s slot).pending.isNone && (slotSt s slot).rolled.isNone) = false := by
      cases hcur : (slotSt s slot).cur <;> cases hp : (slotSt s slot).pending <;> simp_all
    refine (if_neg (by simp [hr, current_of_bank_none hb, hsome])).trans ?_
    simp only [hb, hv, Bool.true_or, Bool.not_true, Bool.false_eq_true, if_true, if_false]
    exact every_of_not_due hd
  case entropy =>
    refine fun slot => answers_of (fun _ => rfl) fun s hc => ?_
    simp only [Bool.and_eq_true, decide_eq_true_eq] at hc
    refine (if_neg ?_).trans (if_pos rfl)
    have hn : (slotSt s slot).current.isNone = false := by rw [← Option.not_isSome, hc.2]; rfl
    simp [hc.1, hn]
  case noRemask => exact fun slot ok => answers_pos (fun _ => rfl) fun s hc => by simpa using hc
  case activate =>
    refine fun sign svn release b => answers_of (fun _ => rfl) fun s hc => ?_
    simp only [Bool.and_eq_true, decide_eq_true_eq, beq_iff_eq] at hc
    obtain ⟨⟨ha, hs⟩, hl, hh⟩ := hc
    have hsvn : ¬ (svn < s.key.rollback ∨ 64 < svn) := by omega
    simp only [ha, hs, hsvn, Bool.not_true, Bool.false_eq_true, if_true, if_false]
  case lowSvn =>
    refine fun sign svn release b => answers_of (fun _ => rfl) fun s hc => ?_
    simp only [Bool.and_eq_true, decide_eq_true_eq, beq_iff_eq] at hc
    obtain ⟨⟨ha, hs⟩, hsvn⟩ := hc
    have h2 : ¬ (2 : Nat) = 0 := by decide
    simp only [ha, hs, hsvn, h2, Bool.not_true, Bool.false_eq_true, if_true, if_false]
  case unsigned =>
    refine fun sign svn release b => answers_of (fun _ => rfl) fun s hc => ?_
    simp only [Bool.and_eq_true, Bool.not_eq_true', beq_iff_eq] at hc
    simp only [hc, Bool.not_false, if_true, Nat.one_ne_zero, if_false]
  case noActivate =>
    refine fun sign svn release => answers_of (fun _ => rfl) fun s hc => ?_
    simp only [Option.isNone_iff_eq_none.mp hc, id]
  case trip =>
    refine fun cause => answers_of (fun _ => rfl) fun s hc => ?_
    simp only [Bool.and_eq_true, Bool.not_eq_true', decide_eq_true_eq] at hc
    exact (if_neg (by simp [hc.1])).trans (if_neg (ne_true_of_eq_false hc.2))
  case tripRetain =>
    refine fun cause => answers_of (fun _ => rfl) fun s hc => ?_
    simp only [Bool.and_eq_true, decide_eq_true_eq] at hc
    exact (if_neg (by simp [hc.1])).trans (if_pos hc.2)
  case unarmed => exact fun cause => answers_pos (fun _ => rfl) fun s hc => .inr (by simpa using hc)
  case unpowered =>
    refine fun cause => answers_of (fun _ => rfl) fun s hc => ?_
    simp only [Bool.and_eq_true, Bool.not_eq_true', decide_eq_true_eq] at hc
    obtain ⟨⟨hw, ha⟩, hg⟩ := hc
    refine (if_neg (by simp [hw, ha])).trans ?_
    simp only [hg, Bool.false_eq_true, if_false]
  case powered => exact fun cause => answers_pos (fun _ => rfl) fun s hc => .inl (of_decide_eq_true hc)

end Sys2Proof.Machine
end SelfTestRows

/-! Family other: the rows of the backup domain and of power, and what a scan writes. -/
section PowerRows
-- One proof after another: the stacks of proofs elaborated side by side exceed the memory of the check.
set_option Elab.async false
namespace Sys2Proof.Machine

open Safety

/-! ### The backup domain (18 R539 to R555) -/

/-- A cell below 2.7 V is flagged and recorded. -/
theorem cellResult_of_low {mv : Nat} (h : mv < 2700) (s : State) :
    cellResult mv s = raise 0x0F02 mv 0 0 { s with bkd := { s.bkd with vcell := mv, lastCell := mv, cellLow := true } } := by
  simp only [cellResult, h, if_true]

/-- A cell of at least 2.8 V ends the flag. -/
theorem cellResult_of_good {mv : Nat} (h : 2800 ≤ mv) (s : State) :
    cellResult mv s = { s with bkd := { s.bkd with vcell := mv, lastCell := mv, cellLow := false } } := by
  have hl : ¬ mv < 2700 := by omega
  simp only [cellResult, hl, h, if_true, if_false]

/-- Between the two limits the flag stays. -/
theorem cellResult_of_between {mv : Nat} (hl : 2700 ≤ mv) (hh : mv < 2800) (s : State) :
    cellResult mv s = { s with bkd := { s.bkd with vcell := mv, lastCell := mv } } := by
  simp only [cellResult, Nat.not_lt.mpr hl, Nat.not_le.mpr hh, if_false]

/-- Settles O40: each row takes the branch that the clause names. -/
theorem backupRowsAct : Obligations.BackupRowsAct := by
  refine ⟨?alarm, ?early, ?noAlarm, ?request, ?waits, ?halt, ?noHalt, ?overrange, ?overrangeOff, ?leap, ?noLeap, ?trim,
    ?trimOff, ?fromCell, ?fromMain, ?cellLow, ?cellGood, ?cellBetween, ?cellEarly, ?cellOff, ?resetOff, ?resetOn⟩
  case alarm =>
    refine fun c => answers_of (fun _ => rfl) fun s hc => ?_
    simp only [Bool.and_eq_true, Bool.not_eq_true', decide_eq_true_eq, beq_iff_eq] at hc
    obtain ⟨⟨⟨ha, -⟩, hh⟩, ht⟩ := hc
    simp only [ha]
    exact if_neg (by simp [hh, ht])
  case early =>
    refine fun c => answers_of (fun _ => rfl) fun s hc => ?_
    simp only [Bool.and_eq_true, decide_eq_true_eq, beq_iff_eq] at hc
    obtain ⟨⟨ha, hm⟩, ht⟩ := hc
    simp only [ha]
    exact if_pos (by simp [hm, ht])
  case noAlarm =>
    refine answers_of (fun _ => rfl) fun s hc => ?_
    simp only [Option.isNone_iff_eq_none.mp hc, id]
  case request =>
    refine fun d => answers_of (fun _ => rfl) fun s hc => ?_
    simp only [Bool.and_eq_true, decide_eq_true_eq, beq_iff_eq] at hc
    obtain ⟨⟨hr, -⟩, hd⟩ := hc
    have hl : reqLeft s d = 0 := Nat.sub_eq_zero_of_le hd
    simp only [hr, hl]
    exact if_neg (by simp)
  case waits =>
    refine fun d => answers_of (fun _ => rfl) fun s hc => ?_
    simp only [Bool.and_eq_true, decide_eq_true_eq, beq_iff_eq] at hc
    obtain ⟨⟨hr, hm⟩, hd⟩ := hc
    have hl : 0 < reqLeft s d := Nat.sub_pos_of_lt hd
    simp only [hr]
    exact if_pos (by simp [hm, hl])
  case halt => exact answers_pos (fun _ => rfl) fun s hc => hc
  case noHalt => exact answers_neg (fun _ => rfl) fun s hc => ne_true_of_eq_false ((Bool.not_eq_true' _).mp hc)
  case overrange => exact answers_pos (fun _ => rfl) fun s hc => hc
  case overrangeOff => exact answers_neg (fun _ => rfl) fun s hc => by simpa using hc
  case leap =>
    refine answers_of (fun _ => rfl) fun s hc => ?_
    simp only [Bool.and_eq_true, Bool.not_eq_true', decide_eq_true_eq] at hc
    obtain ⟨⟨⟨⟨⟨⟨hl, hv⟩, hh⟩, hm⟩, h61⟩, hends⟩, hday⟩ := hc
    exact (if_neg (by simp [hl, hv, hh, hm])).trans (if_pos ⟨h61, hends, hday⟩)
  case noLeap =>
    refine answers_pos (fun _ => rfl) fun s hc => ?_
    simp only [Bool.or_eq_true, Bool.not_eq_true', decide_eq_true_eq] at hc
    exact hc.elim (·.imp_right .inl) fun hh => .inr (.inr (.inl hh))
  case trim =>
    refine fun ticks => answers_of (fun _ => rfl) fun s hc => if_neg ?_
    simp only [Bool.and_eq_true, Bool.not_eq_true', decide_eq_true_eq] at hc
    obtain ⟨⟨⟨⟨⟨he, hl⟩, hv⟩, hh⟩, hm⟩, ht⟩ := hc
    simp [he, hl, hv, hh, hm, ht]
  case trimOff => exact fun ticks => answers_pos (fun _ => rfl) fun s hc => .inl (of_decide_eq_true hc)
  case fromCell =>
    refine fun vmain vcell => answers_of (fun _ => rfl) fun s hc => ?_
    simp only [hc, if_true]
  case fromMain =>
    refine fun vmain vcell => answers_of (fun _ => rfl) fun s hc => ?_
    rw [Bool.not_eq_true'] at hc
    simp only [hc, Bool.false_eq_true, if_false]
  case cellLow =>
    refine fun mv hv => answers_of (fun _ => rfl) fun s hc => ?_
    rw [Bool.and_eq_true] at hc
    exact (if_neg (by simp [hc.1])).trans ((every_of_due hc.2).trans (cellResult_of_low hv _))
  case cellGood =>
    refine fun mv hv => answers_of (fun _ => rfl) fun s hc => ?_
    rw [Bool.and_eq_true] at hc
    exact (if_neg (by simp [hc.1])).trans ((every_of_due hc.2).trans (cellResult_of_good hv _))
  case cellBetween =>
    refine fun mv hl hh => answers_of (fun _ => rfl) fun s hc => ?_
    rw [Bool.and_eq_true] at hc
    exact (if_neg (by simp [hc.1])).trans ((every_of_due hc.2).trans (cellResult_of_between hl hh _))
  case cellEarly =>
    refine fun mv => answers_of (fun _ => rfl) fun s hc => ?_
    rw [Bool.not_eq_true'] at hc
    split
    · rfl
    · exact every_of_not_due hc
  case cellOff => exact fun mv => answers_pos (fun _ => rfl) fun s hc => hc
  case resetOff =>
    refine answers_neg (fun _ => rfl) fun s hc => ?_
    simpa using hc
  case resetOn => exact answers_pos (fun _ => rfl) fun s hc => hc

/-! ### Power (19 R556 to R590) -/

/-- A module that is off looks for an image that it may boot. -/
theorem powerGood_of_off {aOk bOk : Bool} {dies clusters : List Nat} {out : StartTests} {s : State}
    (h : s.pwr.phase ≠ .running ∧ s.pwr.phase ≠ .flushing) :
    exec (.powerGood aOk bOk dies clusters out) s = .next (match bootImage s aOk bOk with
      | some i => if dies.contains 0 then deadStart s else startUp i dies clusters out s
      | none => deadStart s) := by
  obtain ⟨hr, hf⟩ := h
  show execPowerGood aOk bOk dies clusters out s = _
  cases hp : s.pwr.phase with
  | running => exact absurd hp hr
  | flushing => exact absurd hp hf
  | reset | waiting | dead => simp only [execPowerGood, hp] <;> rfl

/-- What an enabled restore does (19 R571). -/
theorem configRestore_of_trigger {ok : Bool} {t : Nat} {s : State}
    (h : (decide (s.pwr.phase = .running) && !s.pwr.restored && !s.key.restricted && restoreTrigger s == some t) = true) :
    exec (.configRestore ok) s = .next (restore t (if ok then markedBank s else none) s) := by
  simp only [Bool.and_eq_true, Bool.not_eq_true', decide_eq_true_eq, beq_iff_eq] at h
  obtain ⟨⟨⟨hp, hr⟩, hk⟩, ht⟩ := h
  refine congrArg Host.Outcome.next ((if_neg (by simp [hp, hr, hk])).trans ?_)
  simp only [ht]

/-- A domain whose state can change: of a die in service, while the module runs. -/
theorem domain_served {s : State} {die dom : Nat} (hp : s.pwr.phase = .running) (hdie : hasDie s die = true) (hd : dom ≤ 11)
    (hx : s.plm.exclDies.contains die = false) :
    ¬ (s.pwr.phase ≠ .running ∨ hasDie s die = false ∨ 11 < dom ∨ s.plm.exclDies.contains die = true) := by
  rintro (h | h | h | h)
  · exact h hp
  · exact Bool.false_ne_true (h.symm.trans hdie)
  · omega
  · exact Bool.false_ne_true (hx.symm.trans h)

/-- Settles O41: each row takes the branch that the clause names. -/
theorem powerRowsAct : Obligations.PowerRowsAct := by
  refine ⟨?good, ?dead, ?on, ?restore, ?noStore, ?noRestore, ?fail, ?restart, ?restartWaits, ?noRestart, ?noFail, ?eject, ?ejectOff, ?free,
    ?stays, ?wake, ?wakeLate, ?noWake, ?input, ?inputWaits, ?release, ?temp, ?noTemp⟩
  case good =>
    intro aOk bOk dies clusters out i h0 s hc
    simp only [Bool.and_eq_true, decide_eq_true_eq, beq_iff_eq] at hc
    rw [powerGood_of_off hc.1]
    simp only [hc.2, h0, Bool.false_eq_true, if_false]
  case dead =>
    intro aOk bOk dies clusters out s hc
    simp only [Bool.and_eq_true, Bool.or_eq_true, decide_eq_true_eq] at hc
    rw [powerGood_of_off hc.1]
    cases hb : bootImage s aOk bOk with
    | none => rfl
    | some i => exact congrArg _ (if_pos (hc.2.resolve_left (by simp [hb])))
  case on =>
    refine fun aOk bOk dies clusters out => answers_of (fun _ => rfl) fun s hc => ?_
    obtain hp | hp := of_decide_eq_true hc <;> simp only [hp, id]
  case restore => exact fun t s hc => configRestore_of_trigger hc
  case noStore => exact fun t s hc => configRestore_of_trigger hc
  case noRestore =>
    refine fun ok => answers_of (fun _ => rfl) fun s hc => ?_
    simp only [Bool.or_eq_true, decide_eq_true_eq, Option.isNone_iff_eq_none] at hc
    split
    · rfl
    next hn =>
      simp only [hc.resolve_left (mt or_assoc.mp hn), id]
  case fail =>
    refine fun source hs => answers_of (fun _ => rfl) fun s hc => ?_
    have hp := of_decide_eq_true hc
    exact (if_neg (by simp [hp]; omega)).trans (if_neg (by omega))
  case restart =>
    refine fun r => answers_of (fun _ => rfl) fun s hc => ?_
    obtain ⟨hp, hr, ht⟩ := of_decide_eq_true hc
    refine (if_neg (by simp [hp])).trans ((if_pos rfl).trans ?_)
    simp only [hr]
    exact if_neg (Nat.not_lt.mpr ht)
  case restartWaits =>
    refine fun r => answers_of (fun _ => rfl) fun s hc => ?_
    obtain ⟨hr, ht⟩ := of_decide_eq_true hc
    simp only [hr, ht, if_true, id, ite_self]
  case noRestart =>
    refine answers_of (fun _ => rfl) fun s hc => ?_
    simp only [Option.isNone_iff_eq_none.mp hc, if_true, id, ite_self]
  case noFail => exact fun source => answers_pos (fun _ => rfl) fun s hc => of_decide_eq_true hc
  case eject => exact answers_pos (fun _ => rfl) fun s hc => of_decide_eq_true hc
  case ejectOff => exact answers_neg (fun _ => rfl) fun s hc => of_decide_eq_true hc
  case free =>
    refine fun die dom until_ => answers_of (fun _ => rfl) fun s hc => ?_
    simp only [Bool.and_eq_true, Bool.not_eq_true', decide_eq_true_eq] at hc
    obtain ⟨⟨⟨hp, hd, hne⟩, hdie⟩, hx⟩ := hc
    exact (if_neg (domain_served hp hdie hd hx)).trans (if_neg hne)
  case stays =>
    refine fun die dom until_ => answers_of (fun _ => rfl) fun s hc => ?_
    simp only [Bool.or_eq_true, decide_eq_true_eq] at hc
    split
    · rfl
    next hn => exact if_pos (hc.resolve_left fun h => hn (h.imp_right fun hd => .inr (.inl hd)))
  case wake =>
    refine fun die dom waited t => answers_of (fun _ => rfl) fun s hc => ?_
    simp only [Bool.and_eq_true, Bool.not_eq_true', decide_eq_true_eq, beq_iff_eq] at hc
    obtain ⟨⟨⟨⟨⟨hp, hd, hst⟩, hdie⟩, hx⟩, ht⟩, hw⟩ := hc
    have hserved := domain_served hp hdie hd hx
    refine (if_neg fun h => hserved (h.imp_right (·.imp_right (·.imp_right (·.resolve_right hst))))).trans ?_
    simp only [ht]
    exact if_neg (Nat.not_lt.mpr hw)
  case wakeLate =>
    refine fun die dom waited t => answers_of (fun _ => rfl) fun s hc => ?_
    simp only [Bool.and_eq_true, Bool.not_eq_true', decide_eq_true_eq, beq_iff_eq] at hc
    obtain ⟨⟨⟨⟨⟨hp, hd, hst⟩, hdie⟩, hx⟩, ht⟩, hw⟩ := hc
    have hserved := domain_served hp hdie hd hx
    refine (if_neg fun h => hserved (h.imp_right (·.imp_right (·.imp_right (·.resolve_right hst))))).trans ?_
    simp only [ht]
    exact if_pos hw
  case noWake =>
    refine fun die dom waited => answers_pos (fun _ => rfl) fun s hc => ?_
    exact (of_decide_eq_true hc).imp_right fun h => .inr (h.imp_right .inr)
  case input =>
    refine fun vin iin => answers_of (fun _ => rfl) fun s hc => ?_
    simp only [Bool.and_eq_true, decide_eq_true_eq] at hc
    exact (if_pos hc.1).trans (every_of_due hc.2)
  case inputWaits =>
    refine fun vin iin => answers_of (fun _ => rfl) fun s hc => ?_
    simp only [Bool.or_eq_true, Bool.and_eq_true, Bool.not_eq_true', decide_eq_true_eq] at hc
    obtain ⟨hp, hv⟩ | ⟨hp, hd⟩ := hc
    · refine (if_neg hp).trans (if_neg ?_)
      rintro ⟨h35, hext⟩
      obtain hlow | hx := hv
      · omega
      · exact absurd (hext.symm.trans hx) Bool.false_ne_true
    · exact (if_pos hp).trans (every_of_not_due hd)
  case release =>
    refine fun vin iin hv => answers_of (fun _ => rfl) fun s hc => ?_
    simp only [Bool.and_eq_true, Bool.not_eq_true', decide_eq_true_eq] at hc
    exact (if_neg hc.1).trans (if_pos ⟨hv, hc.2⟩)
  case temp =>
    refine fun air tj => answers_of (fun _ => rfl) fun s hc => ?_
    simp only [Bool.and_eq_true, decide_eq_true_eq] at hc
    exact (if_neg (by simp [hc.1])).trans (every_of_due hc.2)
  case noTemp =>
    refine fun air tj => answers_of (fun _ => rfl) fun s hc => ?_
    simp only [Bool.or_eq_true, Bool.not_eq_true', decide_eq_true_eq] at hc
    split
    · rfl
    next hn => exact every_of_not_due (hc.resolve_left hn)

/-! ### What a scan writes (12 R365, R366) -/

/-- The record of a value that a scan writes: bit [13], and bit [15] when the time quality at its stamp says so. -/
theorem scanWrite_eq (s : State) (sig : Nat) (v : BitVec 128) (sc : Scan) : scanWrite s sig v sc =
    { sc with image := tset sc.image sig ⟨v, if holdAt s sc.stamp then 0xA000 else 0x2000, sc.stamp⟩,
              written := if sc.written.contains sig then sc.written else sc.written ++ [sig] } := by
  cases hh : holdAt s sc.stamp <;> simp only [scanWrite, hh] <;> rfl

theorem scanPut_eq (s : State) (sig : Nat) (b : Bool) (sc : Scan) : scanPut s sig b sc =
    { sc with image := tset sc.image sig ⟨if b then 1 else 0, if holdAt s sc.stamp then 0xA000 else 0x2000, sc.stamp⟩,
              written := if sc.written.contains sig then sc.written else sc.written ++ [sig] } := by
  cases b <;> exact scanWrite_eq ..

/-- An instruction that is no store leaves the working image, and what is written of it. -/
theorem runOp_image_of_no_store (s : State) (op : LogicOp) (x : Nat) (sc : Scan) (t : LTables)
    (h : op ∉ [LogicOp.st, .stn, .set, .rst, .stw, .stwc]) :
    (runOp s op x sc t).1.image = sc.image ∧ (runOp s op x sc t).1.written = sc.written := by
  cases op
  case st | stn | set | rst | stw | stwc => simp at h
  case close => cases hs : sc.stack <;> simp only [runOp, hs, and_self]
  all_goals exact ⟨rfl, rfl⟩

/-- Settles O59: a store writes one record, and no other instruction touches the image. -/
theorem storesWriteTheImage : Obligations.StoresWriteTheImage := by
  refine ⟨?st, ?stn, ?setRst, ?off, ?stw, ?stwc, runOp_image_of_no_store, ?own, ?other⟩
  case st => exact fun s x sc t => congrArg (·, t) (scanPut_eq s x sc.acc sc)
  case stn =>
    refine fun s x sc t => congrArg (·, t) ((scanPut_eq s x (!sc.acc) sc).trans ?_)
    have hb : (if !sc.acc then (1 : BitVec 128) else 0) = if sc.acc then 0 else 1 := by cases sc.acc <;> rfl
    rw [hb]
  case setRst =>
    refine fun s x sc t ha => ⟨congrArg (·, t) ((if_pos ha).trans (scanPut_eq s x true sc)), ?_⟩
    exact congrArg (·, t) ((if_pos ha).trans (scanPut_eq s x false sc))
  case off =>
    refine fun s x sc t ha => ?_
    have hn : ¬ sc.acc = true := ne_true_of_eq_false ha
    exact ⟨congrArg (·, t) (if_neg hn), congrArg (·, t) (if_neg hn), congrArg (·, t) (if_neg hn)⟩
  case stw => exact fun s x sc t => congrArg (·, t) (scanWrite_eq ..)
  case stwc => exact fun s x sc t ha => congrArg (·, t) ((if_pos ha).trans (scanWrite_eq ..))
  case own => exact fun s x sc r h => by simp only [scanRec, h]
  case other => exact fun s x sc h => by simp only [scanRec, h]

end Sys2Proof.Machine

end PowerRows
